-- ==== Sys2Proof/Word.lean ====
section
/-! DEFINITION. The words the part handles: 32-bit shelf words with four byte enables (00_scope.md, Sizes). -/

namespace Sys2Proof

/-- A shelf word, a register word, a clock value: 32 bits. -/
abbrev Word := BitVec 32

/-- One byte of the store. -/
abbrev Byte := BitVec 8

/-- The four byte enables of an access (R127): bit k enables byte k, bits 8k+7 to 8k of the word. -/
abbrev ByteEnables := BitVec 4

/-- A word address of the controller port: 22 address pins, one per word of the 16 MiB space (R127, 10 signals). -/
abbrev WordAddr := BitVec 22

/-- A link tap, 0 to 63, cyclic (R51, R60). -/
abbrev Tap := BitVec 6

/-- Slot numbers run 0 to 23. -/
abbrev SlotNo := Fin 24

/-- Lane numbers run 0 to 3. -/
abbrev LaneNo := Fin 4

/-- Circuit entries are indexed 0 to 4095. -/
abbrev EntryNo := Fin 4096

end Sys2Proof
end

