-- ==== Sys2Proof/Syntax.lean ====
section
/-! DEFINITION. The commands: one constructor of `Instr` for each row of spec/opcode_table.json, with its operands. -/

namespace Sys2Proof

/-- The level of the rail sense or of a card-good input (R2, R3). -/
inductive Level where
  | low
  | good
deriving DecidableEq, Repr

/-- The two link rates: STD 4 Mbit/s, FAST 16 Mbit/s. -/
inductive Rate where
  | std
  | fast
deriving DecidableEq, Repr

/-- The reasons a card's refusal carries (R71): PORT_BUSY 1, NO_PORT 2, NO_REGISTER 3. -/
inductive RefusalReason where
  | portBusy
  | noPort
  | noRegister
deriving DecidableEq, Repr

/-- What a card answers to a release order: done, or a refusal with its reason (R71, R101). -/
inductive ReleaseAnswer where
  | done
  | refusal (reason : RefusalReason)
deriving DecidableEq, Repr

/-- The direction of a controller access, with the data word of a write (R127). -/
inductive Access where
  | read
  | write (data : Word)
deriving DecidableEq, Repr

/-- An endpoint as a request word names it: slot 0 to 31 (24 to 31 are refused later), port 0 to 63 (R86). -/
structure Endpoint where
  slot : BitVec 5
  port : BitVec 6
deriving DecidableEq, Repr

/-- The class and the two endpoints of a circuit request word (R86); the request code is the row's own. -/
structure RequestFields where
  cls : BitVec 2
  a : Endpoint
  b : Endpoint
deriving DecidableEq, Repr

/-- The shadow words of the shelf area (R128). -/
inductive ShadowWord where
  | cw (k : Fin 5)
  | sw (k : Fin 7)
  | sl0 (n : SlotNo)
  | sl1 (n : SlotNo)
  | ss (n : SlotNo) (k : Fin 4)
  | request (i : EntryNo)
  | entryState (i : EntryNo)
deriving DecidableEq, Repr

/-- The kinds of frame (R68): idle, the seven request kinds (R70) and the five reply kinds (R71). -/
inductive FrameKind where
  | idle
  | probe
  | identityQuery
  | clearOrder
  | connectOrder
  | releaseOrder
  | registerRead
  | registerWrite
  | sample
  | identity
  | done
  | refusal
  | registerData
deriving DecidableEq, Repr

/-- What a frame received from a card says it is: an idle frame, one of the five reply kinds with its body, a kind that
is neither, or a frame that the link cut short (R68, R71). -/
inductive FrameContent where
  | idle
  | sample (bit : Bool)
  | identity (type revision : BitVec 16)
  | done
  | refusal (reason : RefusalReason)
  | registerData (data : Word)
  | otherKind
  | cutShort
deriving DecidableEq, Repr

/-- A frame as received: the content and the tag received (an idle frame carries no tag, and the field is then not
read), the rate at which the card sends, and the check received (R68). -/
structure RxFrame where
  content : FrameContent
  tag : BitVec 8
  rate : Rate
  check : BitVec 16
deriving DecidableEq, Repr

/-- The commands of the part, one per row of the table. -/
inductive Instr where
  | powerOnReset (area : BitVec 6) (filtHigh : Bool)
  | controllerReset
  | controllerResetRelease
  | railSenseChange (level : Level)
  | railDeclaredLow
  | railDeclaredGood
  | cardGoodChange (slot : SlotNo) (level : Level)
  | cardGoodDeclaredGood (slot : SlotNo)
  | cardGoodDeclaredLow (slot : SlotNo)
  | settleTimerExpiry
  | recoveryEnds
  | sagNoticeSlots
  | sagNoticeCircuits
  | sagNoticeRestore
  | recoverNoticeSlots
  | recoverNoticeRestore
  | normalNotice
  | departureNoticeLink (slot : SlotNo)
  | departureNoticeCircuits (slot : SlotNo)
  | resetPulseExpiry (slot : SlotNo)
  | bootTimeout (slot : SlotNo)
  | idleFrame (slot : SlotNo)
  | laneGrant
  | sampleReply (slot : SlotNo) (tag : BitVec 8) (bit : Bool)
  | probeTimeout (slot : SlotNo)
  | identityReply (slot : SlotNo) (tag : BitVec 8) (type revision : BitVec 16)
  | clearOrderDone (slot : SlotNo) (tag : BitVec 8)
  | connectDone (slot : SlotNo) (tag : BitVec 8)
  | connectRefusal (slot : SlotNo) (tag : BitVec 8) (reason : RefusalReason)
  | releaseResult (slot : SlotNo) (tag : BitVec 8) (answer : ReleaseAnswer)
  | registerDataReply (slot : SlotNo) (tag : BitVec 8) (data : Word)
  | registerWriteDone (slot : SlotNo) (tag : BitVec 8)
  | registerRefusal (slot : SlotNo) (tag : BitVec 8) (reason : RefusalReason)
  | discardedFrame (slot : SlotNo) (frame : RxFrame)
  | exchangeRetry (slot : SlotNo)
  | identTimeout (slot : SlotNo)
  | linkLossDeclared (slot : SlotNo)
  | linkLoss (slot : SlotNo)
  | registerTimeout (slot : SlotNo)
  | chooseNextExchange (slot : SlotNo)
  | issue
  | drained
  | barrierTimerExpiry
  | plainAccess (addr : WordAddr) (access : Access) (enables : ByteEnables)
  | plainAccessDone (storeWord : Word)
  | storePortArbitration
  | journalWordDone
  | windowRead (slot : SlotNo) (index : BitVec 10)
  | windowWrite (slot : SlotNo) (index : BitVec 10) (data : Word) (mask : ByteEnables)
  | deferredWindowOffer
  | settableWordWrite (word : ShadowWord) (data : Word) (enables : ByteEnables)
  | restoreFloorWrite (data : Word) (enables : ByteEnables)
  | attentionEnableWrite (enable : Bool)
  | journalTailWrite (tail : BitVec 8)
  | relinkAll
  | releaseAll
  | relink (slot : SlotNo)
  | relinkReset (slot : SlotNo)
  | quiesce (slot : SlotNo)
  | resume (slot : SlotNo)
  | connect (entry : EntryNo) (fields : RequestFields) (enables : ByteEnables)
  | release (entry : EntryNo) (fields : RequestFields) (enables : ByteEnables)
  | noneRequest (entry : EntryNo) (fields : RequestFields) (enables : ByteEnables)
  | badRequest (entry : EntryNo) (enables : ByteEnables)
  | clockAdvance
  | powerOnResetAsserted
deriving DecidableEq, Repr

end Sys2Proof
end

