-- ==== Sys2Proof/Decode.lean ====
section
/-! DEFINITION. Decoding: the part is a block that takes commands, and no row of spec/opcode_table.json gives bits, so
no word spells a command (log entry 24). The bus accesses that become commands are classified in Machine/Operands.lean
and named in Machine/Shadow.lean. -/

namespace Sys2Proof

/-- The command that a word spells by the table's bits: none, since the table gives no row any bits. -/
def decodeTableWord (_nbits _w : Nat) : Option Instr := none

end Sys2Proof
end

