-- ==== Sys2Proof/Config.lean ====
section
/-! DEFINITION. The sizes that the part fixes, and what the spec leaves open of the bits of a frame (log entry 9) and of
the instants of commands (log entry 10). Every length of time and every code a rule gives stands with the operation that
uses it, under Machine/. -/

namespace Sys2Proof.Config

/-- The identity word SW0 (R150): part 0x7140, revision 0x01, vendor code 0x4F. -/
def identityWord : Word := 0x7140014F#32

/-- The shelf area: 256 KiB, placed in units of its own size by the AREA strap (R127). -/
def areaBytes : Nat := 262144

/-- The code of each kind of frame: R68 gives it 8 bits and no value. Free values (log entry 9). -/
opaque kindCode : FrameKind → BitVec 8

/-- Whether the high bit of a field is sent first: R68 does not say. A free value (log entry 9). -/
opaque highBitFirst : Bool

/-- What stands at a place of an order's body that the order does not use: R68 gives the body one length, whether it
names one port or two, and does not fill it. Free values (log entry 9). -/
opaque absentField : Nat → BitVec 8

/-- At which of its sixteenths the commands of a microsecond come, by the microseconds elapsed: the time base counts whole
ones. A free value (log entry 10). -/
opaque instant : Nat → BitVec 4

end Sys2Proof.Config
end

