-- ==== Sys2Proof/Machine/State.lean ====
section
/-! DEFINITION. The state of the part, block by block, as plain data, and the state right after the release of power-on
reset. -/

namespace Sys2Proof.Machine

/-- The spec gives the part no fault that stops it (INVENTORY.md, Faults): there is no constructor. -/
inductive Fault where
deriving DecidableEq, Repr

/-- Why a command has no meaning. -/
inductive Refusal where
  /-- Raised by `exec` alone, for a row of the table that has no meaning yet; no row is left so. Safe. -/
  | notModelled (mnemonic : String)
deriving DecidableEq, Repr

/-! ## Supply Watch (R1 to R21) -/

/-- A timer: stopped, or running with an expiry time on the millisecond clock (R1). -/
abbrev Timer := Option Word

/-- One input filter (R2, R3): the raw input, the declared level and at most one pending change with the clock value
at which it opened. -/
structure Filter where
  raw : Level
  declared : Level
  change : Option Word
deriving DecidableEq, Repr

/-- The shelf states (R4): NORMAL 0, SAG 1, SETTLE 2, RECOVER 3. -/
inductive ShelfState where
  | normal
  | sag
  | settle
  | recover
deriving DecidableEq, Repr

/-- The classification of an episode (R17): none 0, SHORT 1, LONG 2, FORCED 3. -/
inductive Classification where
  | none
  | short
  | long
  | forced
deriving DecidableEq, Repr

/-- Supply Watch: the time base, the filters, the shelf state and the episode record. `elapsed` counts the microseconds of
the base from the release of power-on reset and does not wrap: the frames on the links are placed in it (R1, R68). -/
structure Supply where
  clock : Word
  micro : Nat
  elapsed : Nat
  filtHigh : Bool
  rail : Filter
  cards : Vector Filter 24
  shelf : ShelfState
  episode : BitVec 16
  startStamp : Word
  runDuration : BitVec 16
  settleTimer : Timer
  lastDuration : BitVec 16
  lastClass : Classification
deriving DecidableEq, Repr

/-! ## Slot Sequencer (R22 to R50) -/

/-- The ten slot states, in the order of their codes. -/
inductive SlotState where
  | empty
  | booting
  | pending
  | training
  | identify
  | linked
  | held
  | failed
  | mismatch
  | offline
deriving DecidableEq, Repr

/-- The relink mode: FULL 0, VERIFY 1. -/
inductive Mode where
  | full
  | verify
deriving DecidableEq, Repr

/-- The last failure reason: none 0, NO_EDGE 1, SPREAD 2, BOOT_TIMEOUT 3, IDENT_TIMEOUT 4. -/
inductive FailReason where
  | none
  | noEdge
  | spread
  | bootTimeout
  | identTimeout
deriving DecidableEq, Repr

/-- What a lock delivers (R32, R63): edge, lock tap, spread, drift and the rate of the sweep. -/
structure LockResults where
  edge : Tap
  lockTap : Tap
  spread : Nat
  drift : Int
  rate : Rate
deriving DecidableEq, Repr

/-- The last-good record (R22, R39). -/
structure LastGood where
  edge : Tap
  rate : Rate
  valid : Bool
deriving DecidableEq, Repr

/-- One slot context (R22), with the expected type captured at entry to IDENTIFY (R35). -/
structure SlotContext where
  state : SlotState
  mode : Mode
  attempt : Nat
  lane : Option LaneNo
  cardGood : Level
  wasLinked : Bool
  cgHeld : Bool
  forceFull : Bool
  forceReset : Bool
  lastFailure : FailReason
  lock : LockResults
  lastGood : LastGood
  foundType : BitVec 16
  foundRevision : BitVec 16
  pulseTimer : Timer
  bootTimer : Timer
  resetOut : Bool
  expected : BitVec 16
deriving DecidableEq, Repr

/-- A notice of Supply Watch: the sag notice, the recover notice with its classification, the normal notice. -/
inductive ShelfNotice where
  | sag
  | recover (cls : Classification)
  | normal
deriving DecidableEq, Repr

/-- Notices sent and not yet taken: each receiver takes its own in the order sent, and different receivers take theirs
independently (R105, log entry 5). -/
structure Notices where
  slots : List ShelfNotice
  circuits : Nat
  restore : List ShelfNotice
  departLink : List SlotNo
  departCircuits : List SlotNo
deriving DecidableEq, Repr

/-! ## Training lanes (R51 to R66) -/

/-- The reading of a tap (R56). -/
inductive Reading where
  | high
  | low
  | unsure
deriving DecidableEq, Repr

/-- The sweep that a bound lane holds (R51): `centre` is held in VERIFY only, `readings` has one reading per position
already examined. -/
structure Sweep where
  slot : SlotNo
  mode : Mode
  rate : Rate
  margin : BitVec 5
  centre : Option Tap
  position : Nat
  probe : Nat
  ones : Nat
  readings : List Reading
deriving DecidableEq, Repr

/-! ## Link Units (R67 to R85) -/

/-- The two kinds of order (R76). -/
inductive OrderKind where
  | connect
  | release
deriving DecidableEq, Repr

/-- One of the two endpoints of an entry. -/
inductive Side where
  | a
  | b
deriving DecidableEq, Repr

/-- Which endpoints of its entry an order serves (R76). -/
inductive Ends where
  | one (side : Side)
  | both
deriving DecidableEq, Repr

/-- One order of an order list (R76): a connect order that names one local port carries its peer; a connect order
carries its class. -/
structure Order where
  kind : OrderKind
  entry : EntryNo
  ends : Ends
  port : BitVec 6
  port2 : Option (BitVec 6)
  peer : Option Endpoint
  cls : Option (BitVec 2)
  inFlight : Bool
deriving DecidableEq, Repr

/-- A register exchange's request (R70, R83). -/
inductive RegisterOp where
  | read
  | write (data : Word) (mask : ByteEnables)
deriving DecidableEq, Repr

/-- A window request held by a Link Unit (R67, R83, R84). -/
structure WindowRequest where
  op : RegisterOp
  index : BitVec 10
  inFlight : Bool
  claimed : Bool
deriving DecidableEq, Repr

/-- The request of an exchange: its kind, its body and the work it serves (R70). -/
inductive Work where
  | probe (tap : Tap)
  | identityQuery
  | clearOrder
  | order (o : Order)
  | register (op : RegisterOp) (index : BitVec 10)
deriving DecidableEq, Repr

/-- The exchange in flight (R67): work, request tag, send number and the expiry of its timer on the microsecond base. -/
structure Exchange where
  work : Work
  tag : BitVec 8
  retry : Bool
  expiry : Nat
deriving DecidableEq, Repr

/-- A frame placed on a transmit pair (R68): a request with its tag, or the end of an idle frame; the rate and the strobe
delay that it is sent with; and the time of its end, in sixteenths of a microsecond from the release of power-on reset. -/
structure LineFrame where
  request : Option (Work × BitVec 8)
  rate : Rate
  strobe : Tap
  ends : Nat
deriving DecidableEq, Repr

/-- One Link Unit (R67), with the mark that link loss stands declared (R79, R82), and its transmit pair (R68, R75): the
frames placed on it, in the order sent, and the time from which idle frames follow one another at the working rate. -/
structure LinkUnit where
  exchange : Option Exchange
  nextTag : BitVec 8
  listening : Bool
  orders : List Order
  window : Option WindowRequest
  workingRate : Rate
  workingTap : Tap
  lossDeclared : Bool
  line : List LineFrame
  idleFrom : Nat
deriving DecidableEq, Repr

/-! ## Circuit Table (R86 to R107) -/

/-- The request code of a captured request word: NONE 0, CONNECT 1, RELEASE 2. -/
inductive RequestCode where
  | none
  | connect
  | release
deriving DecidableEq, Repr

/-- The entry states, in the order of their codes. -/
inductive EntryState where
  | idle
  | waiting
  | restoring
  | live
  | releasing
  | faulted
deriving DecidableEq, Repr

/-- The outcome codes (R86), in order. -/
inductive ReqOutcome where
  | none
  | accepted
  | busy
  | portInUse
  | badEndpoint
  | partialWrite
  | badRequest
  | refusedByCard
  | released
  | nothingToRelease
deriving DecidableEq, Repr

/-- The order mark of an endpoint (R87). -/
inductive Mark where
  | none
  | connect
  | lateConnect
  | connectThenRelease
  | release
deriving DecidableEq, Repr

/-- One circuit entry (R86). -/
structure Entry where
  code : RequestCode
  fields : RequestFields
  state : EntryState
  outcome : ReqOutcome
  tag : BitVec 16
  doneA : Bool
  doneB : Bool
  releaseAfter : Bool
  markA : Mark
  markB : Mark
deriving DecidableEq, Repr

/-- The Circuit Table: the entries (an unlisted entry holds the power-on value), the age list, the admission counter,
the endpoint index and the three counts (R86 to R90). -/
structure CircuitTable where
  entries : List (Nat × Entry)
  ageList : List EntryNo
  admissions : BitVec 16
  index : List (Nat × EntryNo)
  waiting : Nat
  live : Nat
  faulted : Nat
deriving DecidableEq, Repr

/-! ## Restore Engine (R108 to R126) -/

/-- The last shelf notice the Restore Engine has taken (R118, R121). -/
inductive EnginePhase where
  | sagged
  | recovering
  | normal
deriving DecidableEq, Repr

/-- The Restore Engine (R108): `lowestClosed` is 1 to 4, 4 meaning that no barrier is closed. -/
structure RestoreEngine where
  phase : EnginePhase
  lowestClosed : Nat
  timer : Timer
  restoring : Nat
deriving DecidableEq, Repr

/-! ## Journal Writer (R161 to R169) -/

/-- The record kinds, codes 0x01 to 0x0D in this order (R168). -/
inductive RecordKind where
  | sagBegin
  | sagEnd
  | recoverBegin
  | recoverDone
  | slotLinked
  | slotFailed
  | slotMismatch
  | slotLost
  | drift
  | entryFaulted
  | barrierOpen
  | windowFault
  | journalGap
deriving DecidableEq, Repr

/-- One journal record (R168), its value already arranged as J3 (R171). -/
structure Record where
  kind : RecordKind
  slot : Option SlotNo
  aux : BitVec 8
  cls : Option (BitVec 2)
  entry : Option EntryNo
  episode : BitVec 16
  stamp : Word
  value : Word
deriving DecidableEq, Repr

/-- An accepted record with the ring position given to it (R163). -/
structure PendingRecord where
  position : BitVec 8
  record : Record
deriving DecidableEq, Repr

/-- The Journal Writer (R161). -/
structure Journal where
  head : BitVec 8
  tail : BitVec 8
  overrun : Bool
  records : List PendingRecord
  word : Option (Fin 4)
  attention : Bool
deriving DecidableEq, Repr

/-! ## Pass-Through Path (R127 to R142) -/

/-- The captured fields of one SL0 (R143). -/
structure SlotSettings where
  expectedType : BitVec 16
  relinkLevel : BitVec 2
  rate : Rate
  margin : BitVec 5
deriving DecidableEq, Repr

/-- The captured values of the shadow store (R143). -/
structure Captured where
  attentionEnable : Bool
  restoreFloor : BitVec 2
  barrierTime : BitVec 16
  settleTime : BitVec 16
  shortSagLimit : BitVec 16
  bootLimit : BitVec 8
  driftLimit : BitVec 5
  spreadLimit : BitVec 4
  slot : Vector SlotSettings 24
deriving DecidableEq, Repr

/-- A plain access on its way to the store (R129). -/
structure PlainCycle where
  addr : WordAddr
  access : Access
  enables : ByteEnables
deriving DecidableEq, Repr

/-- The controller port: idle, or the one open cycle (R129, R134, R137). -/
inductive CtrlPort where
  | idle
  | plainWaiting (cycle : PlainCycle)
  | plainServed
  | windowHeld (slot : SlotNo) (op : RegisterOp)
  | windowDeferred (slot : SlotNo) (op : RegisterOp) (index : BitVec 10)
deriving DecidableEq, Repr

/-- The store port (R139). `claimed` is clear when a controller reset abandoned the cycle being served (R141), `live`
is clear when it abandoned the record whose word is being served (R167). -/
inductive StorePort where
  | idle
  | controller (cycle : PlainCycle) (claimed : Bool)
  | journal (addr : WordAddr) (data : Word) (live : Bool)
deriving DecidableEq, Repr

/-- What the controller port returned when its last cycle completed: the model's record of an output (log entry 22). -/
inductive CycleAnswer where
  | none
  | written
  | data (w : Word)
deriving DecidableEq, Repr

/-- The Pass-Through Path. -/
structure PassThrough where
  area : BitVec 6
  captured : Captured
  ctrl : CtrlPort
  store : StorePort
  marker : Bool
  answer : CycleAnswer
deriving DecidableEq, Repr

/-! ## Judgements (R12, R115, R131, R146) -/

/-- What stands of the judgements that follow a change of input: whether the settled condition has been judged since the
shelf entered RECOVER (R12), and whether a change of the captured floor has judgements left to act on before the next
controller access (R146). -/
structure Judging where
  recovery : Bool
  floor : Bool
deriving DecidableEq, Repr

/-! ## The whole part -/

/-- The state of the part, its two reset inputs, the store behind it and the queue of waiting commands. -/
structure State where
  supply : Supply
  watching : Bool
  slots : Vector SlotContext 24
  notices : Notices
  lanes : Vector (Option Sweep) 4
  links : Vector LinkUnit 24
  circuits : CircuitTable
  restore : RestoreEngine
  journal : Journal
  path : PassThrough
  judging : Judging
  memory : List Host.Cell
  ctrlReset : Bool
  por : Bool
  pending : List Instr
deriving DecidableEq, Repr

/-! ## Power-on values -/

/-- A filter at the release of power-on reset, with the raw input low (R2, R3; the raw level is log entry 7). -/
def Filter.initial : Filter := ⟨.low, .low, none⟩

/-- Supply Watch after power-on reset (R1, R2, R3, R4). -/
def Supply.initial : Supply :=
  { clock := 0#32, micro := 0, elapsed := 0, filtHigh := false, rail := .initial, cards := Vector.replicate 24 .initial,
    shelf := .sag, episode := 0#16, startStamp := 0#32, runDuration := 0#16, settleTimer := none,
    lastDuration := 0#16, lastClass := .none }

/-- A slot context after power-on reset (R22). -/
def SlotContext.initial : SlotContext :=
  { state := .empty, mode := .full, attempt := 0, lane := none, cardGood := .low, wasLinked := false, cgHeld := false,
    forceFull := false, forceReset := false, lastFailure := .none, lock := ⟨0#6, 0#6, 0, 0, .std⟩,
    lastGood := ⟨0#6, .std, false⟩, foundType := 0#16, foundRevision := 0#16, pulseTimer := none, bootTimer := none,
    resetOut := false, expected := 0#16 }

/-- A Link Unit after power-on reset (R67): idle frames begin at its release (R172). -/
def LinkUnit.initial : LinkUnit :=
  { exchange := none, nextTag := 0#8, listening := false, orders := [], window := none, workingRate := .std,
    workingTap := 0#6, lossDeclared := false, line := [], idleFrom := 0 }

/-- A circuit entry after power-on reset (R86); also what an unlisted entry holds. -/
def Entry.initial : Entry :=
  { code := .none, fields := ⟨0#2, ⟨0#5, 0#6⟩, ⟨0#5, 0#6⟩⟩, state := .idle, outcome := .none, tag := 0#16,
    doneA := false, doneB := false, releaseAfter := false, markA := .none, markB := .none }

/-- The Circuit Table after power-on reset (R86 to R90). -/
def CircuitTable.initial : CircuitTable :=
  { entries := [], ageList := [], admissions := 0#16, index := [], waiting := 0, live := 0, faulted := 0 }

/-- The Restore Engine after power-on reset (R108); the phase is log entry 11. -/
def RestoreEngine.initial : RestoreEngine :=
  { phase := .sagged, lowestClosed := 4, timer := none, restoring := 0 }

/-- The Journal Writer after power-on reset (R161). -/
def Journal.initial : Journal :=
  { head := 0#8, tail := 0#8, overrun := false, records := [], word := none, attention := false }

/-- SL0 after power-on reset: 0x10030000 (R143, 10). -/
def SlotSettings.initial : SlotSettings := ⟨0#16, 3#2, .std, 16#5⟩

/-- The shadow store after power-on reset (R143). -/
def Captured.initial : Captured :=
  { attentionEnable := false, restoreFloor := 3#2, barrierTime := 2000#16, settleTime := 500#16,
    shortSagLimit := 200#16, bootLimit := 30#8, driftLimit := 6#5, spreadLimit := 4#4,
    slot := Vector.replicate 24 .initial }

/-- The Pass-Through Path after power-on reset (R142), with the AREA strap unstrapped (log entry 7). -/
def PassThrough.initial : PassThrough :=
  { area := 0#6, captured := .initial, ctrl := .idle, store := .idle, marker := false, answer := .none }

/-- The machine right after the release of power-on reset. -/
def State.reset : State :=
  { supply := .initial, watching := true, slots := Vector.replicate 24 .initial,
    notices := { slots := [], circuits := 0, restore := [], departLink := [], departCircuits := [] },
    lanes := Vector.replicate 4 none, links := Vector.replicate 24 .initial, circuits := .initial,
    restore := .initial, journal := .initial, path := .initial,
    judging := { recovery := false, floor := false }, memory := [], ctrlReset := false, por := false,
    pending := [] }

end Sys2Proof.Machine
end

