-- ==== Sys2Proof/Machine/Operands.lean ====
section
/-! DEFINITION. Codes, word layouts and operand arithmetic: the code tables and bit positions of
10_shelf_area_layouts.md (R170, R171), the byte merge (R131), the classification of an access (R127, R128), the check
and the lengths of frames (R68). -/

namespace Sys2Proof

/-! ## Codes -/

/-- Rate codes (R170): STD 0, FAST 1. -/
def Rate.code : Rate → BitVec 1
  | .std => 0#1
  | .fast => 1#1

/-- The rate that a one-bit field names (R170). -/
def Rate.ofBit (b : Bool) : Rate := if b then .fast else .std

/-- Level codes (R170): good 1, low 0. -/
def Level.code : Level → BitVec 1
  | .low => 0#1
  | .good => 1#1

/-- Refusal reason codes (R71). -/
def RefusalReason.code : RefusalReason → BitVec 8
  | .portBusy => 1#8
  | .noPort => 2#8
  | .noRegister => 3#8

/-- Whether a byte enable is present. The request bytes, the journal tail and the restore floor lie in byte 0, the
attention enable in byte 1 (10, Control words, Slot record words). -/
def byteEnabled (enables : ByteEnables) (k : Nat) : Bool := enables.getLsbD k

/-- The byte in bits 7 to 0 of a written word. -/
def lowByte (data : Word) : Byte := data.setWidth 8

/-- The window fault reason TIMEOUT (R138). -/
def timeoutReason : BitVec 8 := 4#8

/-! ## Frames (R68, R71) -/

/-- One bit of the division by x^16 + x^12 + x^5 + 1. Each bit meets the top of the register, so the remainder is that of
the sequence followed by 16 zeros (log entry 38). -/
def checkStep (reg : BitVec 16) (bit : Bool) : BitVec 16 :=
  if reg.msb ^^ bit then (reg <<< 1) ^^^ 0x1021#16 else reg <<< 1

/-- The check of a bit sequence: the remainder register starts at all ones (R68), and no zeros follow the sequence as bits
of their own (log entry 38). -/
def frameCheck (bits : List Bool) : BitVec 16 := bits.foldl checkStep 0xFFFF#16

/-- The bits of a field in the order sent (log entry 9). -/
def fieldBits {w : Nat} (v : BitVec w) : List Bool :=
  (List.range w).map fun k => if Config.highBitFirst then v.getMsbD k else v.getLsbD k

/-- The kind of a received frame, where it is an idle frame or a reply, whole (R68, R71). -/
def FrameContent.kind : FrameContent → Option FrameKind
  | .idle => some .idle
  | .sample _ => some .sample
  | .identity _ _ => some .identity
  | .done => some .done
  | .refusal _ => some .refusal
  | .registerData _ => some .registerData
  | .otherKind => none
  | .cutShort => none

/-- The body of a received frame (R71). -/
def FrameContent.body : FrameContent → List Bool
  | .idle => []
  | .sample bit => fieldBits ((BitVec.ofBool bit).setWidth 8)
  | .identity type revision => fieldBits type ++ fieldBits revision
  | .done => []
  | .refusal reason => fieldBits reason.code
  | .registerData data => fieldBits data
  | .otherKind => []
  | .cutShort => []

/-- Kind, tag and body in the order sent, which is what the check is computed over; an idle frame has no tag (R68). -/
def checkedBits (kind : FrameKind) (tag : BitVec 8) (body : List Bool) : List Bool :=
  fieldBits (Config.kindCode kind) ++ (if kind = .idle then [] else fieldBits tag) ++ body

/-- A whole frame: its fields, and the check computed over them (R68). -/
def wholeFrame (kind : FrameKind) (tag : BitVec 8) (body : List Bool) : List Bool :=
  checkedBits kind tag body ++ fieldBits (frameCheck (checkedBits kind tag body))

/-- The idle frame the part sends (R68, R75); it has no tag. -/
def idleFrame : List Bool := wholeFrame .idle 0#8 []

/-- The lengths of frames in bits: the table of R68. -/
def FrameKind.length : FrameKind → Nat
  | .idle => 24
  | .identityQuery => 32
  | .clearOrder => 32
  | .done => 32
  | .probe => 40
  | .sample => 40
  | .refusal => 40
  | .releaseOrder => 48
  | .registerRead => 48
  | .identity => 64
  | .registerData => 64
  | .connectOrder => 72
  | .registerWrite => 88

/-- The check of a received frame passes at a working rate (R68): the frame is whole, its kind is idle or a reply, the
card sends at that rate, and the check computed over the fields received is the check received. -/
def RxFrame.checkPasses (f : RxFrame) (working : Rate) : Bool :=
  match f.content.kind with
  | some kind => f.rate == working && frameCheck (checkedBits kind f.tag f.content.body) == f.check
  | none => false

namespace Machine

/-- Shelf state codes (R151). -/
def ShelfState.code : ShelfState → BitVec 2
  | .normal => 0#2
  | .sag => 1#2
  | .settle => 2#2
  | .recover => 3#2

/-- Classification codes (R152). -/
def Classification.code : Classification → BitVec 2
  | .none => 0#2
  | .short => 1#2
  | .long => 2#2
  | .forced => 3#2

/-- Slot state codes (R158). -/
def SlotState.code : SlotState → BitVec 4
  | .empty => 0#4
  | .booting => 1#4
  | .pending => 2#4
  | .training => 3#4
  | .identify => 4#4
  | .linked => 5#4
  | .held => 6#4
  | .failed => 7#4
  | .mismatch => 8#4
  | .offline => 9#4

/-- Mode codes (R170): FULL 0, VERIFY 1. -/
def Mode.code : Mode → BitVec 1
  | .full => 0#1
  | .verify => 1#1

/-- Failure reason codes (R158). -/
def FailReason.code : FailReason → BitVec 4
  | .none => 0#4
  | .noEdge => 1#4
  | .spread => 2#4
  | .bootTimeout => 3#4
  | .identTimeout => 4#4

/-- Lane codes (R170): 0 to 3, or 7 when the lane is none. -/
def laneCode : Option LaneNo → BitVec 3
  | some l => BitVec.ofNat 3 l.val
  | none => 7#3

/-- Request codes of a captured request word (R86). -/
def RequestCode.code : RequestCode → BitVec 2
  | .none => 0#2
  | .connect => 1#2
  | .release => 2#2

/-- Entry state codes (05, 10). -/
def EntryState.code : EntryState → BitVec 3
  | .idle => 0#3
  | .waiting => 1#3
  | .restoring => 2#3
  | .live => 3#3
  | .releasing => 4#3
  | .faulted => 5#3

/-- Outcome codes (R86). -/
def ReqOutcome.code : ReqOutcome → BitVec 4
  | .none => 0#4
  | .accepted => 1#4
  | .busy => 2#4
  | .portInUse => 3#4
  | .badEndpoint => 4#4
  | .partialWrite => 5#4
  | .badRequest => 6#4
  | .refusedByCard => 7#4
  | .released => 8#4
  | .nothingToRelease => 9#4

/-- Record kind codes (R168). -/
def RecordKind.code : RecordKind → BitVec 8
  | .sagBegin => 0x01#8
  | .sagEnd => 0x02#8
  | .recoverBegin => 0x03#8
  | .recoverDone => 0x04#8
  | .slotLinked => 0x05#8
  | .slotFailed => 0x06#8
  | .slotMismatch => 0x07#8
  | .slotLost => 0x08#8
  | .drift => 0x09#8
  | .entryFaulted => 0x0A#8
  | .barrierOpen => 0x0B#8
  | .windowFault => 0x0C#8
  | .journalGap => 0x0D#8

/-- The drift in its SS1 form: six bits, two's complement (R170). -/
def driftCode (d : Int) : BitVec 6 := BitVec.ofInt 6 d

/-! ## Settable words: merge, fields and clamping (R131, R143, R170) -/

/-- Eight ones where the byte enable is present. -/
def byteMask (enables : ByteEnables) (k : Nat) : Byte := if enables.getLsbD k then 0xFF#8 else 0x00#8

/-- The bits of a word that the enables let a write reach. -/
def enableMask (enables : ByteEnables) : Word :=
  byteMask enables 3 ++ byteMask enables 2 ++ byteMask enables 1 ++ byteMask enables 0

/-- R131 step 1: each enabled byte takes the written byte, every other byte keeps the captured one. -/
def mergeBytes (captured data : Word) (enables : ByteEnables) : Word :=
  (data &&& enableMask enables) ||| (captured &&& ~~~enableMask enables)

/-- R131 step 3: a settle time of 0 to 49 is captured as 50. -/
def clampSettle (t : BitVec 16) : BitVec 16 := if t < 50#16 then 50#16 else t

/-- R131 step 3: a boot limit of 0 is captured as 1. -/
def clampBoot (l : BitVec 8) : BitVec 8 := if l = 0#8 then 1#8 else l

/-- CW0 as read: the attention enable; the request byte reads as 0. -/
def Captured.cw0 (c : Captured) : Word := 0#23 ++ BitVec.ofBool c.attentionEnable ++ 0#8

/-- CW1 as read. -/
def Captured.cw1 (c : Captured) : Word := c.barrierTime ++ 0#14 ++ c.restoreFloor

/-- CW2 as read. -/
def Captured.cw2 (c : Captured) : Word := c.shortSagLimit ++ c.settleTime

/-- CW3 as read. -/
def Captured.cw3 (c : Captured) : Word := 0#12 ++ c.spreadLimit ++ 0#3 ++ c.driftLimit ++ c.bootLimit

/-- SL0 as read. -/
def SlotSettings.word (c : SlotSettings) : Word :=
  0#3 ++ c.margin ++ 0#3 ++ c.rate.code ++ 0#2 ++ c.relinkLevel ++ c.expectedType

/-- The attention enable of a merged CW0. -/
def Captured.takeCw0 (c : Captured) (w : Word) : Captured := { c with attentionEnable := w.getLsbD 8 }

/-- The fields of a merged CW1. -/
def Captured.takeCw1 (c : Captured) (w : Word) : Captured :=
  { c with restoreFloor := w.extractLsb' 0 2, barrierTime := w.extractLsb' 16 16 }

/-- The fields of a merged CW2, the settle time clamped. -/
def Captured.takeCw2 (c : Captured) (w : Word) : Captured :=
  { c with settleTime := clampSettle (w.extractLsb' 0 16), shortSagLimit := w.extractLsb' 16 16 }

/-- The fields of a merged CW3, the boot limit clamped. -/
def Captured.takeCw3 (c : Captured) (w : Word) : Captured :=
  { c with bootLimit := clampBoot (w.extractLsb' 0 8), driftLimit := w.extractLsb' 8 5,
           spreadLimit := w.extractLsb' 16 4 }

/-- The fields of a merged SL0. -/
def SlotSettings.ofWord (w : Word) : SlotSettings :=
  { expectedType := w.extractLsb' 0 16, relinkLevel := w.extractLsb' 16 2, rate := Rate.ofBit (w.getLsbD 20),
    margin := w.extractLsb' 24 5 }

/-! ## Status words (R151 to R160, R170) -/

/-- SW1. -/
def sw1Word (shelf : ShelfState) (lowestClosed : Nat) (episode : BitVec 16) : Word :=
  episode ++ 0#11 ++ BitVec.ofNat 3 lowestClosed ++ shelf.code

/-- SW2. -/
def sw2Word (lastDuration : BitVec 16) (cls : Classification) : Word := 0#14 ++ cls.code ++ lastDuration

/-- SW3. -/
def sw3Word (j : Journal) : Word := 0#15 ++ BitVec.ofBool j.overrun ++ j.tail ++ j.head

/-- SW4. -/
def sw4Word (waiting live : Nat) : Word := 0#3 ++ BitVec.ofNat 13 live ++ 0#3 ++ BitVec.ofNat 13 waiting

/-- SW5. -/
def sw5Word (restoring faulted : Nat) : Word := 0#3 ++ BitVec.ofNat 13 faulted ++ 0#11 ++ BitVec.ofNat 5 restoring

/-- SS0. -/
def SlotContext.ss0 (c : SlotContext) : Word :=
  0#12 ++ c.lastFailure.code ++ 0#3 ++ c.cardGood.code ++ 0#1 ++ laneCode c.lane ++ 0#1 ++ BitVec.ofNat 2 c.attempt ++
    c.mode.code ++ c.state.code

/-- SS1: the last-good edge with the lock tap, spread and drift of the most recent lock. -/
def SlotContext.ss1 (c : SlotContext) : Word :=
  c.lastGood.rate.code ++ BitVec.ofBool c.lastGood.valid ++ driftCode c.lock.drift ++ 0#2 ++
    BitVec.ofNat 6 c.lock.spread ++ 0#2 ++ c.lock.lockTap ++ 0#2 ++ c.lastGood.edge

/-- SS2. -/
def SlotContext.ss2 (c : SlotContext) : Word := c.foundRevision ++ c.foundType

/-- SS3 (R160): the length reads 0 whenever the slot is not LINKED. -/
def LinkUnit.ss3 (l : LinkUnit) (linked : Bool) : Word :=
  0#23 ++ BitVec.ofBool l.window.isSome ++ 0#1 ++ BitVec.ofNat 7 (if linked then l.orders.length else 0)

/-! ## Circuit entry words (R86, R170) -/

/-- The request word of an entry as read. -/
def Entry.requestWord (e : Entry) : Word :=
  0#5 ++ e.fields.b.port ++ e.fields.b.slot ++ 0#1 ++ e.fields.a.port ++ e.fields.a.slot ++ e.fields.cls ++ e.code.code

/-- The state word of an entry as read. -/
def Entry.stateWord (e : Entry) : Word :=
  e.tag ++ 0#5 ++ BitVec.ofBool e.doneB ++ BitVec.ofBool e.doneA ++ BitVec.ofBool e.releaseAfter ++ e.outcome.code ++
    0#1 ++ e.state.code

/-- The class and endpoints of a written request word; bits 15 and 31 to 27 are discarded (R170). -/
def fieldsOfWord (w : Word) : RequestFields :=
  { cls := w.extractLsb' 2 2,
    a := ⟨w.extractLsb' 4 5, w.extractLsb' 9 6⟩,
    b := ⟨w.extractLsb' 16 5, w.extractLsb' 21 6⟩ }

/-- The command that a write of a circuit request word is, by its request field (R91, R170). -/
def requestCommand (i : EntryNo) (w : Word) (enables : ByteEnables) : Instr :=
  if w.extractLsb' 0 2 = 1#2 then .connect i (fieldsOfWord w) enables
  else if w.extractLsb' 0 2 = 2#2 then .release i (fieldsOfWord w) enables
  else if w.extractLsb' 0 2 = 0#2 then .noneRequest i (fieldsOfWord w) enables
  else .badRequest i enables

/-! ## Journal record words (R168, R171) -/

/-- J0: class, aux, slot, kind; "none" is 0xFF. -/
def Record.j0 (r : Record) : Word :=
  (match r.cls with | some c => c.setWidth 8 | none => 0xFF#8) ++ r.aux ++
    (match r.slot with | some n => BitVec.ofNat 8 n.val | none => 0xFF#8) ++ r.kind.code

/-- J1: episode number, entry index; "none" is 0xFFFF. -/
def Record.j1 (r : Record) : Word :=
  r.episode ++ (match r.entry with | some i => BitVec.ofNat 16 i.val | none => 0xFFFF#16)

/-- The four words of a record, J0 to J3. -/
def Record.word (r : Record) (k : Fin 4) : Word :=
  match k with
  | 0 => r.j0
  | 1 => r.j1
  | 2 => r.stamp
  | 3 => r.value

/-- The DRIFT value: the drift in bits 29 to 24 in the SS1 form, the new edge in bits 5 to 0. -/
def driftValue (drift : Int) (edge : Tap) : Word := 0#2 ++ driftCode drift ++ 0#18 ++ edge

/-- The ENTRY_FAULTED value: the refusing slot, the reason. -/
def entryFaultedValue (n : SlotNo) (reason : RefusalReason) : Word :=
  0#16 ++ BitVec.ofNat 8 n.val ++ reason.code

/-- The BARRIER_OPEN value: the cause, the class. -/
def barrierOpenValue (cls cause : BitVec 8) : Word := 0#16 ++ cause ++ cls

/-- The WINDOW_FAULT value: the offset of the word within the window, 4 times its index, and the reason. -/
def windowFaultValue (index : BitVec 10) (reason : BitVec 8) : Word := 0#4 ++ index ++ 0#2 ++ 0#8 ++ reason

/-! ## Placement and classification of an access (R127, R128) -/

/-- The byte address of an access. -/
def byteAddress (addr : WordAddr) : Nat := 4 * addr.toNat

/-- The base of the shelf area (R127). -/
def areaBase (area : BitVec 6) : Nat := area.toNat * Config.areaBytes

/-- The offset of an access inside the shelf area, or none where it lies outside (R127). -/
def areaOffset (area : BitVec 6) (addr : WordAddr) : Option Nat :=
  if areaBase area ≤ byteAddress addr ∧ byteAddress addr < areaBase area + Config.areaBytes then
    some (byteAddress addr - areaBase area)
  else none

/-- What lies at an offset of the shelf area (R128). -/
inductive Region where
  | shadow (w : ShadowWord)
  | plain
  | ring
  | window (n : SlotNo) (index : BitVec 10)
deriving DecidableEq, Repr

/-- The word at `r` of the record of slot `n`, `r` from 0 to 7 (R128). -/
def classifySlotRecord (n : SlotNo) (r : Nat) : Region :=
  if r = 0 then .shadow (.sl0 n)
  else if r = 1 then .shadow (.sl1 n)
  else if 4 ≤ r then .shadow (.ss n (Fin.ofNat 4 (r - 4)))
  else .plain

/-- The class of an offset inside the shelf area (R128). -/
def classify (off : Nat) : Region :=
  if off < 0x14 then .shadow (.cw (Fin.ofNat 5 (off / 4)))
  else if off < 0x20 then .plain
  else if off < 0x3C then .shadow (.sw (Fin.ofNat 7 ((off - 0x20) / 4)))
  else if off < 0x100 then .plain
  else if off < 0x400 then classifySlotRecord (Fin.ofNat 24 ((off - 0x100) / 32)) ((off - 0x100) % 32 / 4)
  else if off < 0x1000 then .plain
  else if off < 0x9000 then
    (if (off - 0x1000) % 8 < 4 then .shadow (.request (Fin.ofNat 4096 ((off - 0x1000) / 8)))
     else .shadow (.entryState (Fin.ofNat 4096 ((off - 0x1000) / 8))))
  else if off < 0xA000 then .ring
  else if off < 0x10000 then .plain
  else if off < 0x28000 then
    .window (Fin.ofNat 24 ((off - 0x10000) / 4096)) (BitVec.ofNat 10 ((off - 0x10000) % 4096 / 4))
  else .plain

/-- Whether an access passes to the store: outside the shelf area, a plain word, or the journal ring (R128, R129). -/
def isPlain (area : BitVec 6) (addr : WordAddr) : Bool :=
  match areaOffset area addr with
  | none => true
  | some off => classify off = .plain || classify off = .ring

/-- The byte address of word k of ring position p (R162). -/
def ringAddress (area : BitVec 6) (p : BitVec 8) (k : Fin 4) : Nat :=
  areaBase area + 0x9000 + 16 * p.toNat + 4 * k.val

/-- The same as a word address of the store port. -/
def ringWordAddr (area : BitVec 6) (p : BitVec 8) (k : Fin 4) : WordAddr :=
  BitVec.ofNat 22 (ringAddress area p k / 4)

/-! ## Requests (R68, R70) -/

/-- The bits of an 8-bit field at a place of an order's body, which the order may leave unused. -/
def placeBits {w : Nat} (place : Nat) : Option (BitVec w) → List Bool
  | some v => fieldBits (v.setWidth 8)
  | none => fieldBits (Config.absentField place)

/-- The kind of the frame that carries a request (R70). -/
def Work.kind : Work → FrameKind
  | .probe _ => .probe
  | .identityQuery => .identityQuery
  | .clearOrder => .clearOrder
  | .order o => match o.kind with | .connect => .connectOrder | .release => .releaseOrder
  | .register op _ => match op with | .read => .registerRead | .write _ _ => .registerWrite

/-- The local ports of an order (R68, R70): one, or two. Which of two stands first is the model's choice: R70 does not say
it, and the model puts the port of endpoint A first and that of endpoint B second (log entry 9). -/
def Order.portBits (o : Order) : List Bool := placeBits 0 (some o.port) ++ placeBits 1 o.port2

/-- The body of a request in the order of R70's table, each field in the bits that R68 gives it. -/
def Work.body : Work → List Bool
  | .probe tap => fieldBits (tap.setWidth 8)
  | .identityQuery => []
  | .clearOrder => []
  | .order o =>
    match o.kind with
    | .connect =>
      o.portBits ++ placeBits 2 (o.peer.map Endpoint.slot) ++ placeBits 3 (o.peer.map Endpoint.port) ++ placeBits 4 o.cls
    | .release => o.portBits
  | .register op index =>
    match op with
    | .read => fieldBits (index.setWidth 16)
    | .write data mask => fieldBits (index.setWidth 16) ++ fieldBits data ++ fieldBits (mask.setWidth 8)

/-- The request frame of some work (R68, R70). -/
def Work.frame (w : Work) (tag : BitVec 8) : List Bool := wholeFrame w.kind tag w.body

/-- The length in bits of the frame that carries a request (R68). -/
def requestBits (w : Work) : Nat := w.kind.length

/-- The time a frame takes to send, in sixteenths of a microsecond: a bit takes 0.25 µs at STD and 0.0625 µs at FAST
(R68). -/
def frameTime (rate : Rate) (bits : Nat) : Nat :=
  match rate with
  | .std => bits * 4
  | .fast => bits

/-- The timeout of a request in microseconds (R72): 2 ms, or 500 µs for a register exchange. -/
def requestTimeout : Work → Nat
  | .probe _ => 2000
  | .identityQuery => 2000
  | .clearOrder => 2000
  | .order _ => 2000
  | .register _ _ => 500

/-- Which reply contents complete a request (R71). -/
def completes (w : Work) (c : FrameContent) : Bool :=
  match w, c with
  | .probe _, .sample _ => true
  | .identityQuery, .identity _ _ => true
  | .clearOrder, .done => true
  | .order _, .done => true
  | .order _, .refusal _ => true
  | .register .read _, .registerData _ => true
  | .register .read _, .refusal _ => true
  | .register (.write _ _) _, .done => true
  | .register (.write _ _) _, .refusal _ => true
  | _, _ => false

/-! ## Endpoints -/

/-- The slot an endpoint names, where it is one of the shelf's 24 (R89, R92). -/
def slotOf (s : BitVec 5) : Option SlotNo := if h : s.toNat < 24 then some ⟨s.toNat, h⟩ else none

/-- The place of an endpoint in the endpoint index. -/
def endpointKey (p : Endpoint) : Nat := p.slot.toNat * 64 + p.port.toNat

/-- The entry's endpoint on a side. -/
def Entry.endpoint (e : Entry) : Side → Endpoint
  | .a => e.fields.a
  | .b => e.fields.b

/-- The other side. -/
def Side.other : Side → Side
  | .a => .b
  | .b => .a

/-- The order mark of a side (R87). -/
def Entry.mark (e : Entry) : Side → Mark
  | .a => e.markA
  | .b => e.markB

/-- The done flag of a side (R86). -/
def Entry.done (e : Entry) : Side → Bool
  | .a => e.doneA
  | .b => e.doneB

/-- The entry with one side's mark set. -/
def Entry.setMark (e : Entry) (x : Side) (m : Mark) : Entry :=
  match x with
  | .a => { e with markA := m }
  | .b => { e with markB := m }

/-- The entry with one side's done flag set. -/
def Entry.setDone (e : Entry) (x : Side) (d : Bool) : Entry :=
  match x with
  | .a => { e with doneA := d }
  | .b => { e with doneB := d }

/-- Both endpoints lie on one slot: one order serves both (R76, R87). -/
def Entry.oneSlot (e : Entry) : Bool := e.fields.a.slot == e.fields.b.slot

/-- Neither mark stands for an order. -/
def Entry.noMarks (e : Entry) : Bool := e.markA == .none && e.markB == .none

/-- The sides an order serves (R76). -/
def Ends.sides : Ends → List Side
  | .one x => [x]
  | .both => [.a, .b]

/-- The side whose mark an order is taken against: the marks of a two-port order are set and cleared together (R87). -/
def Ends.lead : Ends → Side
  | .one x => x
  | .both => .a

/-- The second local port of an order: one that serves both endpoints names both ports (R76), that of endpoint B second
(the model's choice, log entry 9). -/
def Entry.port2 (e : Entry) : Ends → Option (BitVec 6)
  | .both => some e.fields.b.port
  | .one _ => none

/-- The peer of an order: a connect order that names one local port carries the other endpoint (R70, R76). -/
def Entry.peer (e : Entry) : OrderKind → Ends → Option Endpoint
  | .connect, .one x => some (e.endpoint x.other)
  | .connect, .both => none
  | .release, _ => none

/-- The class of an order: a connect order carries the class of its entry (R70, R76). -/
def Entry.orderClass (e : Entry) : OrderKind → Option (BitVec 2)
  | .connect => some e.fields.cls
  | .release => none

/-- Whether an order on slot n names what the entry holds: for each side it serves, the endpoint's slot and port
(R80, R87). -/
def Order.serves (o : Order) (n : SlotNo) (e : Entry) : Bool :=
  match o.ends with
  | .one x => slotOf (e.endpoint x).slot == some n && (e.endpoint x).port == o.port
  | .both => slotOf e.fields.a.slot == some n && e.fields.a.port == o.port && slotOf e.fields.b.slot == some n &&
      o.port2 == some e.fields.b.port

/-- The order for some endpoints of an entry (R70, R76, R77). In an order that names two local ports `port` is that of
endpoint A and `port2` that of endpoint B: the model's choice (log entry 9). -/
def Entry.order (e : Entry) (i : EntryNo) (kind : OrderKind) (ends : Ends) : Order :=
  { kind := kind, entry := i, ends := ends, port := (e.endpoint ends.lead).port, port2 := e.port2 ends,
    peer := e.peer kind ends, cls := e.orderClass kind, inFlight := false }

end Machine
end Sys2Proof
end

