-- ==== Sys2Proof/Machine/Ops.lean ====
section
/-! DEFINITION. The shared operations over the state: reading and writing one slot, link, lane or entry, the store, the
time base, timers, handing a record to the Journal Writer, and completing a controller cycle. -/

namespace Sys2Proof.Machine

/-- What a command answers. -/
abbrev Result := Host.Outcome State Fault Refusal

/-! ## Sparse tables: key and value pairs with strictly rising keys -/

/-- The value listed for a key. -/
def Sparse.lookup {α : Type} : List (Nat × α) → Nat → Option α
  | [], _ => none
  | (j, v) :: rest, k => if j = k then some v else Sparse.lookup rest k

/-- The table with a key listed at a value, in the place the order of keys gives it. -/
def Sparse.insert {α : Type} : List (Nat × α) → Nat → α → List (Nat × α)
  | [], k, v => [(k, v)]
  | (j, w) :: rest, k, v =>
    if k < j then (k, v) :: (j, w) :: rest
    else if k = j then (k, v) :: rest
    else (j, w) :: Sparse.insert rest k v

/-- The table with a key unlisted. -/
def Sparse.erase {α : Type} (l : List (Nat × α)) (k : Nat) : List (Nat × α) := l.filter (fun p => p.1 ≠ k)

/-- The canonical form: keys strictly rising. -/
abbrev Sparse.wf {α : Type} (l : List (Nat × α)) : Prop := l.Pairwise (fun p q => p.1 < q.1)

/-! ## The store (R127, R129, R162) -/

/-- The store's canonical form: addresses strictly rising. An unlisted byte is one that nothing has written, and what it
holds is unknown, so no listed cell can equal it (log entry 8). -/
abbrev Memory.wf (m : List Host.Cell) : Prop := Sparse.wf m

/-- What is known of one byte of the store. -/
def Memory.readByte (m : List Host.Cell) (a : Nat) : Option Byte := Sparse.lookup m a

/-- One byte written to the store. -/
def Memory.writeByte (m : List Host.Cell) (a : Nat) (b : Byte) : List Host.Cell := Sparse.insert m a b

/-- Byte k of a word, bits 8k+7 to 8k; it lies at the word's address plus k (log entry 8). -/
def wordByte (w : Word) (k : Nat) : Byte := w.extractLsb' (8 * k) 8

/-- One byte of a word write: written where its enable is present. -/
def Memory.writeLane (a : Nat) (w : Word) (enables : ByteEnables) (m : List Host.Cell) (k : Nat) : List Host.Cell :=
  if enables.getLsbD k then Memory.writeByte m (a + k) (wordByte w k) else m

/-- A word write at a byte address with byte enables. -/
def Memory.writeWord (m : List Host.Cell) (a : Nat) (w : Word) (enables : ByteEnables) : List Host.Cell :=
  [0, 1, 2, 3].foldl (Memory.writeLane a w enables) m

/-- Byte k of a word read: what is known of it, and otherwise what the store returned. -/
def Memory.readLane (m : List Host.Cell) (a : Nat) (returned : Word) (k : Nat) : Byte :=
  (Memory.readByte m (a + k)).getD (wordByte returned k)

/-- A word read at a byte address. -/
def Memory.readWord (m : List Host.Cell) (a : Nat) (returned : Word) : Word :=
  Memory.readLane m a returned 3 ++ Memory.readLane m a returned 2 ++ Memory.readLane m a returned 1 ++
    Memory.readLane m a returned 0

/-! ## One slot, link, lane, SL0, card filter -/

/-- The 24 slot numbers in order. -/
def allSlots : List SlotNo :=
  [0, 1, 2, 3, 4, 5, 6, 7, 8, 9, 10, 11, 12, 13, 14, 15, 16, 17, 18, 19, 20, 21, 22, 23]

/-- The four lane numbers in order. -/
def allLanes : List LaneNo := [0, 1, 2, 3]

/-- One slot context. -/
def State.slot (s : State) (n : SlotNo) : SlotContext := s.slots[n]

/-- The state with one slot context set. -/
def State.setSlot (s : State) (n : SlotNo) (c : SlotContext) : State := { s with slots := s.slots.set n c }

/-- One Link Unit. -/
def State.link (s : State) (n : SlotNo) : LinkUnit := s.links[n]

/-- The state with one Link Unit set. -/
def State.setLink (s : State) (n : SlotNo) (l : LinkUnit) : State := { s with links := s.links.set n l }

/-- One lane: idle, or the sweep it holds. -/
def State.lane (s : State) (l : LaneNo) : Option Sweep := s.lanes[l]

/-- The state with one lane set. -/
def State.setLane (s : State) (l : LaneNo) (w : Option Sweep) : State := { s with lanes := s.lanes.set l w }

/-- The captured fields of one SL0. -/
def State.sl0 (s : State) (n : SlotNo) : SlotSettings := s.path.captured.slot[n]

/-- The captured values with one SL0 set. -/
def Captured.setSlot (c : Captured) (n : SlotNo) (x : SlotSettings) : Captured := { c with slot := c.slot.set n x }

/-- One card-good filter. -/
def State.card (s : State) (n : SlotNo) : Filter := s.supply.cards[n]

/-- The state with one card-good filter set. -/
def State.setCard (s : State) (n : SlotNo) (f : Filter) : State :=
  { s with supply := { s.supply with cards := s.supply.cards.set n f } }

/-- Whether a slot is LINKED. -/
def State.linked (s : State) (n : SlotNo) : Bool := (s.slot n).state == .linked

/-! ## The time base and timers (R1, R72) -/

/-- A millisecond timer has expired: the clock has reached its expiry time. The clock is cyclic, so a time is taken as
reached for half its span from then on (log entry 2). -/
def reached (clock expiry : Word) : Bool := (clock - expiry).toNat < 2147483648

/-- A running timer that has expired. -/
def timerDue (clock : Word) : Timer → Bool
  | some expiry => reached clock expiry
  | none => false

/-- A timer of n ms started at a clock value (R1). -/
def startTimer (clock : Word) (n : Nat) : Timer := some (clock + BitVec.ofNat 32 n)

/-- The span of the microsecond base: it wraps where the clock wraps. -/
def microSpan : Nat := 4294967296000

/-- The microsecond count (R72): the clock advances at every thousandth microsecond. -/
def Supply.micros (w : Supply) : Nat := w.clock.toNat * 1000 + w.micro

/-- The time from the release of power-on reset, in sixteenths of a microsecond, the time of one bit at FAST (R68): the
microseconds elapsed, and the instant of the present one at which its commands come, which is free (log entry 10). -/
def Supply.now (w : Supply) : Nat := w.elapsed * 16 + (Config.instant w.elapsed).toNat

/-- The expiry of an exchange timer of n µs started f µs from now. -/
def Supply.microExpiry (w : Supply) (f n : Nat) : Nat := (w.micros + f + n) % microSpan

/-- An exchange timer has expired (R72, log entry 2). -/
def Supply.microReached (w : Supply) (expiry : Nat) : Bool :=
  (w.micros + microSpan - expiry) % microSpan < microSpan / 2

/-- The filter time: 1 ms, or 4 ms when the FILT strap is high (R2). -/
def Supply.filterTime (w : Supply) : Word := if w.filtHigh then 4#32 else 1#32

/-- The clock value now. -/
def State.clock (s : State) : Word := s.supply.clock

/-! ## Handing a record to the Journal Writer (R161 to R164) -/

/-- The records complete in memory and not yet consumed (R161). -/
def Journal.occupancy (j : Journal) : Nat := (j.head - j.tail).toNat

/-- Every position unconsumed or promised (R161). -/
def Journal.allocated (j : Journal) : Nat := j.occupancy + j.records.length

/-- The free count (R161). -/
def Journal.free (j : Journal) : Nat := 255 - j.allocated

/-- A record accepted (R163): given the position after the last one allocated, and started if the list was empty. -/
def Journal.accept (j : Journal) (r : Record) : Journal :=
  { j with records := j.records ++ [⟨j.head + BitVec.ofNat 8 j.records.length, r⟩],
           word := if j.records.isEmpty then some 0 else j.word }

/-- A record judged with the overrun flag clear (R163). -/
def Journal.judge (j : Journal) (r : Record) : Journal :=
  if 0 < j.free then j.accept r else { j with overrun := true }

/-- A record handed over (R163, R164): with the overrun flag set, the gap is marked first where a position is free. -/
def Journal.handOver (j : Journal) (gap r : Record) : Journal :=
  if j.overrun then
    (if 0 < j.free then ({ j.accept gap with overrun := false }).judge r else j)
  else j.judge r

/-- The JOURNAL_GAP record of the moment (R164). -/
def State.gapRecord (s : State) : Record :=
  { kind := .journalGap, slot := none, aux := 0#8, cls := none, entry := none, episode := s.supply.episode,
    stamp := s.clock, value := 0#32 }

/-- A block raises a record (R169): its transition does not wait for it. -/
def State.raise (s : State) (r : Record) : State := { s with journal := s.journal.handOver s.gapRecord r }

/-- A record that names neither slot, class nor entry, stamped by the raising rule (R21). -/
def State.shelfRecord (s : State) (kind : RecordKind) (aux : BitVec 8) (stamp value : Word) : Record :=
  { kind := kind, slot := none, aux := aux, cls := none, entry := none, episode := s.supply.episode, stamp := stamp,
    value := value }

/-- A record about one slot, stamped now (R50, R62, R138). -/
def State.slotRecord (s : State) (kind : RecordKind) (n : SlotNo) (aux : BitVec 8) (value : Word) : Record :=
  { kind := kind, slot := some n, aux := aux, cls := none, entry := none, episode := s.supply.episode,
    stamp := s.clock, value := value }

/-- The attention output follows its two conditions at once (R166). -/
def State.driveAttention (s : State) : State :=
  { s with journal := { s.journal with
      attention := s.path.captured.attentionEnable && s.journal.head != s.journal.tail } }

/-! ## Controller cycles (R129, R131, R135, R141) -/

/-- The controller port takes a new cycle: it holds none, neither reset is asserted (R129, R141, R142), and no judgement
of a changed floor is left to act on (R146). -/
def State.takesCycle (s : State) : Bool := !s.por && !s.ctrlReset && s.path.ctrl == .idle && !s.judging.floor

/-- The open cycle completes with an answer, and the port is idle. -/
def State.answered (s : State) (a : CycleAnswer) : State :=
  { s with path := { s.path with ctrl := .idle, answer := a } }

/-- What a read that fails returns (R135, R136). -/
def allOnes : Word := 0xFFFFFFFF#32

/-- The answer of a window cycle that ends without the card's data (R135, R136). -/
def failedAnswer : RegisterOp → CycleAnswer
  | .read => .data allOnes
  | .write _ _ => .written

/-! ## Circuit entries (R86, R88, R89, R90) -/

/-- One circuit entry. -/
def State.entry (s : State) (i : EntryNo) : Entry := (Sparse.lookup s.circuits.entries i.val).getD .initial

/-- The entry that holds an endpoint (R89). -/
def State.holder (s : State) (p : Endpoint) : Option EntryNo := Sparse.lookup s.circuits.index (endpointKey p)

/-- A count of entries in one state, after an entry has moved (R90). -/
def moveCount (st old new : EntryState) (c : Nat) : Nat :=
  (c + if new = st then 1 else 0) - if old = st then 1 else 0

/-- The entries with one of them written: an entry at its power-on value is not listed. -/
def putEntries (l : List (Nat × Entry)) (i : EntryNo) (e : Entry) : List (Nat × Entry) :=
  if e = .initial then Sparse.erase l i.val else Sparse.insert l i.val e

/-- An entry written. The counts change with every move, and a move into or out of RESTORING is reported to the Restore
Engine (R90, R112). -/
def State.putEntry (s : State) (i : EntryNo) (e : Entry) : State :=
  { s with
    circuits := { s.circuits with
      entries := putEntries s.circuits.entries i e,
      waiting := moveCount .waiting (s.entry i).state e.state s.circuits.waiting,
      live := moveCount .live (s.entry i).state e.state s.circuits.live,
      faulted := moveCount .faulted (s.entry i).state e.state s.circuits.faulted },
    restore := { s.restore with
      restoring := moveCount .restoring (s.entry i).state e.state s.restore.restoring } }

/-- The state of the slot an endpoint names; an endpoint off the shelf names none. -/
def State.endpointState (s : State) (p : Endpoint) : Option SlotState := (slotOf p.slot).map fun n => (s.slot n).state

/-- Whether the slot of an endpoint is LINKED. -/
def State.endpointLinked (s : State) (p : Endpoint) : Bool := s.endpointState p == some .linked

end Sys2Proof.Machine
end

