-- ==== Sys2Proof/Machine/Flags.lean ====
section
/-! DEFINITION. The conditions the blocks judge: the settled condition (R12), the relink mode (R19), the grant (R52),
eligibility and the issue winner (R109, R111), DRAINED (R118), and which received frame is taken (R69). Each is judged
on the state as it stands (log entry 12); at the end, the moments of R12 and R146, and how a command takes its effect.
-/

namespace Sys2Proof.Machine

/-! ## Supply Watch -/

/-- R12: the slot states that hold recovery open. -/
def SlotState.unsettled : SlotState → Bool
  | .held => true
  | .booting => true
  | .pending => true
  | .training => true
  | .identify => true
  | .empty => false
  | .linked => false
  | .failed => false
  | .mismatch => false
  | .offline => false

/-- A class no greater than the captured restore floor. -/
def State.withinFloor (s : State) (e : Entry) : Bool := e.fields.cls ≤ s.path.captured.restoreFloor

/-- Both endpoint slots of an entry are LINKED (R109). -/
def State.bothLinked (s : State) (e : Entry) : Bool :=
  s.endpointLinked e.fields.a && s.endpointLinked e.fields.b

/-- R12: an entry that holds recovery open: it is RESTORING, or WAITING within the floor with both slots LINKED. -/
def State.unsettledEntry (s : State) (e : Entry) : Bool :=
  e.state == .restoring || (e.state == .waiting && s.bothLinked e && s.withinFloor e)

/-- The settled condition (R12). -/
def State.settled (s : State) : Bool :=
  allSlots.all (fun n => !(s.slot n).state.unsettled) && s.circuits.entries.all (fun p => !s.unsettledEntry p.2)

/-- The classification of an episode by its duration and the short-sag limit (R17). -/
def classifyEpisode (duration limit : BitVec 16) : Classification :=
  if limit ≠ 0#16 ∧ duration ≤ limit then .short else .long

/-- The running duration of an episode: the cyclic difference, saturated at 65535 (R16). -/
def episodeDuration (changeTime startStamp : Word) : BitVec 16 :=
  if (changeTime - startStamp).toNat ≤ 65535 then (changeTime - startStamp).setWidth 16 else 65535#16

/-! ## Slot Sequencer -/

/-- The last-good record is valid and its rate is the rate captured in SL0 (R19, R40, R54). -/
def State.timingKnown (s : State) (n : SlotNo) : Bool :=
  (s.slot n).lastGood.valid && (s.slot n).lastGood.rate == (s.sl0 n).rate

/-- The relink mode of a HELD slot at the recover notice (R19). -/
def State.modeChoice (s : State) (n : SlotNo) (cls : Classification) : Mode :=
  if cls == .short && (s.slot n).wasLinked && (s.slot n).cgHeld && !(s.slot n).forceFull && s.timingKnown n then .verify
  else .full

/-- The slot states that a sag notice moves to HELD (R42). -/
def SlotState.sagMoves : SlotState → Bool
  | .booting => true
  | .pending => true
  | .training => true
  | .identify => true
  | .linked => true
  | .empty => false
  | .held => false
  | .failed => false
  | .mismatch => false
  | .offline => false

/-! ## Lane Arbiter (R52) -/

/-- The waiting set: the slots that are PENDING. -/
def State.waits (s : State) (n : SlotNo) : Bool := (s.slot n).state == .pending

/-- The waiting slot with the lowest relink level, and among equal levels the lowest number. -/
def State.grantWinner (s : State) : Option SlotNo :=
  [0#2, 1#2, 2#2, 3#2].findSome? fun v => allSlots.find? fun n => s.waits n && (s.sl0 n).relinkLevel == v

/-- The lowest-numbered idle lane. -/
def State.idleLane (s : State) : Option LaneNo := allLanes.find? fun l => (s.lane l).isNone

/-! ## Link Units (R69, R71, R79) -/

/-- The exchange in flight and its tag take a reply of this content (R69, conditions 3 to 5). -/
def LinkUnit.takesReply (l : LinkUnit) (tag : BitVec 8) (c : FrameContent) : Bool :=
  match l.exchange with
  | some x => x.tag == tag && completes x.work c
  | none => false

/-- The conditions of R69 on a frame whose check has passed: an idle frame needs a Link Unit that listens for alive, a
reply an exchange in flight with its tag that its kind completes. -/
def LinkUnit.takesContent (l : LinkUnit) (f : RxFrame) : Bool :=
  match f.content with
  | .idle => l.listening
  | .otherKind => false
  | .cutShort => false
  | c => l.takesReply f.tag c

/-- Whether a received frame is taken: the five conditions of R69. -/
def LinkUnit.takesFrame (l : LinkUnit) (f : RxFrame) : Bool := l.takesContent f && f.checkPasses l.workingRate

/-- The timer of the exchange in flight has expired. -/
def State.exchangeExpired (s : State) (n : SlotNo) : Bool :=
  match (s.link n).exchange with
  | some x => s.supply.microReached x.expiry
  | none => false

/-- Requests whose first timeout sends them again (R72, R73). -/
def Work.retried : Work → Bool
  | .probe _ => false
  | .identityQuery => true
  | .clearOrder => true
  | .order _ => true
  | .register _ _ => false

/-- The link is free to choose an order or window exchange (R79). -/
def State.linkChooses (s : State) (n : SlotNo) : Bool :=
  s.linked n && (s.link n).exchange.isNone && !(s.link n).lossDeclared

/-! ## Restore Engine -/

/-- Eligibility (R109). -/
def State.eligible (s : State) (e : Entry) : Bool :=
  e.state == .waiting && s.bothLinked e && s.withinFloor e && e.fields.cls.toNat < s.restore.lowestClosed

/-- The oldest eligible entry of a class. -/
def State.eligibleOf (s : State) (c : BitVec 2) : Option EntryNo :=
  s.circuits.ageList.find? fun i => s.eligible (s.entry i) && (s.entry i).fields.cls == c

/-- The issue winner: lowest class, then nearest the head of the age list (R111). -/
def State.issueWinner (s : State) : Option EntryNo := [0#2, 1#2, 2#2, 3#2].findSome? s.eligibleOf

/-- The engine issues nothing from its sag notice until its next recover notice, and nothing into a full restore window
(R108, R111, R121). -/
def State.mayIssue (s : State) : Bool := s.restore.phase != .sagged && decide (s.restore.restoring < 16)

/-- The slot states that do not come back by themselves (R118). -/
def SlotState.gone : SlotState → Bool
  | .empty => true
  | .failed => true
  | .mismatch => true
  | .offline => true
  | .booting => false
  | .pending => false
  | .training => false
  | .identify => false
  | .linked => false
  | .held => false

/-- The slot of an endpoint is EMPTY, FAILED, MISMATCH or OFFLINE. -/
def State.endpointGone (s : State) (p : Endpoint) : Bool :=
  match s.endpointState p with
  | some st => st.gone
  | none => false

/-- R118: an entry of class below c that holds the barrier of class c closed. -/
def State.holdsBarrier (s : State) (c : Nat) (e : Entry) : Bool :=
  decide (e.fields.cls.toNat < c) &&
    (e.state == .restoring ||
      (e.state == .waiting && s.withinFloor e && !s.endpointGone e.fields.a && !s.endpointGone e.fields.b))

/-- The barrier of the lowest closed class is DRAINED (R118). -/
def State.drainedNow (s : State) : Bool :=
  s.restore.phase == .recovering && decide (s.restore.lowestClosed < 4) &&
    s.circuits.entries.all (fun p => !s.holdsBarrier s.restore.lowestClosed p.2)

/-! ## Judging moments (R12, R115, R131, R146) -/

/-- The settled condition stands judged and holds: recovery ends (R12, R13), also where a sag notice of the episode is
still on its way (log entry 39). -/
def State.recovered (s : State) : Bool := s.supply.shelf == .recover && s.judging.recovery && s.settled

/-- A judgement of eligibility, of DRAINED or of the settled condition has an act left to it (R115). -/
def State.judgementDue (s : State) : Bool := (s.issueWinner.isSome && s.mayIssue) || s.drainedNow || s.recovered

/-- The entry states, by index: an unlisted entry is IDLE. -/
def CircuitTable.states (t : CircuitTable) : List (Nat × EntryState) :=
  (t.entries.map fun p => (p.1, p.2.state)).filter fun p => p.2 != .idle

/-- The captured floor has changed (R115). -/
def State.floorChanged (s t : State) : Bool := t.path.captured.restoreFloor != s.path.captured.restoreFloor

/-- What the settled condition is judged on has changed (R12): a slot state, an entry state or the captured floor. -/
def State.inputsChanged (s t : State) : Bool :=
  (t.slots.map fun c => c.state) != (s.slots.map fun c => c.state) || t.circuits.states != s.circuits.states ||
    s.floorChanged t

/-- The settled condition as judged by the end of a command (R12): in RECOVER at each change of its inputs, and once
when the recover notice has been taken. Entering RECOVER is no judgement. A change is judged also where it comes between
RELINK_ALL and the Slot Sequencer's taking of its sag notice, which no rule orders (R14; log entry 39). -/
def State.judgeRecovery (s t : State) : State :=
  { t with judging := { t.judging with recovery :=
      s.supply.shelf == .recover && t.supply.shelf == .recover && (t.judging.recovery || s.inputsChanged t) } }

/-- The judgements that a changed floor calls for, as they stand at the end of a command (R115, R146): one that has an
act left to it holds the next controller access until it has acted. -/
def State.judgeFloor (s t : State) : State :=
  { t with judging := { t.judging with floor := (t.judging.floor || s.floorChanged t) && t.judgementDue } }

/-- The state a command leaves, with the judgements that its changes call for made (R12, R115, R131, R146). -/
def State.judged (s t : State) : State := s.judgeFloor (s.judgeRecovery t)

/-! ## Taking a command -/

/-- A command that is an event of the part: it has its effect where the event can come about, and no effect otherwise
or while power-on reset is asserted (R142, R172, log entries 1 and 18). -/
def State.event (s : State) (due : Bool) (t : State) : Result := .next (if !s.por && due then s.judged t else s)

/-- A controller write answered inside the part: it is taken whole and its cycle completes (R131, R132, R133). -/
def State.cycle (s : State) (t : State) : Result :=
  .next (if s.takesCycle then s.judged (t.answered .written) else s)

end Sys2Proof.Machine
end

