-- ==== Sys2Proof/Machine/Journal.lean ====
section
/-! DEFINITION. The Journal Writer (R161 to R169): word writes and the head, the tail, the attention line, the restart.
-/

namespace Sys2Proof.Machine

/-! ## Writing a record (R162) -/

/-- The word being written has completed (R162): the next word, or after J3 the head advances past the record and the
next pending record starts. -/
def Journal.wordDone (j : Journal) : Journal :=
  match j.word with
  | some 0 => { j with word := some 1 }
  | some 1 => { j with word := some 2 }
  | some 2 => { j with word := some 3 }
  | some 3 => { j with head := j.head + 1#8, records := j.records.tail,
                       word := if j.records.tail.isEmpty then none else some 0 }
  | none => j

/-- The journal word write that waits for the store port: address and data of the word in progress (R162). -/
def State.journalWrite (s : State) : Option (WordAddr × Word) :=
  match s.journal.records, s.journal.word with
  | p :: _, some k => some (ringWordAddr s.path.area p.position k, p.record.word k)
  | _, _ => none

/-- The store completes a journal word write (R162); a word whose record a controller reset abandoned advances nothing
(R167). -/
def State.storeJournal (s : State) (addr : WordAddr) (data : Word) (live : Bool) : State :=
  let s' := { s with memory := Memory.writeWord s.memory (byteAddress addr) data 15#4,
                     path := { s.path with store := .idle } }
  if live then ({ s' with journal := s.journal.wordDone }).driveAttention else s'

/-- JOURNAL_WORD_DONE (R162). -/
def execJournalWordDone (s : State) : Result :=
  match s.path.store with
  | .journal addr data live => s.event true (s.storeJournal addr data live)
  | .idle => s.event false s
  | .controller _ _ => s.event false s

/-! ## Consuming records (R165) and the attention enable (R166) -/

/-- A written tail lies cyclically from the captured tail to the head, inclusive (R165). -/
def Journal.acceptsTail (j : Journal) (v : BitVec 8) : Bool := (v - j.tail).toNat ≤ (j.head - j.tail).toNat

/-- A written tail taken (R165): accepted in the range, ignored outside it. -/
def State.takeTail (s : State) (v : BitVec 8) : State :=
  if s.journal.acceptsTail v then ({ s with journal := { s.journal with tail := v } }).driveAttention else s

/-- JOURNAL_TAIL_WRITE (R165). -/
def execJournalTailWrite (v : BitVec 8) (s : State) : Result := s.cycle (s.takeTail v)

/-- The captured values replaced. -/
def State.capture (s : State) (c : Captured) : State := { s with path := { s.path with captured := c } }

/-- The attention enable captured: the line follows at once (R145, R166). -/
def State.enableAttention (s : State) (enable : Bool) : State :=
  (s.capture { s.path.captured with attentionEnable := enable }).driveAttention

/-- ATTENTION_ENABLE_WRITE (R145, R166). -/
def execAttentionEnableWrite (enable : Bool) (s : State) : Result := s.cycle (s.enableAttention enable)

/-! ## Controller reset (R167) -/

/-- The journal restarted: head and tail 0, nothing pending, nothing being written, the line deasserted. -/
def Journal.restart (j : Journal) : Journal :=
  { j with head := 0#8, tail := 0#8, overrun := false, records := [], word := none, attention := false }

end Sys2Proof.Machine
end

