-- ==== Sys2Proof/Machine/Links.lean ====
section
/-! DEFINITION. The Link Units (R67 to R85): starting an exchange, the retry, and the order list. What a result does is
in the file of the block it is handed to. -/

namespace Sys2Proof.Machine

/-! ## The transmit pair (R55, R67, R68, R75)

Times are in sixteenths of a microsecond from the release of power-on reset (`Supply.now`). -/

/-- The tap by which a request frame delays its strobe: a probe by the tap it names (R55), any other by the working tap
(R67, R83). -/
def LinkUnit.requestStrobe (l : LinkUnit) : Work → Tap
  | .probe tap => tap
  | .identityQuery => l.workingTap
  | .clearOrder => l.workingTap
  | .order _ => l.workingTap
  | .register _ _ => l.workingTap

/-- The tap by which a link delays its strobe: for the duration of a probe the tap that the probe names (R55), and
otherwise the working tap (R67, R83; log entry 17 for what that is between a sweep start and the next lock). -/
def LinkUnit.strobe (l : LinkUnit) : Tap :=
  match l.exchange with
  | some x => l.requestStrobe x.work
  | none => l.workingTap

/-- When the frame on the pair at time t ends, and with it every frame placed before: idle frames of 24 bits follow one
another with no gap from `idleFrom` on (R68, R75). Where none is being sent that is t itself. -/
def LinkUnit.frameEnds (l : LinkUnit) (t : Nat) : Nat :=
  let idle := frameTime l.workingRate FrameKind.idle.length
  if t ≤ l.idleFrom then l.idleFrom else l.idleFrom + (t - l.idleFrom + (idle - 1)) / idle * idle

/-- The frame on the pair at time t is placed on it to its end, as it was begun, and what has been sent before is
dropped: what comes next begins at its end (R68, log entry 10). -/
def LinkUnit.finishFrame (l : LinkUnit) (t : Nat) : LinkUnit :=
  { l with
    line := l.line.filter (fun f => t < f.ends) ++
      (if l.idleFrom < t ∧ t < l.frameEnds t then [⟨none, l.workingRate, l.strobe, l.frameEnds t⟩] else []),
    idleFrom := l.frameEnds t }

/-- When the last bit of a request sent at time t has been sent: it begins at the end of the frame being sent (R68). -/
def LinkUnit.requestEnds (l : LinkUnit) (t : Nat) (work : Work) : Nat :=
  l.frameEnds t + frameTime l.workingRate (requestBits work)

/-- A request frame placed on the pair, with the next tag; idle frames follow it (R68, R75). -/
def LinkUnit.transmit (l : LinkUnit) (t : Nat) (work : Work) : LinkUnit :=
  { l with
    line := (l.finishFrame t).line ++
      [⟨some (work, l.nextTag), l.workingRate, l.requestStrobe work, l.requestEnds t work⟩],
    idleFrom := l.requestEnds t work }

/-! ## Exchanges (R72 to R75) -/

/-- The expiry of the timer of a request sent now: the timer starts at the microsecond count at which the last bit of the
request has been sent (R72, log entry 10). -/
def State.requestExpiry (s : State) (n : SlotNo) (work : Work) : Nat :=
  s.supply.microExpiry ((s.link n).requestEnds s.supply.now work / 16 - s.supply.elapsed) (requestTimeout work)

/-- The request sent as a new exchange, or again as a retry: its frame placed on the link, a fresh tag, and a timer that
starts when the last bit of the request has been sent (R68, R72, R73). -/
def State.send (s : State) (n : SlotNo) (work : Work) (retry : Bool) : State :=
  s.setLink n { (s.link n).transmit s.supply.now work with
    exchange := some
      { work := work, tag := (s.link n).nextTag, retry := retry, expiry := s.requestExpiry n work },
    nextTag := (s.link n).nextTag + 1#8 }

/-- The exchange ends or is abandoned: the link is free (R72, R74). -/
def State.freeLink (s : State) (n : SlotNo) : State := s.setLink n { s.link n with exchange := none }

/-- The Link Unit listens for alive at a rate (R29, R67, R75). Here and below a new setting of the link takes the pair
over from the end of the frame being sent (log entry 10). -/
def State.listen (s : State) (n : SlotNo) (rate : Rate) : State :=
  s.setLink n { (s.link n).finishFrame s.supply.now with listening := true, workingRate := rate }

/-- The Link Unit stops listening (R75). -/
def State.stopListening (s : State) (n : SlotNo) : State := s.setLink n { s.link n with listening := false }

/-- The settings at which the link works from a lock onward (R32, R67). -/
def State.tuneLink (s : State) (n : SlotNo) (rate : Rate) (tap : Tap) : State :=
  s.setLink n { (s.link n).finishFrame s.supply.now with workingRate := rate, workingTap := tap }

/-- The working rate of a sweep (R67). -/
def State.setRate (s : State) (n : SlotNo) (rate : Rate) : State :=
  s.setLink n { (s.link n).finishFrame s.supply.now with workingRate := rate }

/-! ## The order list (R76 to R80) -/

/-- The head order marked in flight, or no longer in flight. -/
def markHead (inFlight : Bool) : List Order → List Order
  | [] => []
  | o :: rest => { o with inFlight := inFlight } :: rest

/-- The order that withdrawal names, by its entry and endpoints (R78). -/
def Order.isFor (o : Order) (i : EntryNo) (ends : Ends) : Bool := o.entry == i && o.ends == ends

/-- The Link Unit's answer to a withdrawal (R78). -/
inductive WithdrawAnswer where
  | withdrawn
  | inFlight
  | notPresent
deriving DecidableEq, Repr

/-- What the Link Unit answers when an order is withdrawn (R78). -/
def LinkUnit.withdrawAnswer (l : LinkUnit) (i : EntryNo) (ends : Ends) : WithdrawAnswer :=
  match l.orders.find? (fun o => o.isFor i ends) with
  | none => .notPresent
  | some o => if o.inFlight then .inFlight else .withdrawn

/-- The order list after a withdrawal: an order not in flight is removed from its place (R78). -/
def LinkUnit.withdraw (l : LinkUnit) (i : EntryNo) (ends : Ends) : LinkUnit :=
  { l with orders := if l.withdrawAnswer i ends == .withdrawn then l.orders.eraseP (fun o => o.isFor i ends)
                     else l.orders }

/-- The order whose exchange has completed leaves the head of the list, and the link is free (R72, R80). -/
def State.completeOrder (s : State) (n : SlotNo) : State :=
  s.setLink n { s.link n with exchange := none, orders := (s.link n).orders.tail }

/-- The order in flight on a link, of one kind, if a reply with this tag and content is taken for it (R69, R80). -/
def State.answeredOrder (s : State) (n : SlotNo) (kind : OrderKind) (tag : BitVec 8) (c : FrameContent) :
    Option Order :=
  match (s.link n).exchange with
  | some x =>
    match x.work with
    | .order o => if o.kind = kind ∧ (s.link n).takesReply tag c then some o else none
    | _ => none
  | none => none

/-! ## Choosing the next exchange (R79) -/

/-- The window request's register exchange started: it goes ahead of the order list (R79, R83). -/
def State.startWindow (s : State) (n : SlotNo) (w : WindowRequest) : State :=
  (s.setLink n { s.link n with window := some { w with inFlight := true } }).send n (.register w.op w.index) false

/-- The exchange of the order at the head started (R76, R79). -/
def State.startOrder (s : State) (n : SlotNo) (o : Order) : State :=
  (s.setLink n { s.link n with orders := markHead true (s.link n).orders }).send n
    (.order { o with inFlight := true }) false

/-- The choice made by a free link (R79). -/
def State.chooseNext (s : State) (n : SlotNo) : State :=
  match (s.link n).window, (s.link n).orders with
  | some w, _ => s.startWindow n w
  | none, o :: _ => s.startOrder n o
  | none, [] => s

/-- CHOOSE_NEXT_EXCHANGE (R79). -/
def execChooseNextExchange (n : SlotNo) (s : State) : Result := s.event (s.linkChooses n) (s.chooseNext n)

/-! ## Retry and link loss (R73, R82) -/

/-- The first timeout of a retried request (R73). -/
def State.retryDue (s : State) (n : SlotNo) : Bool :=
  match (s.link n).exchange with
  | some x => x.work.retried && !x.retry && s.exchangeExpired n
  | none => false

/-- The same request sent again with a fresh tag (R73). -/
def State.resend (s : State) (n : SlotNo) : State :=
  match (s.link n).exchange with
  | some x => s.send n x.work true
  | none => s

/-- EXCHANGE_RETRY (R73). -/
def execExchangeRetry (n : SlotNo) (s : State) : Result := s.event (s.retryDue n) (s.resend n)

/-- An order in flight. -/
def Work.isOrder : Work → Bool
  | .order _ => true
  | .probe _ => false
  | .identityQuery => false
  | .clearOrder => false
  | .register _ _ => false

/-- The second timeout of an order on a LINKED slot (R73, R82). -/
def State.lossDue (s : State) (n : SlotNo) : Bool :=
  match (s.link n).exchange with
  | some x => x.work.isOrder && x.retry && s.exchangeExpired n && s.linked n
  | none => false

/-- Link loss declared: the exchange has ended, and the order it served is still at the head of the list (R82, log entry
25). -/
def State.declareLoss (s : State) (n : SlotNo) : State :=
  s.setLink n { s.link n with exchange := none, orders := markHead false (s.link n).orders, lossDeclared := true }

/-- LINK_LOSS_DECLARED (R82). -/
def execLinkLossDeclared (n : SlotNo) (s : State) : Result := s.event (s.lossDue n) (s.declareLoss n)

/-! ## What a link carries (R68, R75, R172) -/

/-- What the transmit pair of a link carries: the idle line state, or a frame at a rate, with the strobe delayed by a
tap. -/
inductive LinkLine where
  | idleLine
  | frame (rate : Rate) (strobe : Tap) (bits : List Bool)
deriving DecidableEq, Repr

/-- The bits of a frame placed on a link (R68). -/
def LineFrame.bits (f : LineFrame) : List Bool :=
  match f.request with
  | some (work, tag) => work.frame tag
  | none => idleFrame

/-- The frame on a transmit pair at time t: the first of the placed frames that has not ended, and after them idle frames
at the working rate (R67, R75). -/
def LinkUnit.lineAt (l : LinkUnit) (t : Nat) : LinkLine :=
  match l.line.find? (fun f => t < f.ends) with
  | some f => .frame f.rate f.strobe f.bits
  | none => .frame l.workingRate l.strobe idleFrame

/-- The transmit pair of a link: frames in every slot state (R67, R75), and the idle line state while power-on reset is
asserted (R172). -/
def State.linkLine (s : State) (n : SlotNo) : LinkLine :=
  if s.por then .idleLine else (s.link n).lineAt s.supply.now

end Sys2Proof.Machine
end

