-- ==== Sys2Proof/Machine/Slots.lean ====
section
/-! DEFINITION. The Slot Sequencer (R22 to R50): leaving a state, entering each state, attempts, and its commands. -/

namespace Sys2Proof.Machine

/-! ## Leaving a state (R24) -/

/-- The departure notice sent to the slot's Link Unit and to the Circuit Table (R24). The Circuit Table takes it
before another event reaches a RESTORING or LIVE entry with an endpoint on the slot (R103, `State.reachEntry`). -/
def State.sendDeparture (s : State) (n : SlotNo) : State :=
  { s with notices := { s.notices with departLink := s.notices.departLink ++ [n],
                                       departCircuits := s.notices.departCircuits ++ [n] } }

/-- The lane a slot holds is released and is idle at once, and the lane field becomes none (R24, R51). -/
def State.releaseLane (s : State) (n : SlotNo) : State :=
  match (s.slot n).lane with
  | some l => (s.setLane l none).setSlot n { s.slot n with lane := none }
  | none => s

/-- The boot timer is stopped and the boot wait ends (R24, R75). -/
def State.endBootWait (s : State) (n : SlotNo) : State :=
  (s.setSlot n { s.slot n with bootTimer := none }).stopListening n

/-- The work of the state a slot leaves is ended (R24). PENDING holds only its place in the waiting set, which is the
state itself. -/
def State.endWork (s : State) (n : SlotNo) : State :=
  match (s.slot n).state with
  | .booting => s.endBootWait n
  | .training => (s.releaseLane n).freeLink n
  | .identify => s.freeLink n
  | .linked => s.sendDeparture n
  | .empty => s
  | .pending => s
  | .held => s
  | .failed => s
  | .mismatch => s
  | .offline => s

/-! ## Entering a state -/

/-- The boot wait begins: the boot timer with the captured boot limit, and listening at the captured rate (R29). -/
def State.startBootWait (s : State) (n : SlotNo) : State :=
  (s.setSlot n { s.slot n with bootTimer := startTimer s.clock (s.path.captured.bootLimit.toNat * 100) }).listen n
    (s.sl0 n).rate

/-- BOOTING with reset, in FULL mode, at an attempt: a reset pulse of 10 ms starts, or restarts (R25, R29). -/
def State.bootWithReset (s : State) (n : SlotNo) (attempt : Nat) : State :=
  s.setSlot n { s.slot n with state := .booting, mode := .full, attempt := attempt,
                              pulseTimer := startTimer s.clock 10, resetOut := true }

/-- BOOTING without reset, as FULL attempt 1: the boot wait begins at once (R27, R29, R49). -/
def State.bootWithoutReset (s : State) (n : SlotNo) : State :=
  (s.setSlot n { s.slot n with state := .booting, mode := .full, attempt := 1 }).startBootWait n

/-- PENDING, in a mode at an attempt (R31). -/
def State.goPending (s : State) (n : SlotNo) (mode : Mode) (attempt : Nat) : State :=
  s.setSlot n { s.slot n with state := .pending, mode := mode, attempt := attempt }

/-- HELD with the force flags given, mode and attempt kept: at the sag notice, and at RELINK or RELINK_RESET in HELD
(R42, R46, R47; log entry 37). -/
def State.goHeld (s : State) (n : SlotNo) (forceFull forceReset : Bool) : State :=
  s.setSlot n { s.slot n with state := .held, forceFull := forceFull, forceReset := forceReset }

/-- HELD as FULL attempt 1, with force FULL: where a card-good declaration, RESUME, RELINK or RELINK_RESET leads into
HELD while the rail is watched (R26, R27, R42, R46, R47, R49, R174; log entry 37). -/
def State.startHeld (s : State) (n : SlotNo) (forceReset : Bool) : State :=
  s.setSlot n { s.slot n with state := .held, mode := .full, attempt := 1, forceFull := true,
                              forceReset := forceReset }

/-- LINKED: the last-good record is written and SLOT_LINKED raised (R39, R50). -/
def State.goLinked (s : State) (n : SlotNo) : State :=
  let s' := s.setSlot n { s.slot n with
    state := .linked, lane := none, forceFull := false, forceReset := false,
    lastGood := ⟨(s.slot n).lock.edge, (s.slot n).lock.rate, true⟩ }
  s'.raise (s'.slotRecord .slotLinked n ((s.slot n).mode.code.setWidth 8) (s'.slot n).ss1)

/-- FAILED, with SLOT_FAILED carrying the reason (R26, R50). -/
def State.goFailed (s : State) (n : SlotNo) (reason : FailReason) : State :=
  (s.setSlot n { s.slot n with state := .failed }).raise
    (s.slotRecord .slotFailed n 0#8 (reason.code.setWidth 32))

/-- An attempt failure of a slot whose work has ended (R26): the next FULL attempt with reset, or FAILED after the
third. Attempt 0, a VERIFY pass, goes on as FULL attempt 1. -/
def State.failAttempt (s : State) (n : SlotNo) (reason : FailReason) : State :=
  let s' := s.setSlot n { s.slot n with lastFailure := reason }
  if (s.slot n).attempt < 3 then s'.bootWithReset n ((s.slot n).attempt + 1) else s'.goFailed n reason

/-! ## Reset pulse and boot wait (R25, R29, R30) -/

/-- The reset pulse ends: the output is deasserted, and a slot still BOOTING begins its boot wait (R25). -/
def State.endPulse (s : State) (n : SlotNo) : State :=
  let s' := s.setSlot n { s.slot n with pulseTimer := none, resetOut := (s.slot n).state == .offline }
  if (s.slot n).state == .booting then s'.startBootWait n else s'

/-- RESET_PULSE_EXPIRY (R25). -/
def execResetPulseExpiry (n : SlotNo) (s : State) : Result :=
  s.event (timerDue s.clock (s.slot n).pulseTimer) (s.endPulse n)

/-- The boot timer has expired in BOOTING. -/
def State.bootDue (s : State) (n : SlotNo) : Bool :=
  (s.slot n).state == .booting && timerDue s.clock (s.slot n).bootTimer

/-- BOOT_TIMEOUT (R30). -/
def execBootTimeout (n : SlotNo) (s : State) : Result :=
  s.event (s.bootDue n) ((s.endWork n).failAttempt n .bootTimeout)

/-- The slot's Link Unit listens in its boot wait (R29, R75). -/
def State.awaitsAlive (s : State) (n : SlotNo) : Bool := (s.slot n).state == .booting && (s.link n).listening

/-- Alive: the boot timer is stopped and the slot enters PENDING, mode and attempt unchanged (R29). -/
def State.alive (s : State) (n : SlotNo) : State :=
  (s.endWork n).goPending n (s.slot n).mode (s.slot n).attempt

/-- IDLE_FRAME (R75): an idle frame whose check passes. -/
def execIdleFrame (n : SlotNo) (s : State) : Result := s.event (s.awaitsAlive n) (s.alive n)

/-! ## IDENTIFY (R35 to R38) -/

/-- The exchange in flight is the identity query and takes this reply (R69, R71). -/
def State.identityTaken (s : State) (n : SlotNo) (tag : BitVec 8) (type revision : BitVec 16) : Bool :=
  (s.slot n).state == .identify && (s.link n).takesReply tag (.identity type revision)

/-- The card's type matches what was captured at entry to IDENTIFY: 0 means any type (R35, R36). -/
def SlotContext.typeMatches (c : SlotContext) (type : BitVec 16) : Bool := c.expected == 0#16 || c.expected == type

/-- MISMATCH: the last-good record becomes invalid, and SLOT_MISMATCH carries what was found (R36, R50). -/
def State.goMismatch (s : State) (n : SlotNo) : State :=
  (s.setSlot n { s.slot n with state := .mismatch,
                               lastGood := { (s.slot n).lastGood with valid := false } }).raise
    (s.slotRecord .slotMismatch n 0#8 (s.slot n).ss2)

/-- The identity recorded (R36): the found type and revision, whether or not they match. -/
def State.recordIdentity (s : State) (n : SlotNo) (type revision : BitVec 16) : State :=
  s.setSlot n { s.slot n with foundType := type, foundRevision := revision }

/-- What the identity reply does (R36, R37): MISMATCH, LINKED in VERIFY mode, or the clear order in FULL mode. -/
def State.identified (s : State) (n : SlotNo) (type revision : BitVec 16) : State :=
  let s' := (s.freeLink n).recordIdentity n type revision
  if (s.slot n).typeMatches type then
    (match (s.slot n).mode with
     | .verify => s'.goLinked n
     | .full => s'.send n .clearOrder false)
  else s'.goMismatch n

/-- IDENTITY_REPLY (R36). -/
def execIdentityReply (n : SlotNo) (tag : BitVec 8) (type revision : BitVec 16) (s : State) : Result :=
  s.event (s.identityTaken n tag type revision) (s.identified n type revision)

/-- The exchange in flight is the clear order and takes done with this tag. -/
def State.clearTaken (s : State) (n : SlotNo) (tag : BitVec 8) : Bool :=
  (s.slot n).state == .identify && (s.link n).takesReply tag .done

/-- CLEAR_ORDER_DONE (R37, R39). -/
def execClearOrderDone (n : SlotNo) (tag : BitVec 8) (s : State) : Result :=
  s.event (s.clearTaken n tag) ((s.freeLink n).goLinked n)

/-- The second timeout of the identity query or of the clear order (R38, R73). -/
def State.identDue (s : State) (n : SlotNo) : Bool :=
  match (s.link n).exchange with
  | some x => (s.slot n).state == .identify && x.retry && s.exchangeExpired n
  | none => false

/-- IDENT_TIMEOUT (R38). -/
def execIdentTimeout (n : SlotNo) (s : State) : Result :=
  s.event (s.identDue n) ((s.freeLink n).failAttempt n .identTimeout)

/-! ## Link loss (R40) -/

/-- Link loss stands declared on a LINKED slot. -/
def State.lossStands (s : State) (n : SlotNo) : Bool := s.linked n && (s.link n).lossDeclared

/-- The mode after link loss (R40). -/
def State.lossMode (s : State) (n : SlotNo) : Mode := if s.timingKnown n then .verify else .full

/-- The attempt that goes with a mode when it is chosen (R26). -/
def Mode.firstAttempt : Mode → Nat
  | .full => 1
  | .verify => 0

/-- The reasons of a SLOT_LOST record (R50): CARD_GOOD 1, ORDER_TIMEOUT 2. -/
def lostCardGood : Word := 1#32

/-- See `lostCardGood`. -/
def lostOrderTimeout : Word := 2#32

/-- Link loss taken: SLOT_LOST, the departure notice, PENDING (R40). -/
def State.takeLoss (s : State) (n : SlotNo) : State :=
  ((s.raise (s.slotRecord .slotLost n 0#8 lostOrderTimeout)).endWork n).goPending n (s.lossMode n)
    (s.lossMode n).firstAttempt

/-- LINK_LOSS (R40). -/
def execLinkLoss (n : SlotNo) (s : State) : Result := s.event (s.lossStands n) (s.takeLoss n)

/-! ## Shelf notices (R23, R42, R43) -/

/-- The next notice on its way to the Slot Sequencer. -/
def State.slotsNotice (s : State) : Option ShelfNotice := s.notices.slots.head?

/-- The notice taken, and the judgement of the shelf it leaves (R23). -/
def State.takeSlotsNotice (s : State) (watching : Bool) : State :=
  { s with notices := { s.notices with slots := s.notices.slots.tail }, watching := watching }

/-- One slot at the sag notice (R42): its work ends and it goes to HELD; a reset pulse runs on (R25). -/
def State.holdSlot (s : State) (n : SlotNo) : State :=
  if (s.slot n).state.sagMoves then
    (s.endWork n).goHeld n (s.slot n).forceFull (s.slot n).forceReset
  else s

/-- The sag notice taken and every slot dealt with (R42). The slots that it moves send their departure notices in the order
of their numbers: the spec gives no order, and this one is the model's choice (log entry 40). -/
def State.holdSlots (s : State) : State := allSlots.foldl State.holdSlot (s.takeSlotsNotice true)

/-- A HELD slot is reset at the recover notice (R43): force reset was set, or its reset pulse still runs. -/
def SlotContext.resetAtRecover (c : SlotContext) : Bool := c.forceReset || c.pulseTimer.isSome

/-- The force flags cleared (R43). -/
def State.clearForce (s : State) (n : SlotNo) : State :=
  s.setSlot n { s.slot n with forceFull := false, forceReset := false }

/-- One slot at the recover notice (R43). -/
def State.recoverSlot (cls : Classification) (s : State) (n : SlotNo) : State :=
  if (s.slot n).state = .held then
    (if (s.slot n).resetAtRecover then (s.clearForce n).bootWithReset n 1
     else (s.clearForce n).goPending n (s.modeChoice n cls) (s.modeChoice n cls).firstAttempt)
  else s

/-- The settled condition is judged once when the recover notice has been taken (R12). -/
def State.judgeOnce (s : State) : State := { s with judging := { s.judging with recovery := true } }

/-- The recover notice taken by the Slot Sequencer (R43). -/
def State.recoverSlots (s : State) (cls : Classification) : State :=
  (allSlots.foldl (State.recoverSlot cls) (s.takeSlotsNotice false)).judgeOnce

/-- RECOVER_NOTICE_SLOTS (R43). -/
def execRecoverNoticeSlots (s : State) : Result :=
  match s.slotsNotice with
  | some (.recover cls) => s.event true (s.recoverSlots cls)
  | some .sag => s.event false s
  | some .normal => s.event false s
  | none => s.event false s

/-! ## Card-good declarations (R27, R28) -/

/-- The declared level recorded; a declaration of low clears "card-good held this episode" (R18, R27, log entry 16). -/
def State.recordCardGood (s : State) (n : SlotNo) (l : Level) : State :=
  s.setSlot n { s.slot n with cardGood := l, cgHeld := (s.slot n).cgHeld && l == .good }

/-- Good declared (R27, R174): an EMPTY slot goes to BOOTING, or to HELD with force FULL while the rail is watched, as
FULL attempt 1 in both. -/
def State.cardArrives (s : State) (n : SlotNo) : State :=
  let s' := s.recordCardGood n .good
  if (s.slot n).state = .empty then
    (if s.watching then s'.startHeld n false else s'.bootWithoutReset n)
  else s'

/-- EMPTY, with the pulse abandoned, the output deasserted and the force flags cleared (R25, R28). -/
def State.goEmpty (s : State) (n : SlotNo) : State :=
  s.setSlot n { s.slot n with state := .empty, pulseTimer := none, resetOut := false, forceFull := false,
                              forceReset := false }

/-- SLOT_LOST with reason CARD_GOOD, if the slot was LINKED (R28). -/
def State.raiseLost (s : State) (n : SlotNo) : State :=
  if s.linked n then s.raise (s.slotRecord .slotLost n 0#8 lostCardGood) else s

/-- Low declared (R28). -/
def State.cardLeaves (s : State) (n : SlotNo) : State :=
  let s' := s.recordCardGood n .low
  if (s.slot n).state = .empty ∨ (s.slot n).state = .offline then s'
  else ((s'.raiseLost n).endWork n).goEmpty n

/-! ## Slot requests (R45 to R49) -/

/-- RELINK taken (R46): FULL attempt 1 wherever it moves the slot (R26, log entry 37). -/
def State.takeRelink (s : State) (n : SlotNo) : State :=
  match (s.slot n).state with
  | .linked => if s.watching then s else (s.endWork n).goPending n .full 1
  | .failed => if s.watching then s.startHeld n (s.slot n).forceReset else s.goPending n .full 1
  | .mismatch => if s.watching then s.startHeld n (s.slot n).forceReset else s.goPending n .full 1
  | .held => s.goHeld n true (s.slot n).forceReset
  | .empty => s
  | .booting => s
  | .pending => s
  | .training => s
  | .identify => s
  | .offline => s

/-- RELINK (R46). -/
def execRelink (n : SlotNo) (s : State) : Result := s.cycle (s.takeRelink n)

/-- RELINK_RESET in a state whose work it ends (R47): BOOTING with reset as FULL attempt 1; ignored while the rail is
watched, when R23 says these states do not occur (log entry 28). -/
def State.resetNow (s : State) (n : SlotNo) : State :=
  if s.watching then s else (s.endWork n).bootWithReset n 1

/-- RELINK_RESET in FAILED or MISMATCH (R47), as FULL attempt 1 (R26). -/
def State.resetResting (s : State) (n : SlotNo) : State :=
  if s.watching then s.startHeld n true else s.bootWithReset n 1

/-- RELINK_RESET taken (R47). -/
def State.takeRelinkReset (s : State) (n : SlotNo) : State :=
  match (s.slot n).state with
  | .linked => s.resetNow n
  | .booting => s.resetNow n
  | .pending => s.resetNow n
  | .training => s.resetNow n
  | .identify => s.resetNow n
  | .failed => s.resetResting n
  | .mismatch => s.resetResting n
  | .held => s.goHeld n true true
  | .empty => s
  | .offline => s

/-- RELINK_RESET (R47). -/
def execRelinkReset (n : SlotNo) (s : State) : Result := s.cycle (s.takeRelinkReset n)

/-- OFFLINE: the pulse abandoned, the output asserted and held, the force flags cleared (R25, R48). -/
def State.goOffline (s : State) (n : SlotNo) : State :=
  s.setSlot n { s.slot n with state := .offline, pulseTimer := none, resetOut := true, forceFull := false,
                              forceReset := false }

/-- QUIESCE taken (R48): in OFFLINE already it changes nothing. -/
def State.takeQuiesce (s : State) (n : SlotNo) : State :=
  if (s.slot n).state = .offline then s else (s.endWork n).goOffline n

/-- QUIESCE (R48). -/
def execQuiesce (n : SlotNo) (s : State) : Result := s.cycle (s.takeQuiesce n)

/-- The slot-reset output of an OFFLINE slot released (R49). -/
def State.releaseReset (s : State) (n : SlotNo) : State := s.setSlot n { s.slot n with resetOut := false }

/-- RESUME taken (R49): FULL attempt 1 on the way to BOOTING and to HELD (R26); in EMPTY mode and attempt are kept until
the card arrives (R158, R174; log entry 37). -/
def State.takeResume (s : State) (n : SlotNo) : State :=
  if (s.slot n).state = .offline then
    (match (s.slot n).cardGood, s.watching with
     | .good, false => (s.releaseReset n).bootWithoutReset n
     | .good, true => (s.releaseReset n).startHeld n false
     | .low, _ => (s.releaseReset n).setSlot n { (s.releaseReset n).slot n with state := .empty })
  else s

/-- RESUME (R49). -/
def execResume (n : SlotNo) (s : State) : Result := s.cycle (s.takeResume n)

/-- The slot request a code names (R45); code 0 and codes 5 to 255 are ignored. -/
def State.slotRequest (s : State) (n : SlotNo) (code : Byte) : State :=
  if code = 1#8 then s.takeRelink n
  else if code = 2#8 then s.takeRelinkReset n
  else if code = 3#8 then s.takeQuiesce n
  else if code = 4#8 then s.takeResume n
  else s

end Sys2Proof.Machine
end

