-- ==== Sys2Proof/Machine/Circuits.lean ====
section
/-! DEFINITION. The Circuit Table (R86 to R107): requests, order marks, results of orders, becoming IDLE, parking. -/

namespace Sys2Proof.Machine

/-! ## Becoming IDLE (R102) -/

/-- The entry as it becomes IDLE: outcome RELEASED, flags clear; the captured word and the tag are kept. -/
def Entry.toIdle (e : Entry) : Entry :=
  { e with state := .idle, outcome := .released, doneA := false, doneB := false, releaseAfter := false,
           markA := .none, markB := .none }

/-- An entry becomes IDLE with outcome RELEASED: it leaves the age list, and its endpoints are freed (R102). -/
def State.becomeIdle (s : State) (i : EntryNo) : State :=
  let e := s.entry i
  let s' := s.putEntry i e.toIdle
  { s' with circuits := { s'.circuits with
      ageList := s'.circuits.ageList.erase i,
      index := Sparse.erase (Sparse.erase s'.circuits.index (endpointKey e.fields.a)) (endpointKey e.fields.b) } }

/-- A RELEASING entry with neither mark standing becomes IDLE (R101, R104). -/
def State.settleReleasing (s : State) (i : EntryNo) : State :=
  if (s.entry i).state = .releasing ∧ (s.entry i).noMarks then s.becomeIdle i else s

/-! ## Results of release orders and hand-backs (R81, R101, R103) -/

/-- A release ended for one endpoint: the done flag is cleared and the mark becomes none (R101). -/
def Entry.endRelease (e : Entry) (x : Side) : Entry :=
  if e.mark x = .release then (e.setMark x .none).setDone x false else e

/-- A release order done, refused, or handed back as taken to be done (R101). A mark that does not expect it leaves the
entry as it is (R87). -/
def State.releaseEnded (s : State) (i : EntryNo) (ends : Ends) : State :=
  if (s.entry i).mark ends.lead = .release then
    (s.putEntry i (ends.sides.foldl Entry.endRelease (s.entry i))).settleReleasing i
  else s

/-- A mark that a connect order stands behind (R87). -/
def Mark.isConnect : Mark → Bool
  | .connect => true
  | .lateConnect => true
  | .connectThenRelease => true
  | .none => false
  | .release => false

/-- A connect not carried out for one endpoint: whatever connect mark it held becomes none (R103). -/
def Entry.dropConnect (e : Entry) (x : Side) : Entry := if (e.mark x).isConnect then e.setMark x .none else e

/-- A connect order handed back as not carried out (R103). -/
def State.connectDropped (s : State) (i : EntryNo) (ends : Ends) : State :=
  if ((s.entry i).mark ends.lead).isConnect then
    s.putEntry i (ends.sides.foldl Entry.dropConnect (s.entry i))
  else s

/-- An order of slot n handed back to the table (R77, R81): a connect order as not carried out, a release order as taken
to be done. One that names no endpoint of its entry is not expected by any mark, and is ignored (R87). -/
def State.handBack (n : SlotNo) (s : State) (o : Order) : State :=
  if o.serves n (s.entry o.entry) then
    (match o.kind with
     | .connect => s.connectDropped o.entry o.ends
     | .release => s.releaseEnded o.entry o.ends)
  else s

/-! ## Appending orders (R77) -/

/-- An order appended to the list of a slot; a slot that is not LINKED hands it straight back (R77). -/
def State.appendTo (s : State) (n : SlotNo) (o : Order) : State :=
  if s.linked n then s.setLink n { s.link n with orders := (s.link n).orders ++ [o] } else s.handBack n o

/-- The order of an entry for some of its endpoints, appended to the list of their slot. -/
def State.appendOrder (s : State) (i : EntryNo) (kind : OrderKind) (ends : Ends) : State :=
  match slotOf ((s.entry i).endpoint ends.lead).slot with
  | some n => s.appendTo n ((s.entry i).order i kind ends)
  | none => s

/-- The orders for both endpoints: one naming both ports on one slot, and otherwise one on each slot (R77). -/
def State.appendBoth (s : State) (i : EntryNo) (kind : OrderKind) : State :=
  if (s.entry i).oneSlot then s.appendOrder i kind .both
  else (s.appendOrder i kind (.one .a)).appendOrder i kind (.one .b)

/-- The entry with the marks of an order's endpoints set. -/
def Entry.setMarks (e : Entry) (ends : Ends) (m : Mark) : Entry := ends.sides.foldl (fun e x => e.setMark x m) e

/-- The entry with the done flags of an order's endpoints set. -/
def Entry.setDones (e : Entry) (ends : Ends) (d : Bool) : Entry := ends.sides.foldl (fun e x => e.setDone x d) e

/-- The entry moved to RELEASING with release orders appended for both endpoints (R95, R98). That the second done of an
entry with release-after set writes ACCEPTED, whatever outcome a later write had set, is log entry 31. -/
def State.releaseBoth (s : State) (i : EntryNo) (e : Entry) : State :=
  (s.putEntry i { e with state := .releasing, outcome := .accepted, releaseAfter := false, markA := .release,
                         markB := .release }).appendBoth i .release

/-! ## Withdrawing a connect, and undoing a join (R78, R94, R98, R99, R103, R105) -/

/-- R94: the late connect mark of a WAITING entry becomes "connect, then release". -/
def Mark.toUndo : Mark → Mark
  | .lateConnect => .connectThenRelease
  | m => m

/-- The entry with every late connect mark to be undone. -/
def Entry.undoLate (e : Entry) : Entry := { e with markA := e.markA.toUndo, markB := e.markB.toUndo }

/-- The answer of the Link Unit of an endpoint's slot to a withdrawal of the connect for that endpoint (R78). -/
def State.withdrawAnswer (s : State) (i : EntryNo) (ends : Ends) : WithdrawAnswer :=
  match slotOf ((s.entry i).endpoint ends.lead).slot with
  | some n => (s.link n).withdrawAnswer i ends
  | none => .notPresent

/-- The order withdrawn from the list of its slot (R78). -/
def State.withdrawOrder (s : State) (i : EntryNo) (ends : Ends) : State :=
  match slotOf ((s.entry i).endpoint ends.lead).slot with
  | some n => s.setLink n ((s.link n).withdraw i ends)
  | none => s

/-- The mark after a withdrawal (R99, R103, R105): none when withdrawn, a mark of the caller's when the order is in
flight, and left as it was when the order is not present. -/
def markAfterWithdraw (answer : WithdrawAnswer) (inFlight old : Mark) : Mark :=
  match answer with
  | .withdrawn => .none
  | .inFlight => inFlight
  | .notPresent => old

/-- The connect for some endpoints withdrawn, and their marks set by the answer (R78, R99, R103, R105). -/
def State.withdrawConnect (s : State) (i : EntryNo) (ends : Ends) (inFlight : Mark) : State :=
  (s.withdrawOrder i ends).putEntry i
    ((s.entry i).setMarks ends
      (markAfterWithdraw (s.withdrawAnswer i ends) inFlight ((s.entry i).mark ends.lead)))

/-- A release order appended for one endpoint, its mark set (R98, R99, R103). -/
def State.undoJoin (s : State) (i : EntryNo) (x : Side) : State :=
  (s.putEntry i ((s.entry i).setMark x .release)).appendOrder i .release (.one x)

/-! ## Parking at a departure notice (R103, R104) -/

/-- An endpoint of the entry lies on slot X. -/
def Entry.on (e : Entry) (x : Side) (n : SlotNo) : Bool := slotOf (e.endpoint x).slot == some n

/-- The entry with the mark and the done flag of every endpoint on X cleared (R103, R104). -/
def Entry.clearOn (e : Entry) (n : SlotNo) : Entry :=
  [Side.a, Side.b].foldl (fun e x => if e.on x n then (e.setMark x .none).setDone x false else e) e

/-- The endpoint of a RESTORING entry that lies off X (R103): on a slot still LINKED its connect is withdrawn or left
late; on a slot that has left LINKED too its mark becomes none (log entry 14). -/
def State.parkOther (s : State) (i : EntryNo) (x : Side) : State :=
  if s.endpointLinked ((s.entry i).endpoint x) then
    (if (s.entry i).mark x = .connect then s.withdrawConnect i (.one x) .lateConnect else s)
  else s.putEntry i (((s.entry i).setMark x .none).setDone x false)

/-- A parked entry returns to WAITING with both done flags clear (R103, R105). -/
def Entry.toWaiting (e : Entry) : Entry := { e with state := .waiting, doneA := false, doneB := false }

/-- Release-after resolved at parking (R103): with a completed join or a late connect left the entry goes to RELEASING,
and otherwise to IDLE. An entry that goes to RELEASING keeps the outcome it has (log entry 33). -/
def State.parkReleased (s : State) (i : EntryNo) (x : Side) : State :=
  let e := { s.entry i with releaseAfter := false }
  if e.mark x = .lateConnect then s.putEntry i { e.undoLate with state := .releasing }
  else if e.done x then (s.putEntry i { e with state := .releasing }).undoJoin i x
  else (s.putEntry i e).becomeIdle i

/-- The step that depends on release-after (R103). -/
def State.parkResolve (s : State) (i : EntryNo) (x : Side) : State :=
  if (s.entry i).releaseAfter then s.parkReleased i x else s.putEntry i (s.entry i).toWaiting

/-- The side of an entry that lies off X, where there is one; where both lie on X, either. -/
def Entry.sideOff (e : Entry) (n : SlotNo) : Side := if e.on .a n then .b else .a

/-- A RESTORING entry parked at the departure of X (R103). -/
def State.parkRestoring (s : State) (n : SlotNo) (i : EntryNo) : State :=
  let x := (s.entry i).sideOff n
  if (s.entry i).on x n then (s.putEntry i ((s.entry i).clearOn n)).parkResolve i x
  else ((s.parkOther i x).putEntry i (((s.parkOther i x).entry i).clearOn n)).parkResolve i x

/-- One entry with an endpoint on X, parked by its state (R103, R104). -/
def State.parkEntry (n : SlotNo) (s : State) (i : EntryNo) : State :=
  let e := s.entry i
  if e.on .a n || e.on .b n then
    (match e.state with
     | .idle => s
     | .waiting => s.putEntry i (e.clearOn n)
     | .restoring => s.parkRestoring n i
     | .live => s.putEntry i (e.clearOn n).toWaiting
     | .releasing => (s.putEntry i (e.clearOn n)).settleReleasing i
     | .faulted => s.putEntry i (e.clearOn n))
  else s

/-- The departure notice of a slot taken by the Circuit Table: every entry parked, oldest first (R103, log entry 13). -/
def State.parkSlot (s : State) (n : SlotNo) : State :=
  s.circuits.ageList.foldl (State.parkEntry n)
    { s with notices := { s.notices with departCircuits := s.notices.departCircuits.erase n } }

/-- DEPARTURE_NOTICE_CIRCUITS (R103, R104). -/
def execDepartureNoticeCircuits (n : SlotNo) (s : State) : Result :=
  s.event (s.notices.departCircuits.contains n) (s.parkSlot n)

/-! ## An event that reaches an entry after a departure (R103) -/

/-- The entry has its connections on the cards of its slots: every departure moves it out of these states (R103). -/
def Entry.joined (e : Entry) : Bool := e.state == .restoring || e.state == .live

/-- The departure notice that must be taken before another event reaches an entry (R103): one of a slot on which a
RESTORING or LIVE entry has an endpoint, the one sent first where there are two (two that one sag sends:
log entry 40). -/
def State.noticeDue (s : State) (i : EntryNo) : Option SlotNo :=
  if (s.entry i).joined then s.notices.departCircuits.find? fun n => (s.entry i).on .a n || (s.entry i).on .b n else none

/-- A request-word write or a result reaches an entry: a departure moves a RESTORING or LIVE entry out of its state
before that (R103, log entry 34). -/
def State.reachEntry (s : State) (i : EntryNo) : State :=
  match s.noticeDue i with
  | some n => s.parkSlot n
  | none => s

/-! ## Request-word writes (R91 to R95) -/

/-- The outcome of an entry set, and nothing else. -/
def State.setOutcome (s : State) (i : EntryNo) (o : ReqOutcome) : State := s.putEntry i { s.entry i with outcome := o }

/-- R92: an endpoint off the shelf, or A equal to B. -/
def RequestFieldsBad (f : RequestFields) : Bool :=
  (slotOf f.a.slot).isNone || (slotOf f.b.slot).isNone || f.a == f.b

/-- R92: either endpoint held by another entry. -/
def State.portInUse (s : State) (f : RequestFields) : Bool := (s.holder f.a).isSome || (s.holder f.b).isSome

/-- A CONNECT accepted (R88, R89, R92). -/
def State.acceptConnect (s : State) (i : EntryNo) (f : RequestFields) : State :=
  let s' := s.putEntry i
    { code := .connect, fields := f, state := .waiting, outcome := .accepted, tag := s.circuits.admissions,
      doneA := false, doneB := false, releaseAfter := false, markA := .none, markB := .none }
  { s' with circuits := { s'.circuits with
      ageList := s'.circuits.ageList ++ [i],
      admissions := s'.circuits.admissions + 1#16,
      index := Sparse.insert (Sparse.insert s'.circuits.index (endpointKey f.a) i) (endpointKey f.b) i } }

/-- A CONNECT to an IDLE entry (R92). -/
def State.connectIdle (s : State) (i : EntryNo) (f : RequestFields) : State :=
  if RequestFieldsBad f then s.setOutcome i .badEndpoint
  else if s.portInUse f then s.setOutcome i .portInUse
  else s.acceptConnect i f

/-- RELEASE taken on an entry outside IDLE, by its state (R94, R95). -/
def State.applyRelease (s : State) (i : EntryNo) : State :=
  let e := s.entry i
  match e.state with
  | .idle => s
  | .waiting =>
    if e.noMarks then s.becomeIdle i
    else s.putEntry i { e.undoLate with state := .releasing, outcome := .accepted }
  | .restoring => s.putEntry i { e with releaseAfter := true, outcome := .accepted }
  | .live => s.releaseBoth i e
  | .releasing => s.putEntry i { e with outcome := .accepted }
  | .faulted =>
    if e.noMarks then s.becomeIdle i
    else s.putEntry i { e with state := .releasing, outcome := .accepted }

/-- The request code of an entry captured (R93, R96). -/
def State.captureCode (s : State) (i : EntryNo) (c : RequestCode) : State := s.putEntry i { s.entry i with code := c }

/-- A full write to an IDLE entry (R92). -/
def State.writeIdle (s : State) (i : EntryNo) (c : RequestCode) (f : RequestFields) : State :=
  match c with
  | .none => s.putEntry i { s.entry i with code := .none, fields := f, outcome := .none }
  | .release => s.putEntry i { s.entry i with code := .release, fields := f, outcome := .nothingToRelease }
  | .connect => s.connectIdle i f

/-- A full write to an entry outside IDLE (R93 to R95): fields that differ from the captured word give BUSY. -/
def State.writeBusy (s : State) (i : EntryNo) (c : RequestCode) (f : RequestFields) : State :=
  if (s.entry i).fields = f then
    (match c with
     | .none => s.captureCode i .none
     | .connect => (s.captureCode i .connect).setOutcome i .busy
     | .release => (s.captureCode i .release).applyRelease i)
  else s.setOutcome i .busy

/-- A request-word write with a request code 0 to 2 (R91): a partial write is refused first. -/
def State.writeRequest (s : State) (i : EntryNo) (c : RequestCode) (f : RequestFields) (enables : ByteEnables) :
    State :=
  if enables ≠ 15#4 then s.setOutcome i .partialWrite
  else if (s.entry i).state = .idle then s.writeIdle i c f
  else s.writeBusy i c f

/-- CONNECT (R92, R93). -/
def execConnect (i : EntryNo) (f : RequestFields) (enables : ByteEnables) (s : State) : Result :=
  s.cycle ((s.reachEntry i).writeRequest i .connect f enables)

/-- RELEASE (R92 to R95). -/
def execRelease (i : EntryNo) (f : RequestFields) (enables : ByteEnables) (s : State) : Result :=
  s.cycle ((s.reachEntry i).writeRequest i .release f enables)

/-- NONE_REQUEST (R92, R93). -/
def execNoneRequest (i : EntryNo) (f : RequestFields) (enables : ByteEnables) (s : State) : Result :=
  s.cycle ((s.reachEntry i).writeRequest i .none f enables)

/-- A request-word write with request code 3 (R91). -/
def State.writeBad (s : State) (i : EntryNo) (enables : ByteEnables) : State :=
  if enables ≠ 15#4 then s.setOutcome i .partialWrite else s.setOutcome i .badRequest

/-- BAD_REQUEST (R91). -/
def execBadRequest (i : EntryNo) (enables : ByteEnables) (s : State) : Result :=
  s.cycle ((s.reachEntry i).writeBad i enables)

/-- One entry of the RELEASE_ALL walk (R96). -/
def State.releaseOne (s : State) (i : EntryNo) : State := (s.captureCode i .release).applyRelease i

/-- RELEASE_ALL reaches every entry: the departures that this waits for (R103, log entry 34). -/
def State.reachAll (s : State) : State := s.circuits.ageList.foldl State.reachEntry s

/-- The age list walked from head to tail (R96). -/
def State.releaseWalk (s : State) : State := s.circuits.ageList.foldl State.releaseOne s

/-- RELEASE_ALL taken (R96). -/
def State.takeReleaseAll (s : State) : State := s.reachAll.releaseWalk

/-- RELEASE_ALL (R96). -/
def execReleaseAll (s : State) : Result := s.cycle s.takeReleaseAll

/-! ## Results of connect orders (R98, R99, R100) -/

/-- Both connects of a RESTORING entry have completed (R98): LIVE, or RELEASING where release-after is set (the outcome
that is then written is log entry 31). -/
def State.joined (s : State) (i : EntryNo) (e : Entry) : State :=
  if e.releaseAfter then s.releaseBoth i e else s.putEntry i { e with state := .live }

/-- Done for the connect a RESTORING entry expects (R98). -/
def State.connectCompleted (s : State) (i : EntryNo) (ends : Ends) : State :=
  let e := ((s.entry i).setDones ends true).setMarks ends .none
  if e.doneA && e.doneB then s.joined i e else s.putEntry i e

/-- Done to a connect order, taken against the mark (R98). -/
def State.connectDone (s : State) (i : EntryNo) (ends : Ends) : State :=
  match (s.entry i).mark ends.lead with
  | .connect => if (s.entry i).state = .restoring then s.connectCompleted i ends else s
  | .connectThenRelease =>
    (s.putEntry i (((s.entry i).setDones ends true).setMarks ends .release)).appendOrder i .release ends
  | .lateConnect => s.putEntry i ((s.entry i).setMarks ends .none)
  | .none => s
  | .release => s

/-- Done to a connect order of slot n (R80, R98): ignored where it names no endpoint of its entry (R87). -/
def State.takeConnectDone (s : State) (n : SlotNo) (o : Order) : State :=
  if o.serves n (s.entry o.entry) then s.connectDone o.entry o.ends else s

/-- CONNECT_DONE (R98): the order leaves its list, and the table takes the result. -/
def execConnectDone (n : SlotNo) (tag : BitVec 8) (s : State) : Result :=
  match s.answeredOrder n .connect tag .done with
  | some o => s.event true (((s.reachEntry o.entry).completeOrder n).takeConnectDone n o)
  | none => s.event false s

/-- ENTRY_FAULTED (R100). -/
def State.faultRecord (s : State) (n : SlotNo) (i : EntryNo) (reason : RefusalReason) : Record :=
  { kind := .entryFaulted, slot := some n, aux := reason.code, cls := some (s.entry i).fields.cls, entry := some i,
    episode := s.supply.episode, stamp := s.clock, value := entryFaultedValue n reason }

/-- The other endpoint of a refused entry, dealt with by its own state (R99). -/
def State.dealOther (s : State) (i : EntryNo) (x : Side) : State :=
  if (s.entry i).mark x = .connect then s.withdrawConnect i (.one x) .connectThenRelease
  else if (s.entry i).done x then s.undoJoin i x
  else s

/-- The other endpoints of a refusal: none where one order served both. -/
def Ends.others : Ends → List Side
  | .one x => [x.other]
  | .both => []

/-- A release-after that a refusal finds set: the entry takes the RELEASE it stood for (R95, R99). -/
def State.resolveFaulted (s : State) (i : EntryNo) (releaseAfter : Bool) : State :=
  if releaseAfter then s.applyRelease i else s

/-- Refusal of the connect a RESTORING entry expects (R99). -/
def State.entryRefused (s : State) (n : SlotNo) (i : EntryNo) (ends : Ends) (reason : RefusalReason) : State :=
  let e := s.entry i
  let s' := (s.raise (s.faultRecord n i reason)).putEntry i
    { e.setMarks ends .none with state := .faulted, outcome := .refusedByCard, releaseAfter := false }
  (ends.others.foldl (fun t x => t.dealOther i x) s').resolveFaulted i e.releaseAfter

/-- A refusal of a connect order, taken against the mark (R99). -/
def State.connectRefused (s : State) (n : SlotNo) (i : EntryNo) (ends : Ends) (reason : RefusalReason) : State :=
  match (s.entry i).mark ends.lead with
  | .connect => if (s.entry i).state = .restoring then s.entryRefused n i ends reason else s
  | .connectThenRelease => (s.putEntry i ((s.entry i).setMarks ends .none)).settleReleasing i
  | .lateConnect => s.putEntry i ((s.entry i).setMarks ends .none)
  | .none => s
  | .release => s

/-- A refusal of a connect order of slot n (R80, R99): ignored where it names no endpoint of its entry (R87). -/
def State.takeConnectRefusal (s : State) (n : SlotNo) (o : Order) (reason : RefusalReason) : State :=
  if o.serves n (s.entry o.entry) then s.connectRefused n o.entry o.ends reason else s

/-- CONNECT_REFUSAL (R99). -/
def execConnectRefusal (n : SlotNo) (tag : BitVec 8) (reason : RefusalReason) (s : State) : Result :=
  match s.answeredOrder n .connect tag (.refusal reason) with
  | some o => s.event true (((s.reachEntry o.entry).completeOrder n).takeConnectRefusal n o reason)
  | none => s.event false s

/-- The reply content of an answer to a release order (R71). -/
def releaseContent : ReleaseAnswer → FrameContent
  | .done => .done
  | .refusal reason => .refusal reason

/-- The end of a release order of slot n (R80, R101): ignored where it names no endpoint of its entry (R87). -/
def State.takeReleaseEnd (s : State) (n : SlotNo) (o : Order) : State :=
  if o.serves n (s.entry o.entry) then s.releaseEnded o.entry o.ends else s

/-- RELEASE_RESULT (R101): done and a refusal are taken alike. -/
def execReleaseResult (n : SlotNo) (tag : BitVec 8) (answer : ReleaseAnswer) (s : State) : Result :=
  match s.answeredOrder n .release tag (releaseContent answer) with
  | some o => s.event true (((s.reachEntry o.entry).completeOrder n).takeReleaseEnd n o)
  | none => s.event false s

/-! ## Parking at a sag notice (R105) -/

/-- Both done flags cleared. -/
def Entry.clearDone (e : Entry) : Entry := { e with doneA := false, doneB := false }

/-- A standing connect of a RESTORING entry withdrawn at the sag notice (R105). -/
def State.sagWithdraw (i : EntryNo) (s : State) (ends : Ends) : State :=
  if (s.entry i).mark ends.lead = .connect then s.withdrawConnect i ends .lateConnect else s

/-- The orders that a RESTORING entry's connects were sent as. -/
def Entry.orderEnds (e : Entry) : List Ends := if e.oneSlot then [.both] else [.one .a, .one .b]

/-- A RESTORING entry after its connects have been withdrawn (R105): WAITING, or by release-after IDLE or RELEASING. -/
def State.sagResolve (s : State) (i : EntryNo) : State :=
  let e := (s.entry i).clearDone
  if e.releaseAfter then
    (if e.noMarks then (s.putEntry i { e with releaseAfter := false }).becomeIdle i
     else s.putEntry i { e.undoLate with state := .releasing, outcome := .accepted, releaseAfter := false })
  else s.putEntry i e.toWaiting

/-- One entry parked at the sag notice (R105). -/
def State.sagEntry (s : State) (i : EntryNo) : State :=
  let e := s.entry i
  match e.state with
  | .idle => s
  | .waiting => s
  | .restoring => (e.orderEnds.foldl (State.sagWithdraw i) s).sagResolve i
  | .live => s.putEntry i e.toWaiting
  | .releasing => (s.putEntry i e.clearDone).settleReleasing i
  | .faulted => s.putEntry i e.clearDone

/-- The sag notice taken by the Circuit Table (R105, log entry 13). -/
def State.sagCircuits (s : State) : State :=
  s.circuits.ageList.foldl State.sagEntry { s with notices := { s.notices with circuits := s.notices.circuits - 1 } }

/-! ## A sag notice and the departures before it (R103, R105) -/

/-- Every departure notice on its way to the Circuit Table taken there, in the order sent. -/
def State.takeDepartures (s : State) : State := s.notices.departCircuits.foldl State.parkSlot s

/-- The sag notices that the Circuit Table takes late: those that the Slot Sequencer has taken and the table has not. -/
def State.lateSags (s : State) : Nat := s.notices.circuits - s.notices.slots.count .sag

/-- The sag notice taken by the Slot Sequencer (R42): the departure notices on their way to the table then are of slots
that left LINKED before, and the table takes them first (R103, R105, log entry 34). -/
def State.sagSlots (s : State) : State := s.takeDepartures.holdSlots

/-- SAG_NOTICE_SLOTS (R42). -/
def execSagNoticeSlots (s : State) : Result := s.event (s.slotsNotice == some .sag) s.sagSlots

/-- The sag notice reaches the table. Where the Slot Sequencer has not taken it, every departure notice on its way is of a
slot that left LINKED before, and is taken first; where it has, those on their way are of the slots that this sag moved
to HELD, and R105 gives no order (R103, R105, log entry 34). -/
def State.reachSag (s : State) : State := if s.lateSags = 0 then s.takeDepartures else s

/-- One sag notice taken by the Circuit Table, after the departure notices it waits for (R103, R105). -/
def State.takeSagCircuits (s : State) : State := s.reachSag.sagCircuits

/-- SAG_NOTICE_CIRCUITS (R105). -/
def execSagNoticeCircuits (s : State) : Result := s.event (decide (0 < s.notices.circuits)) s.takeSagCircuits

end Sys2Proof.Machine
end

