-- ==== Sys2Proof/Machine/Restore.lean ====
section
/-! DEFINITION. The Restore Engine (R108 to R126): issue, the class barriers and their timer, and its notices. -/

namespace Sys2Proof.Machine

/-! ## Issue (R97, R111, R113) -/

/-- The entry as it enters RESTORING: both marks connect; a late connect is adopted (R97). -/
def Entry.toRestoring (e : Entry) : Entry :=
  { e with state := .restoring, doneA := false, doneB := false, releaseAfter := false, markA := .connect,
           markB := .connect }

/-- The connect order for one endpoint appended where no order was outstanding for it (R97). -/
def State.appendConnect (s : State) (i : EntryNo) (ends : Ends) (old : Mark) : State :=
  if old = .none then s.appendOrder i .connect ends else s

/-- An entry issued (R97): moved to RESTORING, its connect orders appended. -/
def State.issueEntry (s : State) (i : EntryNo) : State :=
  let e := s.entry i
  let s' := s.putEntry i e.toRestoring
  if e.oneSlot then s'.appendConnect i .both e.markA
  else (s'.appendConnect i (.one .a) e.markA).appendConnect i (.one .b) e.markB

/-- ISSUE (R111): one entry issued into a free place of the restore window. -/
def execIssue (s : State) : Result :=
  match s.issueWinner with
  | some i => s.event s.mayIssue (s.issueEntry i)
  | none => s.event false s

/-! ## Barriers (R116 to R120) -/

/-- The causes of an opening (R123): DRAINED 1, TIMER 2. -/
def causeDrained : BitVec 8 := 1#8

/-- See `causeDrained`. -/
def causeTimer : BitVec 8 := 2#8

/-- BARRIER_OPEN for class c (R123). -/
def State.barrierRecord (s : State) (c : Nat) (cause : BitVec 8) : Record :=
  { kind := .barrierOpen, slot := none, aux := cause, cls := some (BitVec.ofNat 2 c), entry := none,
    episode := s.supply.episode, stamp := s.clock, value := barrierOpenValue (BitVec.ofNat 8 c) cause }

/-- The barrier timer started with the barrier time captured now (R119). -/
def State.barrierTimer (s : State) : Timer := startTimer s.clock s.path.captured.barrierTime.toNat

/-- The barrier of the lowest closed class opens (R120): the next class, the record, the timer. -/
def State.openBarrier (s : State) (cause : BitVec 8) : State :=
  let c := s.restore.lowestClosed
  let s' := ({ s with restore := { s.restore with lowestClosed := c + 1 } }).raise (s.barrierRecord c cause)
  { s' with restore := { s'.restore with timer := if c + 1 ≤ 3 then s.barrierTimer else none } }

/-- DRAINED (R118, R120). -/
def execDrained (s : State) : Result := s.event s.drainedNow (s.openBarrier causeDrained)

/-- The barrier timer has expired while a class is closed (R119). -/
def State.barrierDue (s : State) : Bool :=
  s.restore.phase == .recovering && decide (s.restore.lowestClosed < 4) && timerDue s.clock s.restore.timer

/-- BARRIER_TIMER_EXPIRY (R119, R120). -/
def execBarrierTimerExpiry (s : State) : Result := s.event s.barrierDue (s.openBarrier causeTimer)

/-! ## Notices (R116, R117, R121) -/

/-- The next notice on its way to the Restore Engine. -/
def State.restoreNotice (s : State) : Option ShelfNotice := s.notices.restore.head?

/-- The notice taken. -/
def State.takeRestoreNotice (s : State) : State :=
  { s with notices := { s.notices with restore := s.notices.restore.tail } }

/-- The sag notice (R121): the timer stopped, the lowest closed class kept, nothing issued. -/
def State.sagRestore (s : State) : State :=
  { s.takeRestoreNotice with restore := { s.restore with phase := .sagged, timer := none } }

/-- SAG_NOTICE_RESTORE (R121). -/
def execSagNoticeRestore (s : State) : Result := s.event (s.restoreNotice == some .sag) s.sagRestore

/-- The recover notice (R117): the barriers set by the barrier time captured now. -/
def State.recoverRestore (s : State) : State :=
  { s.takeRestoreNotice with
    restore := if s.path.captured.barrierTime = 0#16 then
        { s.restore with phase := .recovering, lowestClosed := 4, timer := none }
      else { s.restore with phase := .recovering, lowestClosed := 1, timer := s.barrierTimer } }

/-- RECOVER_NOTICE_RESTORE (R117). -/
def execRecoverNoticeRestore (s : State) : Result :=
  match s.restoreNotice with
  | some (.recover _) => s.event true s.recoverRestore
  | some .sag => s.event false s
  | some .normal => s.event false s
  | none => s.event false s

/-- The normal notice (R116): all four barriers open, without a record, and the timer stopped. -/
def State.normalRestore (s : State) : State :=
  { s.takeRestoreNotice with restore := { s.restore with phase := .normal, lowestClosed := 4, timer := none } }

/-- NORMAL_NOTICE (R116). -/
def execNormalNotice (s : State) : Result := s.event (s.restoreNotice == some .normal) s.normalRestore

end Sys2Proof.Machine
end

