-- ==== Sys2Proof/Machine/Supply.lean ====
section
/-! DEFINITION. Supply Watch (R1 to R21): the clock, the input filters, the shelf state and the episodes. -/

namespace Sys2Proof.Machine

/-! ## Clock (R1) -/

/-- The millisecond clock advances by one, and its microsecond count starts again (R1, R72). What is left of the
millisecond has passed then. -/
def State.advanceClock (s : State) : State :=
  { s with supply := { s.supply with
      clock := s.supply.clock + 1#32, micro := 0, elapsed := s.supply.elapsed + (1000 - s.supply.micro) } }

/-- CLOCK_ADVANCE (R1): the clock stands while power-on reset is asserted. -/
def execClockAdvance (s : State) : Result := s.event true s.advanceClock

/-- One microsecond of the time base, which advances the clock at its thousandth (R72): what passes while no command
waits (log entry 3). -/
def State.tick (s : State) : State :=
  if s.por then s
  else if s.supply.micro + 1 < 1000 then
    { s with supply := { s.supply with micro := s.supply.micro + 1, elapsed := s.supply.elapsed + 1 } }
  else s.advanceClock

/-! ## Filters (R2, R3) -/

/-- A pending change has lasted the filter time. -/
def Filter.lasted (f : Filter) (clock filterTime : Word) : Bool :=
  match f.change with
  | some t => reached clock (t + filterTime)
  | none => false

/-- The raw input seen at a level (R2): a pending change opens where the input differs from the declared level, and is
dropped where it returns before the filter time has passed (log entry 19). -/
def Filter.sense (f : Filter) (clock filterTime : Word) (l : Level) : Filter :=
  if l = f.declared then
    { f with raw := l, change := if f.lasted clock filterTime then f.change else none }
  else { f with raw := l, change := some (f.change.getD clock) }

/-- A level declared: the pending change closes, and one opens at once where the raw input differs (R2). -/
def Filter.declare (f : Filter) (clock : Word) (l : Level) : Filter :=
  { f with declared := l, change := if f.raw = l then none else some clock }

/-- A level other than the declared one stands to be declared. -/
def Filter.declares (f : Filter) (clock filterTime : Word) (l : Level) : Bool :=
  f.declared != l && f.lasted clock filterTime

/-- The filtered change time of a declaration made now (R2). -/
def State.changeTime (s : State) : Word := s.clock - s.supply.filterTime

/-- The rail input seen at a level; during power-on reset only the pin moves. -/
def State.senseRail (s : State) (l : Level) : State :=
  { s with supply := { s.supply with rail :=
      if s.por then { s.supply.rail with raw := l } else s.supply.rail.sense s.clock s.supply.filterTime l } }

/-- RAIL_SENSE_CHANGE (R2). -/
def execRailSenseChange (l : Level) (s : State) : Result := .next (s.senseRail l)

/-- A card-good input seen at a level. -/
def State.senseCard (s : State) (n : SlotNo) (l : Level) : State :=
  s.setCard n (if s.por then { s.card n with raw := l } else (s.card n).sense s.clock s.supply.filterTime l)

/-- CARD_GOOD_CHANGE (R3). -/
def execCardGoodChange (n : SlotNo) (l : Level) (s : State) : Result := .next (s.senseCard n l)

/-- The declaration of a card-good level taken by its filter. -/
def State.declareCard (s : State) (n : SlotNo) (l : Level) : State := s.setCard n ((s.card n).declare s.clock l)

/-- A card-good level stands to be declared. -/
def State.cardDeclares (s : State) (n : SlotNo) (l : Level) : Bool :=
  (s.card n).declares s.clock s.supply.filterTime l

/-- CARD_GOOD_DECLARED_GOOD (R3, R27). -/
def execCardGoodDeclaredGood (n : SlotNo) (s : State) : Result :=
  s.event (s.cardDeclares n .good) ((s.declareCard n .good).cardArrives n)

/-- CARD_GOOD_DECLARED_LOW (R3, R28). -/
def execCardGoodDeclaredLow (n : SlotNo) (s : State) : Result :=
  s.event (s.cardDeclares n .low) ((s.declareCard n .low).cardLeaves n)

/-! ## Episodes (R6 to R11, R14) -/

/-- The episode flags of a slot, set from its state as an episode opens (R18). -/
def SlotContext.markEpisode (c : SlotContext) : SlotContext :=
  { c with wasLinked := c.state == .linked, cgHeld := c.cardGood == .good }

/-- An episode opened (R6, R14, R18): the next number, the start stamp, running duration 0, the slot flags. -/
def State.openEpisode (s : State) (stamp : Word) : State :=
  { s with
    supply := { s.supply with episode := s.supply.episode + 1#16, startStamp := stamp, runDuration := 0#16 },
    slots := s.slots.map SlotContext.markEpisode }

/-- The sag notice sent to the Slot Sequencer, the Circuit Table and the Restore Engine (R6). -/
def State.sendSag (s : State) : State :=
  { s with notices := { s.notices with slots := s.notices.slots ++ [.sag], circuits := s.notices.circuits + 1,
                                       restore := s.notices.restore ++ [.sag] } }

/-- The recover notice sent to the Slot Sequencer and the Restore Engine (R10). -/
def State.sendRecover (s : State) (cls : Classification) : State :=
  { s with notices := { s.notices with slots := s.notices.slots ++ [.recover cls],
                                       restore := s.notices.restore ++ [.recover cls] } }

/-- The shelf state and the settle timer set. -/
def State.setShelf (s : State) (shelf : ShelfState) (timer : Timer) : State :=
  { s with supply := { s.supply with shelf := shelf, settleTimer := timer } }

/-- The rail declared at a level by its filter. -/
def State.declareRail (s : State) (l : Level) : State :=
  { s with supply := { s.supply with rail := s.supply.rail.declare s.clock l } }

/-- The aux of SAG_BEGIN (R21): 0 new, 1 continued. -/
def auxNew : BitVec 8 := 0#8

/-- See `auxNew`. -/
def auxContinued : BitVec 8 := 1#8

/-- SAG_BEGIN raised (R21). -/
def State.raiseSagBegin (s : State) (aux : BitVec 8) : State :=
  s.raise (s.shelfRecord .sagBegin aux s.changeTime 0#32)

/-- A new episode opened by a sag (R6, R11). -/
def State.beginSag (s : State) : State :=
  ((((s.openEpisode s.changeTime).setShelf .sag none).raiseSagBegin auxNew)).sendSag

/-- The rail declared low (R6, R8, R11). -/
def State.railLow (s : State) : State :=
  let s' := s.declareRail .low
  match s.supply.shelf with
  | .normal => s'.beginSag
  | .recover => s'.beginSag
  | .settle => (s'.setShelf .sag none).raiseSagBegin auxContinued
  | .sag => s'

/-- RAIL_DECLARED_LOW (R6, R8, R11). -/
def execRailDeclaredLow (s : State) : Result :=
  s.event (s.supply.rail.declares s.clock s.supply.filterTime .low) s.railLow

/-- The settle timer started with the settle time captured now (R9). -/
def State.settleStart (s : State) : Timer := startTimer s.clock s.path.captured.settleTime.toNat

/-- The running duration of the moment (R7, R16). -/
def State.duration (s : State) : BitVec 16 := episodeDuration s.changeTime s.supply.startStamp

/-- A SAG that ends (R7). -/
def State.endSag (s : State) : State :=
  let s' := { s with supply := { s.supply with
      runDuration := s.duration, shelf := .settle, settleTimer := s.settleStart } }
  s'.raise (s.shelfRecord .sagEnd 0#8 s.changeTime (s.duration.setWidth 32))

/-- The rail declared good (R7). -/
def State.railGood (s : State) : State :=
  let s' := s.declareRail .good
  match s.supply.shelf with
  | .sag => s'.endSag
  | .normal => s'
  | .settle => s'
  | .recover => s'

/-- RAIL_DECLARED_GOOD (R7). -/
def execRailDeclaredGood (s : State) : Result :=
  s.event (s.supply.rail.declares s.clock s.supply.filterTime .good) s.railGood

/-- RECOVER entered with a duration and a classification (R10, R14): latched, recorded, and the recover notice sent. -/
def State.enterRecover (s : State) (duration : BitVec 16) (cls : Classification) : State :=
  let s' := { s with supply := { s.supply with
      shelf := .recover, settleTimer := none, lastDuration := duration, lastClass := cls } }
  (s'.raise (s.shelfRecord .recoverBegin (cls.code.setWidth 8) s.clock (duration.setWidth 32))).sendRecover cls

/-- The settle timer has expired in SETTLE. -/
def State.settleDue (s : State) : Bool := s.supply.shelf == .settle && timerDue s.clock s.supply.settleTimer

/-- The expiry of the settle timer (R10, R17): the short-sag limit is the one captured now. -/
def State.settleExpires (s : State) : State :=
  s.enterRecover s.supply.runDuration (classifyEpisode s.supply.runDuration s.path.captured.shortSagLimit)

/-- SETTLE_TIMER_EXPIRY (R10). -/
def execSettleTimerExpiry (s : State) : Result := s.event s.settleDue s.settleExpires

/-- The value of RECOVER_DONE (R21, R171): the LIVE count in the high half, the WAITING count in the low half. -/
def State.recoverDoneValue (s : State) : Word :=
  BitVec.ofNat 16 s.circuits.live ++ BitVec.ofNat 16 s.circuits.waiting

/-- The normal notice sent to the Restore Engine (R13). -/
def State.sendNormal (s : State) : State :=
  { s with notices := { s.notices with restore := s.notices.restore ++ [.normal] } }

/-- Recovery ended (R13): RECOVER_DONE is raised before the normal notice is sent. -/
def State.endRecovery (s : State) : State :=
  ((s.setShelf .normal none).raise (s.shelfRecord .recoverDone 0#8 s.clock s.recoverDoneValue)).sendNormal

/-- RECOVERY_ENDS (R12, R13). -/
def execRecoveryEnds (s : State) : Result := s.event s.recovered s.endRecovery

/-- RELINK_ALL as Supply Watch takes it (R14): in NORMAL a forced episode opens and the shelf goes to RECOVER. The sag
notice is on its way like any other, so the shelf reads RECOVER before the slots are HELD and the entries parked; what
may be judged in between is the model's choice (log entry 39). -/
def State.takeRelinkAll (s : State) : State :=
  if s.supply.shelf = .normal then ((s.openEpisode s.clock).sendSag).enterRecover 0#16 .forced else s

/-- RELINK_ALL (R14). -/
def execRelinkAll (s : State) : Result := s.cycle s.takeRelinkAll

end Sys2Proof.Machine
end

