-- ==== Sys2Proof/Machine/PassThrough.lean ====
section
/-! DEFINITION. The Pass-Through Path (R127 to R142): plain accesses, the store port, settable words, window accesses,
and what a Link Unit and the Pass-Through Path do together when a window request ends (R83, R84, R135). -/

namespace Sys2Proof.Machine

/-! ## Plain accesses and the store port (R129, R139) -/

/-- A plain access waits for the store port, its cycle open (R129). -/
def State.openPlain (s : State) (c : PlainCycle) : State := { s with path := { s.path with ctrl := .plainWaiting c } }

/-- PLAIN_ACCESS (R128, R129): an access that is not plain is no plain access (log entry 21). -/
def execPlainAccess (addr : WordAddr) (access : Access) (enables : ByteEnables) (s : State) : Result :=
  s.event (s.takesCycle && isPlain s.path.area addr) (s.openPlain ⟨addr, access, enables⟩)

/-- A waiting controller access taken by the store port (R139). -/
def State.serveController (s : State) (c : PlainCycle) : State :=
  { s with path := { s.path with ctrl := .plainServed, store := .controller c true } }

/-- A waiting journal word taken by the store port (R139, R162). -/
def State.serveJournal (s : State) (addr : WordAddr) (data : Word) : State :=
  { s with path := { s.path with store := .journal addr data true } }

/-- A free store port chooses (R139): a waiting controller access before a waiting journal word. -/
def State.arbitrate (s : State) : State :=
  match s.path.ctrl, s.journalWrite with
  | .plainWaiting c, _ => s.serveController c
  | _, some (addr, data) => s.serveJournal addr data
  | _, none => s

/-- STORE_PORT_ARBITRATION (R139): a service once begun runs to its end. -/
def execStorePortArbitration (s : State) : Result := s.event (s.path.store == .idle) s.arbitrate

/-- The store after an access (R129). -/
def PlainCycle.store (c : PlainCycle) (m : List Host.Cell) : List Host.Cell :=
  match c.access with
  | .read => m
  | .write data => Memory.writeWord m (byteAddress c.addr) data c.enables

/-- What a completed access returns (R129). -/
def PlainCycle.answer (c : PlainCycle) (m : List Host.Cell) (storeWord : Word) : CycleAnswer :=
  match c.access with
  | .read => .data (Memory.readWord m (byteAddress c.addr) storeWord)
  | .write _ => .written

/-- The store completes the controller access it serves (R129); an abandoned one returns nothing (R141). -/
def State.completePlain (s : State) (c : PlainCycle) (claimed : Bool) (storeWord : Word) : State :=
  let s' := { s with memory := c.store s.memory, path := { s.path with store := .idle } }
  if claimed then s'.answered (c.answer s.memory storeWord) else s'

/-- PLAIN_ACCESS_DONE (R129): the operand is the word the store returns for bytes nothing has written. -/
def execPlainAccessDone (storeWord : Word) (s : State) : Result :=
  match s.path.store with
  | .controller c claimed => s.event true (s.completePlain c claimed storeWord)
  | .idle => s.event false s
  | .journal _ _ _ => s.event false s

/-! ## Settable words (R131, R132, R133) -/

/-- The shelf request in an enabled request byte of CW0 (R132). -/
def State.shelfRequest (s : State) (code : Byte) : State :=
  if code = 1#8 then s.takeRelinkAll else if code = 2#8 then s.takeReleaseAll else s

/-- A write of CW0: the attention enable is captured first, and the request handed on after it (R132). -/
def State.writeCw0 (s : State) (data : Word) (enables : ByteEnables) : State :=
  let s' := s.enableAttention ((mergeBytes s.path.captured.cw0 data enables).getLsbD 8)
  if byteEnabled enables 0 then s'.shelfRequest (lowByte data) else s'

/-- A write of CW1 merged and captured (R131, R146). -/
def State.writeCw1 (s : State) (data : Word) (enables : ByteEnables) : State :=
  s.capture (s.path.captured.takeCw1 (mergeBytes s.path.captured.cw1 data enables))

/-- A write of CW2 merged, clamped and captured (R131, R147). -/
def State.writeCw2 (s : State) (data : Word) (enables : ByteEnables) : State :=
  s.capture (s.path.captured.takeCw2 (mergeBytes s.path.captured.cw2 data enables))

/-- A write of CW3 merged, clamped and captured (R131, R148). -/
def State.writeCw3 (s : State) (data : Word) (enables : ByteEnables) : State :=
  s.capture (s.path.captured.takeCw3 (mergeBytes s.path.captured.cw3 data enables))

/-- A write of a slot's SL0 merged and captured (R131, R156). -/
def State.writeSl0 (s : State) (n : SlotNo) (data : Word) (enables : ByteEnables) : State :=
  s.capture (s.path.captured.setSlot n (SlotSettings.ofWord (mergeBytes (s.sl0 n).word data enables)))

/-- A write of one of CW0 to CW4. -/
def State.writeControl (s : State) (k : Fin 5) (data : Word) (enables : ByteEnables) : State :=
  match k with
  | 0 => s.writeCw0 data enables
  | 1 => s.writeCw1 data enables
  | 2 => s.writeCw2 data enables
  | 3 => s.writeCw3 data enables
  | 4 => if byteEnabled enables 0 then s.takeTail (lowByte data) else s

/-- A write of a circuit request word, by its request field (R91, R133, R170). -/
def State.writeCircuit (s : State) (i : EntryNo) (data : Word) (enables : ByteEnables) : State :=
  if data.extractLsb' 0 2 = 1#2 then (s.reachEntry i).writeRequest i .connect (fieldsOfWord data) enables
  else if data.extractLsb' 0 2 = 2#2 then (s.reachEntry i).writeRequest i .release (fieldsOfWord data) enables
  else if data.extractLsb' 0 2 = 0#2 then (s.reachEntry i).writeRequest i .none (fieldsOfWord data) enables
  else (s.reachEntry i).writeBad i enables

/-- A write of a shadow word (R131, R132, R133): a write of a status word is discarded. -/
def State.writeShadow (s : State) (w : ShadowWord) (data : Word) (enables : ByteEnables) : State :=
  match w with
  | .cw k => s.writeControl k data enables
  | .sl0 n => s.writeSl0 n data enables
  | .sl1 n => if byteEnabled enables 0 then s.slotRequest n (lowByte data) else s
  | .request i => s.writeCircuit i data enables
  | .sw _ => s
  | .ss _ _ => s
  | .entryState _ => s

/-- SETTABLE_WORD_WRITE (R131): a write that has a row of its own is taken as that row takes it (log entry 27). -/
def execSettableWordWrite (w : ShadowWord) (data : Word) (enables : ByteEnables) (s : State) : Result :=
  s.cycle (s.writeShadow w data enables)

/-- RESTORE_FLOOR_WRITE (R115, R131, R146): a write of CW1. Every judgement reads the captured floor afresh, and where
the floor changes, those with an act left to them act before the next controller access (`State.judgeFloor`). -/
def execRestoreFloorWrite (data : Word) (enables : ByteEnables) (s : State) : Result :=
  s.cycle (s.writeCw1 data enables)

/-! ## Window accesses (R134, R136, R137) -/

/-- A window request taken by a Link Unit (R83, R134): it waits, the marker is set, the cycle stays open. -/
def State.takeWindow (s : State) (n : SlotNo) (op : RegisterOp) (index : BitVec 10) : State :=
  let s' := s.setLink n { s.link n with
    window := some { op := op, index := index, inFlight := false, claimed := true } }
  { s' with path := { s'.path with ctrl := .windowHeld n op, marker := true } }

/-- A window access offered to the Link Unit of its slot (R134, R136): a slot that is not LINKED ends it at once. -/
def State.offerWindow (s : State) (n : SlotNo) (op : RegisterOp) (index : BitVec 10) : State :=
  if s.linked n then s.takeWindow n op index else s.answered (failedAnswer op)

/-- A window access that finds the marker set waits with its cycle open (R137). -/
def State.deferWindow (s : State) (n : SlotNo) (op : RegisterOp) (index : BitVec 10) : State :=
  { s with path := { s.path with ctrl := .windowDeferred n op index } }

/-- A window access (R134, R137). -/
def State.accessWindow (s : State) (n : SlotNo) (op : RegisterOp) (index : BitVec 10) : State :=
  if s.path.marker then s.deferWindow n op index else s.offerWindow n op index

/-- WINDOW_READ (R134): the byte enables of a read are ignored. -/
def execWindowRead (n : SlotNo) (index : BitVec 10) (s : State) : Result :=
  s.event s.takesCycle (s.accessWindow n .read index)

/-- WINDOW_WRITE (R134). -/
def execWindowWrite (n : SlotNo) (index : BitVec 10) (data : Word) (mask : ByteEnables) (s : State) : Result :=
  s.event s.takesCycle (s.accessWindow n (.write data mask) index)

/-- DEFERRED_WINDOW_OFFER (R137): offered when the marker has cleared. -/
def execDeferredWindowOffer (s : State) : Result :=
  match s.path.ctrl with
  | .windowDeferred n op index => s.event (!s.path.marker) (s.offerWindow n op index)
  | .idle => s.event false s
  | .plainWaiting _ => s.event false s
  | .plainServed => s.event false s
  | .windowHeld _ _ => s.event false s

/-! ## The end of a window request (R83, R84, R135, R138) -/

/-- The Link Unit holds no window request and its exchange has ended; the marker is cleared (R83, R137). -/
def State.dropWindow (s : State) (n : SlotNo) : State :=
  let s' := s.setLink n { s.link n with exchange := none, window := none }
  { s' with path := { s'.path with marker := false } }

/-- The result handed on to a claimed request completes the held cycle; the result of an unclaimed one is discarded
(R84, R135). -/
def State.endWindow (s : State) (n : SlotNo) (w : WindowRequest) (a : CycleAnswer) : State :=
  if w.claimed then (s.dropWindow n).answered a else s.dropWindow n

/-- WINDOW_FAULT, for a claimed request (R138). -/
def State.raiseWindowFault (s : State) (n : SlotNo) (w : WindowRequest) (reason : BitVec 8) : State :=
  if w.claimed then s.raise (s.slotRecord .windowFault n reason (windowFaultValue w.index reason)) else s

/-- A window request ended in a refusal or a timeout (R135). -/
def State.failWindow (s : State) (n : SlotNo) (w : WindowRequest) (reason : BitVec 8) : State :=
  (s.raiseWindowFault n w reason).endWindow n w (failedAnswer w.op)

/-- The window request whose register exchange takes a reply (R69, R83). -/
def State.windowReply (s : State) (n : SlotNo) (tag : BitVec 8) (c : FrameContent) : Option WindowRequest :=
  match (s.link n).exchange with
  | some x =>
    match x.work with
    | .register _ _ => if (s.link n).takesReply tag c then (s.link n).window else none
    | _ => none
  | none => none

/-- REGISTER_DATA_REPLY (R135). -/
def execRegisterDataReply (n : SlotNo) (tag : BitVec 8) (data : Word) (s : State) : Result :=
  match s.windowReply n tag (.registerData data) with
  | some w => s.event true (s.endWindow n w (.data data))
  | none => s.event false s

/-- REGISTER_WRITE_DONE (R135). -/
def execRegisterWriteDone (n : SlotNo) (tag : BitVec 8) (s : State) : Result :=
  match s.windowReply n tag .done with
  | some w => s.event true (s.endWindow n w .written)
  | none => s.event false s

/-- REGISTER_REFUSAL (R135, R138). -/
def execRegisterRefusal (n : SlotNo) (tag : BitVec 8) (reason : RefusalReason) (s : State) : Result :=
  match s.windowReply n tag (.refusal reason) with
  | some w => s.event true (s.failWindow n w reason.code)
  | none => s.event false s

/-- The window request whose register exchange has timed out (R73, R83). -/
def State.windowTimeout (s : State) (n : SlotNo) : Option WindowRequest :=
  match (s.link n).exchange with
  | some x =>
    match x.work with
    | .register _ _ => if s.exchangeExpired n then (s.link n).window else none
    | _ => none
  | none => none

/-- REGISTER_TIMEOUT (R135, R138). -/
def execRegisterTimeout (n : SlotNo) (s : State) : Result :=
  match s.windowTimeout n with
  | some w => s.event true (s.failWindow n w timeoutReason)
  | none => s.event false s

/-! ## The departure notice at a Link Unit (R81, R84) -/

/-- The exchanges of a LINKED slot: orders and register exchanges (R75). -/
def Work.ofLinked : Work → Bool
  | .order _ => true
  | .register _ _ => true
  | .probe _ => false
  | .identityQuery => false
  | .clearOrder => false

/-- The work of the LINKED state ended at the Link Unit: exchange abandoned, no window request, an empty list (R81). -/
def LinkUnit.depart (l : LinkUnit) : LinkUnit :=
  { l with exchange := l.exchange.filter (fun x => !x.work.ofLinked), window := none, orders := [],
           lossDeclared := false }

/-- The window request of a departing slot ended (R84): the marker is cleared, and a held cycle completes as a refusal
without a record. -/
def State.departWindow (s : State) : Option WindowRequest → State
  | none => s
  | some w =>
    let s' := { s with path := { s.path with marker := false } }
    if w.claimed then s'.answered (failedAnswer w.op) else s'

/-- The departure notice of a slot taken by its Link Unit (R81): the removed orders are handed back, oldest first. -/
def State.departLink (s : State) (n : SlotNo) : State :=
  let s' := { s with notices := { s.notices with departLink := s.notices.departLink.erase n } }
  (s.link n).orders.foldl (State.handBack n) ((s'.setLink n (s.link n).depart).departWindow (s.link n).window)

/-- DEPARTURE_NOTICE_LINK (R81). -/
def execDepartureNoticeLink (n : SlotNo) (s : State) : Result :=
  s.event (s.notices.departLink.contains n) (s.departLink n)

end Sys2Proof.Machine
end

