-- ==== Sys2Proof/Machine/Training.lean ====
section
/-! DEFINITION. Link training (R51 to R66): the grant, the sweep, the search for an edge, the lock and its arithmetic.
-/

namespace Sys2Proof.Machine

/-! ## Readings and the search (R56, R57, R58) -/

/-- The reading of a tap from its ones-count (R56). -/
def readingOf (n : Nat) : Reading := if 6 ≤ n then .high else if 3 ≤ n then .unsure else .low

/-- How many positions a sweep examines (R54): 64 taps, or the nine of the VERIFY window. -/
def Mode.positions : Mode → Nat
  | .full => 64
  | .verify => 9

/-- The reading at a position; a position not examined yet reads as UNSURE, and no search looks at one. -/
def readingAt (r : List Reading) (p : Nat) : Reading := r.getD p .unsure

/-- Going backward through positions, the first that is not UNSURE, if it is LOW (R57, R58). -/
def lowBehind (r : List Reading) : List Nat → Option Nat
  | [] => none
  | p :: rest =>
    match readingAt r p with
    | .unsure => lowBehind r rest
    | .low => some p
    | .high => none

/-- The positions behind tap h in a FULL sweep, cyclically, every tap except h itself (R57). -/
def behindFull (h : Nat) : List Nat := (List.range 63).map fun k => (h + 63 - k) % 64

/-- The positions behind position k of a VERIFY window, down to 0, without wrapping (R58). -/
def behindVerify (k : Nat) : List Nat := (List.range k).reverse

/-- A position that qualifies: HIGH, with a LOW behind it; with the position of that LOW. -/
def qualifies (r : List Reading) (behind : Nat → List Nat) (h : Nat) : Option (Nat × Nat) :=
  match readingAt r h with
  | .high => (lowBehind r (behind h)).map fun p => (h, p)
  | .low => none
  | .unsure => none

/-- The first position that qualifies, as (HIGH, LOW) (R57, R58). -/
def findEdge (r : List Reading) : Mode → Option (Nat × Nat)
  | .full => (List.range 64).findSome? (qualifies r behindFull)
  | .verify => (List.range 9).findSome? (qualifies r behindVerify)

/-- The tap at a position of a sweep (R54): position p of a FULL sweep is tap p, position k of a VERIFY window around g
is tap (g - 4 + k) mod 64. -/
def tapAt (centre : Option Tap) (p : Nat) : Tap :=
  match centre with
  | none => BitVec.ofNat 6 p
  | some g => g - 4#6 + BitVec.ofNat 6 p

/-! ## Edge arithmetic (R59, R60, R61) -/

/-- The distance from the LOW tap forward to the HIGH tap (R59). -/
def edgeDistance (low high : Tap) : Nat := (high - low).toNat

/-- The spread: the UNSURE taps between them (R59). -/
def edgeSpread (low high : Tap) : Nat := edgeDistance low high - 1

/-- The edge: the middle of the step, the tap nearer to HIGH where it falls between two (R60). -/
def edgeTap (low high : Tap) : Tap := low + BitVec.ofNat 6 ((edgeDistance low high + 1) / 2)

/-- The lock tap: the margin past the edge, cyclically (R60). -/
def lockTap (edge : Tap) (margin : BitVec 5) : Tap := edge + margin.setWidth 6

/-- The signed cyclic distance from the last-good edge to the new one (R61). -/
def cyclicDrift (edge lastGood : Tap) : Int := ((edge.toNat : Int) - (lastGood.toNat : Int) + 32) % 64 - 32

/-- The drift of a sweep at a rate against the last-good record (R61). -/
def driftOf (g : LastGood) (rate : Rate) (edge : Tap) : Int :=
  if g.valid && g.rate == rate then cyclicDrift edge g.edge else 0

/-- A drift that calls for a DRIFT record (R62): the limit is not 0 and the magnitude exceeds it. -/
def driftExceeds (drift : Int) (limit : BitVec 5) : Bool := limit != 0#5 && decide (limit.toNat < drift.natAbs)

/-! ## A sweep (R54, R55, R63 to R65) -/

/-- The probe of the sweep's present position sent (R54, R55). -/
def State.sendProbe (s : State) (n : SlotNo) (w : Sweep) : State := s.send n (.probe (tapAt w.centre w.position)) false

/-- The lane holds a sweep and sends its next probe. -/
def State.continueSweep (s : State) (l : LaneNo) (n : SlotNo) (w : Sweep) : State :=
  (s.setLane l (some w)).sendProbe n w

/-- A sweep begun in a mode (R54): rate and margin captured, readings cleared, the first probe sent at the captured
rate. -/
def State.beginSweep (s : State) (l : LaneNo) (n : SlotNo) (mode : Mode) : State :=
  (s.setRate n (s.sl0 n).rate).continueSweep l n
    { slot := n, mode := mode, rate := (s.sl0 n).rate, margin := (s.sl0 n).margin,
      centre := (match mode with | .full => none | .verify => some (s.slot n).lastGood.edge),
      position := 0, probe := 1, ones := 0, readings := [] }

/-- A VERIFY failure (R33, R65): the reason, mode FULL at attempt 1, and a FULL sweep on the same lane at once. -/
def State.failVerify (s : State) (l : LaneNo) (n : SlotNo) (reason : FailReason) : State :=
  (s.setSlot n { s.slot n with lastFailure := reason, mode := .full, attempt := 1 }).beginSweep l n .full

/-- The sweep that a grant starts (R54): a VERIFY sweep whose last-good rate does not match fails at once. -/
def State.startSweep (s : State) (l : LaneNo) (n : SlotNo) : State :=
  match (s.slot n).mode with
  | .full => s.beginSweep l n .full
  | .verify => if s.timingKnown n then s.beginSweep l n .verify else s.failVerify l n .noEdge

/-- A failed sweep (R64, R65). -/
def State.failSweep (s : State) (l : LaneNo) (n : SlotNo) (mode : Mode) (reason : FailReason) : State :=
  match mode with
  | .verify => s.failVerify l n reason
  | .full => (s.releaseLane n).failAttempt n reason

/-- What a lock delivers (R60, R61, R63). -/
def State.lockOf (s : State) (n : SlotNo) (w : Sweep) (low high : Tap) : LockResults :=
  { edge := edgeTap low high, lockTap := lockTap (edgeTap low high) w.margin, spread := edgeSpread low high,
    drift := driftOf (s.slot n).lastGood w.rate (edgeTap low high), rate := w.rate }

/-- The DRIFT record of a lock, where R62 calls for one. -/
def State.raiseDrift (s : State) (n : SlotNo) (mode : Mode) (k : LockResults) : State :=
  if driftExceeds k.drift s.path.captured.driftLimit then
    s.raise (s.slotRecord .drift n (mode.code.setWidth 8) (driftValue k.drift k.edge))
  else s

/-- IDENTIFY entered (R32, R35): the lock results written, the expected type captured, the identity query sent at the
lock's settings. -/
def State.enterIdentify (s : State) (n : SlotNo) (k : LockResults) : State :=
  ((s.setSlot n { s.slot n with state := .identify, lock := k, expected := (s.sl0 n).expectedType }).tuneLink n
    k.rate k.lockTap).send n .identityQuery false

/-- A lock (R63): the DRIFT record first, then the lane released, then IDENTIFY. -/
def State.lockSweep (s : State) (n : SlotNo) (w : Sweep) (low high : Tap) : State :=
  let k := s.lockOf n w low high
  ((s.raiseDrift n w.mode k).releaseLane n).enterIdentify n k

/-- The outcome of a sweep whose examination is complete (R57 to R65). -/
def State.concludeSweep (s : State) (l : LaneNo) (n : SlotNo) (w : Sweep) : State :=
  match findEdge w.readings w.mode with
  | none => s.failSweep l n w.mode .noEdge
  | some (h, p) =>
    if s.path.captured.spreadLimit.toNat < edgeSpread (tapAt w.centre p) (tapAt w.centre h) then
      s.failSweep l n w.mode .spread
    else s.lockSweep n w (tapAt w.centre p) (tapAt w.centre h)

/-- The sweep after a sample (R55). -/
def Sweep.count (w : Sweep) (bit : Bool) : Sweep := { w with ones := w.ones + if bit then 1 else 0 }

/-- The sweep after the eighth probe at a position (R55, R56). -/
def Sweep.record (w : Sweep) : Sweep :=
  { w with readings := w.readings ++ [readingOf w.ones], position := w.position + 1, probe := 1, ones := 0 }

/-- The sweep goes on after a probe has ended with a sample (R55). -/
def State.sampled (s : State) (l : LaneNo) (n : SlotNo) (w : Sweep) : State :=
  if w.probe < 8 then s.continueSweep l n { w with probe := w.probe + 1 }
  else if w.position + 1 < w.mode.positions then s.continueSweep l n w.record
  else s.concludeSweep l n w.record

/-- The sweep a slot's lane holds. -/
def State.sweepOf (s : State) (n : SlotNo) : Option (LaneNo × Sweep) :=
  match (s.slot n).lane with
  | some l => (s.lane l).map fun w => (l, w)
  | none => none

/-- The probe in flight ends with a sample (R55). -/
def State.endProbe (s : State) (n : SlotNo) (bit : Bool) : State :=
  match s.sweepOf n with
  | some (l, w) => (s.freeLink n).sampled l n (w.count bit)
  | none => s.freeLink n

/-! ## Commands -/

/-- The grant that stands to be made (R52): the winner and the lane. -/
def State.grantDue (s : State) : Option (SlotNo × LaneNo) :=
  match s.grantWinner, s.idleLane with
  | some n, some l => some (n, l)
  | _, _ => none

/-- The departure notice of a slot taken by its Link Unit, where it is still on its way. -/
def State.finishLink (s : State) (n : SlotNo) : State :=
  if s.notices.departLink.contains n then s.departLink n else s

/-- The late sag notices taken by the Circuit Table, one by one (R105, log entry 6). -/
def State.finishSags (s : State) : State := Nat.repeat State.takeSagCircuits s.lateSags s

/-- The departure notice of a slot taken by the Circuit Table, where it is still on its way. -/
def State.finishCircuits (s : State) (n : SlotNo) : State :=
  if s.notices.departCircuits.contains n then s.parkSlot n else s

/-- The work of LINKED ended before a slot takes new work (R24, R81, R103, R105, log entry 6): the slot's departure
notices that are still on their way are taken, and so is every late sag notice. A slot that a sag has moved out of LINKED
is LINKED again only after a grant, so no entry is issued between the sag and the table's taking of its notice (the last
sentence of R105). -/
def State.finishDeparture (s : State) (n : SlotNo) : State := ((s.finishLink n).finishSags).finishCircuits n

/-- A slot given a lane (R31, R52): it enters TRAINING with the lane, and the sweep starts. -/
def State.bindLane (s : State) (n : SlotNo) (l : LaneNo) : State :=
  (s.setSlot n { s.slot n with state := .training, lane := some l }).startSweep l n

/-- A lane granted (R31, R52): the work of the winner's old state is ended first (R24). -/
def State.grant (s : State) (n : SlotNo) (l : LaneNo) : State := (s.finishDeparture n).bindLane n l

/-- LANE_GRANT (R52): one grant. -/
def execLaneGrant (s : State) : Result :=
  match s.grantDue with
  | some (n, l) => s.event true (s.grant n l)
  | none => s.event false s

/-- The probe in flight takes a sample reply with this tag (R55, R69). -/
def State.sampleTaken (s : State) (n : SlotNo) (tag : BitVec 8) (bit : Bool) : Bool :=
  (s.link n).takesReply tag (.sample bit)

/-- SAMPLE_REPLY (R55). -/
def execSampleReply (n : SlotNo) (tag : BitVec 8) (bit : Bool) (s : State) : Result :=
  s.event (s.sampleTaken n tag bit) (s.endProbe n bit)

/-- A probe in flight whose timer has expired. -/
def State.probeDue (s : State) (n : SlotNo) : Bool :=
  match (s.link n).exchange with
  | some x => completes x.work (.sample false) && s.exchangeExpired n
  | none => false

/-- PROBE_TIMEOUT (R55): the sample is 0. -/
def execProbeTimeout (n : SlotNo) (s : State) : Result := s.event (s.probeDue n) (s.endProbe n false)

end Sys2Proof.Machine
end

