-- ==== Sys2Proof/Machine/Resets.lean ====
section
/-! DEFINITION. The two resets (R141, R142, R167, R172) and the frame that R69 discards. -/

namespace Sys2Proof.Machine

/-! ## Controller reset (R84, R141, R167) -/

/-- A window request held at a controller reset becomes unclaimed (R84). -/
def LinkUnit.unclaim (l : LinkUnit) : LinkUnit :=
  { l with window := l.window.map fun w => { w with claimed := false } }

/-- What the store port goes on with through a controller reset (R141, R167): an access being served completes without
returning its result, a journal word being served completes without advancing the journal. -/
def StorePort.disown : StorePort → StorePort
  | .idle => .idle
  | .controller c _ => .controller c false
  | .journal addr data _ => .journal addr data false

/-- The controller reset input asserted (R141): the open cycle abandoned, window requests unclaimed, the journal
restarted. Everything else is kept. -/
def State.resetController (s : State) : State :=
  { s with
    ctrlReset := true,
    links := s.links.map LinkUnit.unclaim,
    journal := s.journal.restart,
    path := { s.path with ctrl := .idle, store := s.path.store.disown } }

/-- CONTROLLER_RESET (R141): while power-on reset is asserted only the pin moves (log entry 18). The command is an
assertion of the input, also where it is asserted already: it then has its whole effect once more (log entry 32). -/
def execControllerReset (s : State) : Result := .next (if s.por then { s with ctrlReset := true } else s.resetController)

/-- CONTROLLER_RESET_RELEASE (R141): the controller port takes cycles again. -/
def execControllerResetRelease (s : State) : Result := .next { s with ctrlReset := false }

/-! ## Power-on reset (R142, R172) -/

/-- An input filter at the release of power-on reset (R2, R172): declared low, and timing a raw input that is good. -/
def Filter.release (f : Filter) : Filter :=
  { raw := f.raw, declared := .low, change := if f.raw = .good then some 0#32 else none }

/-- The part at the release of power-on reset: every block at its power-on state, the straps sampled, the filters timing
their inputs. The pins, the store and the queue are outside the part and stay (log entry 23). -/
def State.powerOn (s : State) (area : BitVec 6) (filtHigh : Bool) : State :=
  { State.reset with
    supply := { Supply.initial with
      filtHigh := filtHigh, rail := s.supply.rail.release, cards := s.supply.cards.map Filter.release },
    path := { PassThrough.initial with area := area },
    memory := s.memory, ctrlReset := s.ctrlReset, pending := s.pending }

/-- POWER_ON_RESET (R142): the command is the release. Taken while power-on reset is not asserted it stands for an
assertion and its release together, and has the same effect (log entry 36). -/
def execPowerOnReset (area : BitVec 6) (filtHigh : Bool) (s : State) : Result := .next (s.powerOn area filtHigh)

/-- The pins of a slot while power-on reset is asserted (R172). -/
def SlotContext.releaseOutput (c : SlotContext) : SlotContext := { c with resetOut := false }

/-- A link while power-on reset is asserted (R172): it sends no frames. -/
def LinkUnit.silence (l : LinkUnit) : LinkUnit := { l with exchange := none, line := [] }

/-- Power-on reset asserted (R172): outputs released, links silent, both ports stopped (log entry 30). A write that the
store port is serving is dropped, and the store keeps what it held (log entry 35). -/
def State.assertPowerOn (s : State) : State :=
  { s with
    por := true,
    slots := s.slots.map SlotContext.releaseOutput,
    links := s.links.map LinkUnit.silence,
    journal := { s.journal with attention := false },
    path := { s.path with ctrl := .idle, store := .idle } }

/-- POWER_ON_RESET_ASSERTED (R172). -/
def execPowerOnResetAsserted (s : State) : Result := .next s.assertPowerOn

/-! ## A received frame judged by R69 -/

/-- The work of the exchange in flight. -/
def LinkUnit.work (l : LinkUnit) : Option Work := l.exchange.map fun x => x.work

/-- What a frame that R69 takes does: the effect of the row that its content and the exchange in flight name. -/
def State.takeFrame (s : State) (n : SlotNo) (f : RxFrame) : Result :=
  match f.content with
  | .idle => execIdleFrame n s
  | .sample bit => execSampleReply n f.tag bit s
  | .identity type revision => execIdentityReply n f.tag type revision s
  | .registerData data => execRegisterDataReply n f.tag data s
  | .otherKind => .next s
  | .cutShort => .next s
  | .done =>
    (match (s.link n).work with
     | some .clearOrder => execClearOrderDone n f.tag s
     | some (.order o) =>
       (match o.kind with
        | .connect => execConnectDone n f.tag s
        | .release => execReleaseResult n f.tag .done s)
     | some (.register _ _) => execRegisterWriteDone n f.tag s
     | _ => .next s)
  | .refusal reason =>
    (match (s.link n).work with
     | some (.order o) =>
       (match o.kind with
        | .connect => execConnectRefusal n f.tag reason s
        | .release => execReleaseResult n f.tag (.refusal reason) s)
     | some (.register _ _) => execRegisterRefusal n f.tag reason s
     | _ => .next s)

/-- DISCARDED_FRAME (R69): a received frame that fails a test of R69 has no effect. A frame that passes them all is no
discarded frame, and is taken as its own row takes it. -/
def execDiscardedFrame (n : SlotNo) (f : RxFrame) (s : State) : Result :=
  if (s.link n).takesFrame f then s.takeFrame n f else .next s

end Sys2Proof.Machine
end

