-- ==== Sys2Proof/Machine/Shadow.lean ====
section
/-! DEFINITION. Reads of shadow words (R130, R150 to R160), which change no state and have no row, and the commands that
a controller access becomes (R128 to R134). -/

namespace Sys2Proof.Machine

/-- A read of one of CW0 to CW4 (R130): the request byte of CW0 reads as 0, the tail of CW4 as the Journal Writer holds
it. -/
def State.readControl (s : State) (k : Fin 5) : Word :=
  match k with
  | 0 => s.path.captured.cw0
  | 1 => s.path.captured.cw1
  | 2 => s.path.captured.cw2
  | 3 => s.path.captured.cw3
  | 4 => s.journal.tail.setWidth 32

/-- A read of one of SW0 to SW6 (R150 to R155). -/
def State.readStatus (s : State) (k : Fin 7) : Word :=
  match k with
  | 0 => Config.identityWord
  | 1 => sw1Word s.supply.shelf s.restore.lowestClosed s.supply.episode
  | 2 => sw2Word s.supply.lastDuration s.supply.lastClass
  | 3 => sw3Word s.journal
  | 4 => sw4Word s.circuits.waiting s.circuits.live
  | 5 => sw5Word s.restore.restoring s.circuits.faulted
  | 6 => s.clock

/-- A read of one of a slot's SS0 to SS3 (R158 to R160). -/
def State.readSlotStatus (s : State) (n : SlotNo) (k : Fin 4) : Word :=
  match k with
  | 0 => (s.slot n).ss0
  | 1 => (s.slot n).ss1
  | 2 => (s.slot n).ss2
  | 3 => (s.link n).ss3 (s.linked n)

/-- A read of a shadow word (R130). -/
def State.readShadow (s : State) (w : ShadowWord) : Word :=
  match w with
  | .cw k => s.readControl k
  | .sw k => s.readStatus k
  | .sl0 n => (s.sl0 n).word
  | .sl1 _ => 0#32
  | .ss n k => s.readSlotStatus n k
  | .request i => (s.entry i).requestWord
  | .entryState i => (s.entry i).stateWord

/-- The commands that a write of CW0 is, in the order R132 gives: the attention enable first, then the request. -/
def cw0Commands (data : Word) (enables : ByteEnables) : List Instr :=
  (if byteEnabled enables 1 then [Instr.attentionEnableWrite (data.getLsbD 8)] else []) ++
    (if byteEnabled enables 0 then
      (if lowByte data = 1#8 then [Instr.relinkAll] else if lowByte data = 2#8 then [Instr.releaseAll] else [])
     else [])

/-- The command that a write of SL1 is (R45). -/
def sl1Command (n : SlotNo) (data : Word) (enables : ByteEnables) : Instr :=
  if byteEnabled enables 0 && lowByte data == 1#8 then .relink n
  else if byteEnabled enables 0 && lowByte data == 2#8 then .relinkReset n
  else if byteEnabled enables 0 && lowByte data == 3#8 then .quiesce n
  else if byteEnabled enables 0 && lowByte data == 4#8 then .resume n
  else .settableWordWrite (.sl1 n) data enables

/-- The commands that a write of a shadow word is, each a row of the table (R131 to R133). -/
def writeCommands (w : ShadowWord) (data : Word) (enables : ByteEnables) : List Instr :=
  match w with
  | .cw 0 =>
    (match cw0Commands data enables with
     | [] => [.settableWordWrite (.cw 0) data enables]
     | c :: rest => c :: rest)
  | .cw 4 => if byteEnabled enables 0 then [.journalTailWrite (lowByte data)]
             else [.settableWordWrite (.cw 4) data enables]
  | .sl1 n => [sl1Command n data enables]
  | .request i => [requestCommand i data enables]
  | w => [.settableWordWrite w data enables]

/-- The commands that a controller access becomes, by where it falls (R127, R128): a read of a shadow word is answered
by `State.readShadow` and is no command. -/
def State.accessCommands (s : State) (addr : WordAddr) (access : Access) (enables : ByteEnables) : List Instr :=
  match areaOffset s.path.area addr with
  | none => [.plainAccess addr access enables]
  | some off =>
    match classify off, access with
    | .plain, _ => [.plainAccess addr access enables]
    | .ring, _ => [.plainAccess addr access enables]
    | .window n index, .read => [.windowRead n index]
    | .window n index, .write data => [.windowWrite n index data enables]
    | .shadow _, .read => []
    | .shadow w, .write data => writeCommands w data enables

end Sys2Proof.Machine
end

