-- ==== Sys2Proof/Machine/Dispatch.lean ====
section
/-! DEFINITION. One arm per command: each is one direct call of the command's own meaning. -/

namespace Sys2Proof.Machine

def exec (i : Instr) (s : State) : Host.Outcome State Fault Refusal :=
  match i with
  | .powerOnReset ar fh => Sys2Proof.Machine.execPowerOnReset ar fh s
  | .controllerReset => Sys2Proof.Machine.execControllerReset s
  | .controllerResetRelease => Sys2Proof.Machine.execControllerResetRelease s
  | .railSenseChange l => Sys2Proof.Machine.execRailSenseChange l s
  | .railDeclaredLow => Sys2Proof.Machine.execRailDeclaredLow s
  | .railDeclaredGood => Sys2Proof.Machine.execRailDeclaredGood s
  | .cardGoodChange n l => Sys2Proof.Machine.execCardGoodChange n l s
  | .cardGoodDeclaredGood n => Sys2Proof.Machine.execCardGoodDeclaredGood n s
  | .cardGoodDeclaredLow n => Sys2Proof.Machine.execCardGoodDeclaredLow n s
  | .settleTimerExpiry => Sys2Proof.Machine.execSettleTimerExpiry s
  | .recoveryEnds => Sys2Proof.Machine.execRecoveryEnds s
  | .sagNoticeSlots => Sys2Proof.Machine.execSagNoticeSlots s
  | .sagNoticeCircuits => Sys2Proof.Machine.execSagNoticeCircuits s
  | .sagNoticeRestore => Sys2Proof.Machine.execSagNoticeRestore s
  | .recoverNoticeSlots => Sys2Proof.Machine.execRecoverNoticeSlots s
  | .recoverNoticeRestore => Sys2Proof.Machine.execRecoverNoticeRestore s
  | .normalNotice => Sys2Proof.Machine.execNormalNotice s
  | .departureNoticeLink n => Sys2Proof.Machine.execDepartureNoticeLink n s
  | .departureNoticeCircuits n => Sys2Proof.Machine.execDepartureNoticeCircuits n s
  | .resetPulseExpiry n => Sys2Proof.Machine.execResetPulseExpiry n s
  | .bootTimeout n => Sys2Proof.Machine.execBootTimeout n s
  | .idleFrame n => Sys2Proof.Machine.execIdleFrame n s
  | .laneGrant => Sys2Proof.Machine.execLaneGrant s
  | .sampleReply n g b => Sys2Proof.Machine.execSampleReply n g b s
  | .probeTimeout n => Sys2Proof.Machine.execProbeTimeout n s
  | .identityReply n g ty rv => Sys2Proof.Machine.execIdentityReply n g ty rv s
  | .clearOrderDone n g => Sys2Proof.Machine.execClearOrderDone n g s
  | .connectDone n g => Sys2Proof.Machine.execConnectDone n g s
  | .connectRefusal n g r => Sys2Proof.Machine.execConnectRefusal n g r s
  | .releaseResult n g a => Sys2Proof.Machine.execReleaseResult n g a s
  | .registerDataReply n g d => Sys2Proof.Machine.execRegisterDataReply n g d s
  | .registerWriteDone n g => Sys2Proof.Machine.execRegisterWriteDone n g s
  | .registerRefusal n g r => Sys2Proof.Machine.execRegisterRefusal n g r s
  | .discardedFrame n f => Sys2Proof.Machine.execDiscardedFrame n f s
  | .exchangeRetry n => Sys2Proof.Machine.execExchangeRetry n s
  | .identTimeout n => Sys2Proof.Machine.execIdentTimeout n s
  | .linkLossDeclared n => Sys2Proof.Machine.execLinkLossDeclared n s
  | .linkLoss n => Sys2Proof.Machine.execLinkLoss n s
  | .registerTimeout n => Sys2Proof.Machine.execRegisterTimeout n s
  | .chooseNextExchange n => Sys2Proof.Machine.execChooseNextExchange n s
  | .issue => Sys2Proof.Machine.execIssue s
  | .drained => Sys2Proof.Machine.execDrained s
  | .barrierTimerExpiry => Sys2Proof.Machine.execBarrierTimerExpiry s
  | .plainAccess ad x be => Sys2Proof.Machine.execPlainAccess ad x be s
  | .plainAccessDone w => Sys2Proof.Machine.execPlainAccessDone w s
  | .storePortArbitration => Sys2Proof.Machine.execStorePortArbitration s
  | .journalWordDone => Sys2Proof.Machine.execJournalWordDone s
  | .windowRead n k => Sys2Proof.Machine.execWindowRead n k s
  | .windowWrite n k d m => Sys2Proof.Machine.execWindowWrite n k d m s
  | .deferredWindowOffer => Sys2Proof.Machine.execDeferredWindowOffer s
  | .settableWordWrite w d be => Sys2Proof.Machine.execSettableWordWrite w d be s
  | .restoreFloorWrite d be => Sys2Proof.Machine.execRestoreFloorWrite d be s
  | .attentionEnableWrite e => Sys2Proof.Machine.execAttentionEnableWrite e s
  | .journalTailWrite v => Sys2Proof.Machine.execJournalTailWrite v s
  | .relinkAll => Sys2Proof.Machine.execRelinkAll s
  | .releaseAll => Sys2Proof.Machine.execReleaseAll s
  | .relink n => Sys2Proof.Machine.execRelink n s
  | .relinkReset n => Sys2Proof.Machine.execRelinkReset n s
  | .quiesce n => Sys2Proof.Machine.execQuiesce n s
  | .resume n => Sys2Proof.Machine.execResume n s
  | .connect e f be => Sys2Proof.Machine.execConnect e f be s
  | .release e f be => Sys2Proof.Machine.execRelease e f be s
  | .noneRequest e f be => Sys2Proof.Machine.execNoneRequest e f be s
  | .badRequest e be => Sys2Proof.Machine.execBadRequest e be s
  | .clockAdvance => Sys2Proof.Machine.execClockAdvance s
  | .powerOnResetAsserted => Sys2Proof.Machine.execPowerOnResetAsserted s

end Sys2Proof.Machine
end

