-- ==== Sys2Proof/Safety.lean ====
section
/-! DEFINITION. What a safe state is: the relations that the rules keep true at all times, one structure per block, and
the conditions that statements about a command share. -/

/-- The commands that are accesses of the controller (R127 to R134). -/
def Sys2Proof.Instr.isAccess : Sys2Proof.Instr → Bool
  | .plainAccess _ _ _ => true
  | .windowRead _ _ => true
  | .windowWrite _ _ _ _ => true
  | .settableWordWrite _ _ _ => true
  | .restoreFloorWrite _ _ => true
  | .attentionEnableWrite _ => true
  | .journalTailWrite _ => true
  | .relinkAll => true
  | .releaseAll => true
  | .relink _ => true
  | .relinkReset _ => true
  | .quiesce _ => true
  | .resume _ => true
  | .connect _ _ _ => true
  | .release _ _ _ => true
  | .noneRequest _ _ _ => true
  | .badRequest _ _ => true
  | _ => false

namespace Sys2Proof.Machine

/-! ## Conditions under which commands are taken -/

/-- The part runs: power-on reset is not asserted (R142, R172). -/
def State.Running (s : State) : Prop := s.por = false

/-- The controller port is idle, neither reset is asserted and no judgement of a changed floor is left to act on, so a
cycle is taken (R129, R141, R142, R146). -/
def State.PortFree (s : State) : Prop :=
  s.por = false ∧ s.ctrlReset = false ∧ s.path.ctrl = .idle ∧ s.judging.floor = false

/-- A departure notice of the slot is on its way to one of its receivers (R24). -/
def State.departing (s : State) (n : SlotNo) : Bool :=
  s.notices.departLink.contains n || s.notices.departCircuits.contains n

/-- An order of slot n names what its entry holds: for each side it serves, the endpoint's slot and port (R80, R87). -/
def Order.NamesOn (o : Order) (n : SlotNo) (e : Entry) : Prop :=
  match o.ends with
  | .one x => (e.endpoint x).slot.toNat = n.val ∧ (e.endpoint x).port = o.port
  | .both => e.fields.a.slot.toNat = n.val ∧ e.fields.a.port = o.port ∧ e.fields.b.slot.toNat = n.val ∧
      o.port2 = some e.fields.b.port

/-- A level other than the declared one has been seen at a filter for the filter time (R2). -/
def Filter.StandsFor (f : Filter) (clock filterTime : Word) (l : Level) : Prop :=
  f.declared ≠ l ∧ ∃ t, f.change = some t ∧ reached clock (t + filterTime) = true

/-- The exchange in flight on a link, answered by a reply with the tag of its request (R69). -/
def State.InFlight (s : State) (n : SlotNo) (x : Exchange) : Prop := (s.link n).exchange = some x

/-- The exchange in flight on a link has run out of time (R72). -/
def State.TimedOut (s : State) (n : SlotNo) (x : Exchange) : Prop :=
  (s.link n).exchange = some x ∧ s.supply.microReached x.expiry = true

/-- A lane serves a slot, and the sweep it holds (R51). -/
def State.Sweeping (s : State) (n : SlotNo) (l : LaneNo) (w : Sweep) : Prop :=
  (s.slot n).lane = some l ∧ s.lane l = some w

/-- A sweep about to send its first probe, as R54 starts it. -/
def State.freshSweep (s : State) (n : SlotNo) (mode : Mode) : Sweep :=
  { slot := n, mode := mode, rate := (s.sl0 n).rate, margin := (s.sl0 n).margin,
    centre := if mode = .verify then some (s.slot n).lastGood.edge else none,
    position := 0, probe := 1, ones := 0, readings := [] }

/-- No boot wait: a slot context that has ended its work in BOOTING (R24). -/
def SlotContext.unbooted (c : SlotContext) : SlotContext :=
  if c.state = .booting then { c with bootTimer := none } else c

/-! ## Supply Watch -/

/-- R2: a raw input that differs from the declared level is being timed. -/
def Filter.Timed (f : Filter) : Prop := f.raw ≠ f.declared → f.change.isSome = true

/-- R4, R9, R72: the rail is declared low exactly in SAG, the settle timer runs exactly in SETTLE, every raw input that
differs is being timed, the microsecond count stays within its millisecond, and the microseconds elapsed are those that
the clock and the count show, which wrap. -/
structure SupplyOk (s : State) : Prop where
  low_iff_sag : s.supply.rail.declared = .low ↔ s.supply.shelf = .sag
  settle_timer : s.supply.settleTimer.isSome = true ↔ s.supply.shelf = .settle
  rail_timed : s.por = false → s.supply.rail.Timed
  cards_timed : s.por = false → ∀ n, (s.card n).Timed
  micro_lt : s.supply.micro < 1000
  elapsed : s.supply.elapsed % microSpan = s.supply.micros

/-! ## Slot Sequencer -/

/-- The states in which a slot is on its way to LINKED or there, in a mode and at an attempt. -/
def SlotState.relinking : SlotState → Bool
  | .booting => true
  | .pending => true
  | .training => true
  | .identify => true
  | .linked => true
  | .empty => false
  | .held => false
  | .failed => false
  | .mismatch => false
  | .offline => false

/-- R25 to R29, R39, R43, R48, R61 for one slot: attempt and mode agree, the reset output follows pulse and OFFLINE, the
two timers run in their states, the force flags stand in HELD only, and the lock results lie in their ranges. -/
structure SlotContext.Ok (c : SlotContext) : Prop where
  attempt_le : c.attempt ≤ 3
  verify_attempt : c.mode = .verify → c.attempt = 0
  full_attempt : c.state.relinking = true → c.mode = .full → 1 ≤ c.attempt
  booting_full : c.state = .booting → c.mode = .full
  pulse_state : c.pulseTimer.isSome = true → c.state = .booting ∨ c.state = .held
  boot_state : c.bootTimer.isSome = true → c.state = .booting
  booting_timer : c.state = .booting → (c.pulseTimer.isSome = true ↔ c.bootTimer = none)
  force_full : c.forceFull = true → c.state = .held
  force_reset : c.forceReset = true → c.forceFull = true
  spread_le : c.lock.spread ≤ 62
  drift_range : -32 ≤ c.lock.drift ∧ c.lock.drift ≤ 31
  good_outside : c.state ≠ .empty → c.state ≠ .offline → c.cardGood = .good
  low_in_empty : c.state = .empty → c.cardGood = .low

/-- The slot contexts as a whole: each is as `SlotContext.Ok` says, holds the level its filter declared (R27), and
drives its reset output while a pulse runs or it is OFFLINE, and otherwise not (R25); power-on reset releases it (R172).
-/
structure SlotsOk (s : State) : Prop where
  each : ∀ n, (s.slot n).Ok
  level : ∀ n, (s.slot n).cardGood = (s.card n).declared
  output : ∀ n, (s.slot n).resetOut = (!s.por && ((s.slot n).pulseTimer.isSome || (s.slot n).state == .offline))
  listens : ∀ n, (s.link n).listening = (s.slot n).bootTimer.isSome

/-! ## Training lanes -/

/-- R51, R54, R55: what a sweep holds while it runs. -/
structure Sweep.Ok (w : Sweep) : Prop where
  centre : w.centre.isSome = true ↔ w.mode = .verify
  position : w.position < w.mode.positions
  readings : w.readings.length = w.position
  probe : 1 ≤ w.probe ∧ w.probe ≤ 8
  ones : w.ones < w.probe

/-- R51, R52: a slot holds a lane exactly in TRAINING, and a lane is bound exactly to the slot that holds it, in that
slot's mode. -/
structure LanesOk (s : State) : Prop where
  training : ∀ n, (s.slot n).lane.isSome = true ↔ (s.slot n).state = .training
  bound : ∀ n l, (s.slot n).lane = some l → ∃ w, s.lane l = some w ∧ w.slot = n
  served : ∀ l w, s.lane l = some w → (s.slot w.slot).lane = some l ∧ (s.slot w.slot).mode = w.mode ∧ w.Ok

/-! ## Link Units -/

/-- The slot is LINKED, or has left LINKED and its Link Unit has not yet taken the departure notice (R24, R81). -/
def State.InService (s : State) (n : SlotNo) : Prop := (s.slot n).state = .linked ∨ n ∈ s.notices.departLink

/-- R75, R76, R83: the exchange in flight is work of the state the slot is in. -/
def State.ExchangeFits (s : State) (n : SlotNo) (x : Exchange) : Prop :=
  match x.work with
  | .probe tap => ∃ l w, s.Sweeping n l w ∧ tap = tapAt w.centre w.position
  | .identityQuery => (s.slot n).state = .identify
  | .clearOrder => (s.slot n).state = .identify ∧ (s.slot n).mode = .full
  | .order o => o.inFlight = true ∧ (s.link n).orders.head? = some o ∧ s.InService n
  | .register op index =>
    s.InService n ∧ ∃ w, (s.link n).window = some w ∧ w.op = op ∧ w.index = index ∧ w.inFlight = true

/-- An order that is in flight, or none. -/
def headInFlight (orders : List Order) : Bool := (orders.head?.map fun o => o.inFlight).getD false

/-- R75, R76, R79, R82 for one link: the exchange fits the slot's state, TRAINING and IDENTIFY always have one, orders
and windows are held only in service, and the order in flight is the one at the head of the list. -/
structure LinkOk (s : State) (n : SlotNo) : Prop where
  fits : ∀ x, (s.link n).exchange = some x → s.ExchangeFits n x
  busy : s.por = false → (s.slot n).state = .training ∨ (s.slot n).state = .identify →
    (s.link n).exchange.isSome = true
  orders_service : (s.link n).orders ≠ [] → s.InService n
  window_service : (s.link n).window.isSome = true → s.InService n
  loss_service : (s.link n).lossDeclared = true → s.InService n ∧ (s.link n).exchange = none
  tail_waiting : ∀ o ∈ (s.link n).orders.tail, o.inFlight = false
  head_flight : s.por = false → headInFlight (s.link n).orders = true →
    ∃ x o, (s.link n).exchange = some x ∧ x.work = .order o
  window_flight : s.por = false → ∀ w, (s.link n).window = some w → w.inFlight = true →
    ∃ x, (s.link n).exchange = some x ∧ x.work = .register w.op w.index

/-- R24: while a departure notice is on its way its slot is in none of the states that need a lane, and no notice of one
departure is sent twice to one receiver. -/
structure DeparturesOk (s : State) : Prop where
  link_once : s.notices.departLink.Nodup
  circuits_once : s.notices.departCircuits.Nodup
  away : ∀ n, s.departing n = true →
    (s.slot n).state ≠ .training ∧ (s.slot n).state ≠ .identify ∧ (s.slot n).state ≠ .linked

/-- The Link Units with the slots they serve. -/
structure LinksOk (s : State) : Prop where
  each : ∀ n, LinkOk s n
  departures : DeparturesOk s

/-- R42, R105: while the Circuit Table has yet to take a sag notice that the Slot Sequencer has taken, no slot is in
TRAINING, IDENTIFY or LINKED, so that no entry is issued in between (log entry 6). -/
structure SagsOk (s : State) : Prop where
  away : 0 < s.lateSags → ∀ n,
    (s.slot n).state ≠ .training ∧ (s.slot n).state ≠ .identify ∧ (s.slot n).state ≠ .linked

/-! ## Window accesses -/

/-- R137: at most one window request in the whole part, the marker says whether there is one, and a claimed request is
the one the controller port holds its cycle open for. -/
structure WindowsOk (s : State) : Prop where
  marker : s.path.marker = true ↔ ∃ n, (s.link n).window.isSome = true
  only : ∀ n m, (s.link n).window.isSome = true → (s.link m).window.isSome = true → n = m
  held : ∀ n op, s.path.ctrl = .windowHeld n op →
    ∃ w, (s.link n).window = some w ∧ w.op = op ∧ w.claimed = true
  claimed : s.por = false → ∀ n w, (s.link n).window = some w → w.claimed = true → s.path.ctrl = .windowHeld n w.op

/-! ## Circuit Table -/

/-- How many entries are in a state. -/
def CircuitTable.inState (t : CircuitTable) (st : EntryState) : Nat := t.entries.countP fun p => p.2.state == st

/-- R90, R111: the table lists each entry once, its counts are the numbers of entries in their states, and no more than
16 entries are RESTORING. -/
structure CountsOk (s : State) : Prop where
  listed : Sparse.wf s.circuits.entries
  indices : ∀ p ∈ s.circuits.entries, p.1 < 4096
  waiting : s.circuits.waiting = s.circuits.inState .waiting
  live : s.circuits.live = s.circuits.inState .live
  faulted : s.circuits.faulted = s.circuits.inState .faulted
  restoring : s.restore.restoring = s.circuits.inState .restoring
  window : s.restore.restoring ≤ 16

/-- R88, R89, R92: the age list holds each entry outside IDLE exactly once, the endpoint index maps each endpoint to the
one entry outside IDLE that holds it, and such an entry holds two distinct endpoints of the shelf. -/
structure AgeListOk (s : State) : Prop where
  once : s.circuits.ageList.Nodup
  holds : ∀ i, i ∈ s.circuits.ageList ↔ (s.entry i).state ≠ .idle
  holder : ∀ p i, s.holder p = some i ↔
    (s.entry i).state ≠ .idle ∧ (p = (s.entry i).fields.a ∨ p = (s.entry i).fields.b)
  endpoints : ∀ i, (s.entry i).state ≠ .idle → RequestFieldsBad (s.entry i).fields = false

/-! ## Restore Engine -/

/-- R108, R119: the lowest closed class is 1 to 4, none is closed after the normal notice, and the barrier timer runs
exactly from a recover notice on while some class is closed. -/
structure BarriersOk (s : State) : Prop where
  lowest : 1 ≤ s.restore.lowestClosed ∧ s.restore.lowestClosed ≤ 4
  normal : s.restore.phase = .normal → s.restore.lowestClosed = 4
  timer : s.restore.timer.isSome = true ↔ s.restore.phase = .recovering ∧ s.restore.lowestClosed < 4

/-! ## Journal Writer -/

/-- R161, R163, R166: never more than 255 positions allocated, positions given in order from the head, one word in
progress while a record is pending, the attention output at its two conditions, and the word at the store port is the
one in progress unless a controller reset has abandoned it (R167). -/
structure JournalOk (s : State) : Prop where
  room : s.journal.allocated ≤ 255
  positions : ∀ k p, s.journal.records[k]? = some p → p.position = s.journal.head + BitVec.ofNat 8 k
  word : s.journal.word.isSome = true ↔ s.journal.records ≠ []
  attention : s.journal.attention =
    (!s.por && s.path.captured.attentionEnable && s.journal.head != s.journal.tail)
  serving : ∀ a d, s.path.store = .journal a d true → s.journalWrite = some (a, d)

/-! ## Shadow store and store port -/

/-- R131, R143: the clamped values stay clamped. -/
structure CapturedOk (s : State) : Prop where
  settle : 50#16 ≤ s.path.captured.settleTime
  boot : 1#8 ≤ s.path.captured.bootLimit

/-- R129, R139: the store port serves the controller's access exactly while the controller's cycle says so, unless a
controller reset has abandoned it (R141). -/
structure PortsOk (s : State) : Prop where
  served : s.path.ctrl = .plainServed ↔ ∃ c, s.path.store = .controller c true

/-- The store keeps its canonical form. -/
structure StoreOk (s : State) : Prop where
  canonical : Memory.wf s.memory

/-! ## The whole part -/

/-- Every relation at once. -/
structure State.Ok (s : State) : Prop where
  supply : SupplyOk s
  slots : SlotsOk s
  lanes : LanesOk s
  links : LinksOk s
  sags : SagsOk s
  windows : WindowsOk s
  counts : CountsOk s
  ages : AgeListOk s
  barriers : BarriersOk s
  journal : JournalOk s
  captured : CapturedOk s
  ports : PortsOk s
  store : StoreOk s

/-! ## What a search looks for -/

/-- R57: tap h reads HIGH, and going backward from it, cyclically and past no more than the other 63 taps, the first tap
that is not UNSURE is p and reads LOW. -/
def FullEdge (r : List Reading) (h p : Nat) : Prop :=
  h < 64 ∧ readingAt r h = .high ∧ ∃ d, 1 ≤ d ∧ d ≤ 63 ∧ p = (h + 64 - d) % 64 ∧ readingAt r p = .low ∧
    ∀ e, 1 ≤ e → e < d → readingAt r ((h + 64 - e) % 64) = .unsure

/-- R58: position k of the window reads HIGH, and going backward from it without wrapping the first position that is not
UNSURE is j and reads LOW. -/
def VerifyEdge (r : List Reading) (k j : Nat) : Prop :=
  k < 9 ∧ readingAt r k = .high ∧ j < k ∧ readingAt r j = .low ∧ ∀ i, j < i → i < k → readingAt r i = .unsure

end Sys2Proof.Machine
end

