-- ==== Sys2Proof/Certificates/Slice0/Obligations.lean ====
section
/-! DEFINITION. The statements for the provers, listed in OBLIGATIONS.json. -/

open Sys2Proof Sys2Proof.Machine

/-! ## The whole machine -/

/-- One step takes the command at the front of the queue and is that command's meaning on the rest of the state
(95_what_each_step_holds.md: steps are whole and indivisible). -/
def Obligations.StepRunsFrontCommand : Prop :=
  ∀ (c : Instr) (rest : List Instr) (s : State),
    step { s with pending := c :: rest } = exec c { s with pending := rest }

/-- With no command waiting a step is one microsecond of the time base (R1, R72; that time passes then is the model's
choice, log entry 3). CLOCK_ADVANCE (R1, R155): the clock advances by one and wraps, and SW6 shows it; the microsecond
count starts its next millisecond (log entry 4). -/
def Obligations.TimePassesByMicroseconds : Prop :=
  (∀ s : State, s.pending = [] →
      (s.por = true → step s = .next s) ∧
      (s.por = false → s.supply.micro < 999 →
        step s = .next { s with supply := { s.supply with
          micro := s.supply.micro + 1, elapsed := s.supply.elapsed + 1 } }) ∧
      (s.por = false → 999 ≤ s.supply.micro →
        step s = .next { s with supply := { s.supply with
          clock := s.supply.clock + 1#32, micro := 0, elapsed := s.supply.elapsed + (1000 - s.supply.micro) } })) ∧
  (∀ s : State, s.por = false → ∃ t, exec .clockAdvance s = .next (s.judged t) ∧
      t = { s with supply := { s.supply with
        clock := s.supply.clock + 1#32, micro := 0, elapsed := s.supply.elapsed + (1000 - s.supply.micro) } } ∧
      t.readShadow (.sw 6) = s.readShadow (.sw 6) + 1#32)

/-- Every command answers a next state and leaves the queue behind it alone: nothing the part is sent can stop it. While
power-on reset is asserted a command changes nothing but the levels of the input pins and the two resets (R142, R172;
that the rest of the state stands still meanwhile is the model's choice, log entry 18): RAIL_SENSE_CHANGE and
CARD_GOOD_CHANGE then move the raw level alone and open no pending change, CONTROLLER_RESET and its release move the
input alone, and the two power-on rows have their own effect (PowerOnResetReturnsEveryBlock). -/
def Obligations.EveryCommandAnswers : Prop :=
  (∀ (c : Instr) (s : State), ∃ t, exec c s = .next t ∧ t.pending = s.pending) ∧
  (∀ (c : Instr) (s : State), s.por = true →
      (∀ area filt, c ≠ .powerOnReset area filt) → c ≠ .powerOnResetAsserted → c ≠ .controllerReset →
      c ≠ .controllerResetRelease → (∀ l, c ≠ .railSenseChange l) → (∀ n l, c ≠ .cardGoodChange n l) →
      exec c s = .next s) ∧
  (∀ s : State, s.por = true →
      (∀ l, exec (.railSenseChange l) s = .next
        { s with supply := { s.supply with rail := { s.supply.rail with raw := l } } }) ∧
      (∀ n l, exec (.cardGoodChange n l) s = .next (s.setCard n { s.card n with raw := l })) ∧
      exec .controllerReset s = .next { s with ctrlReset := true } ∧
      exec .controllerResetRelease s = .next { s with ctrlReset := false })

/-- Every departure from LINKED sends the departure notice, once to the slot's Link Unit and once to the Circuit Table
(R24): HELD, EMPTY, PENDING, BOOTING or OFFLINE, whatever the new state. The premises say that no slot but one in
TRAINING holds a lane (R51) and that no notice of a LINKED slot is on its way, which every step keeps
(LanesStayBoundToTrainingSlots, LinksCarryTheWorkOfTheirSlot). A notice on its way is a channel of the state (log entry
5). -/
def Obligations.EveryDepartureIsNotified : Prop :=
  ∀ (c : Instr) (s t : State) (n : SlotNo), LanesOk s → DeparturesOk s → exec c s = .next t →
      (∀ area filt, c ≠ .powerOnReset area filt) →
    (s.slot n).state = .linked → (t.slot n).state ≠ .linked →
    t.notices.departLink.count n = 1 ∧ t.notices.departCircuits.count n = 1

/-! ## Relations that every step keeps -/

/-- R4 and R9: the rail is declared low exactly in SAG and the settle timer runs exactly in SETTLE. R1, R72: the
microseconds elapsed are those of the clock and its count, which wrap. -/
def Obligations.ShelfStateFollowsTheRail : Prop :=
  ∀ s t : State, SupplyOk s → step s = .next t → SupplyOk t

/-- R25 to R29, R39, R43, R48: the slot contexts keep their relations. The second premise says that a slot holds a lane
in TRAINING only (R51), which every step keeps (LanesStayBoundToTrainingSlots). -/
def Obligations.SlotContextsStayConsistent : Prop :=
  ∀ s t : State, SlotsOk s → LanesOk s → step s = .next t → SlotsOk t

/-- R51 and R52: no two slots hold one lane, and TRAINING slots are exactly those that hold one. -/
def Obligations.LanesStayBoundToTrainingSlots : Prop :=
  ∀ s t : State, LanesOk s → step s = .next t → LanesOk t

/-- R24, R75, R76: each link carries only the work of its slot's state. The first two premises are relations that every
step keeps too (LanesStayBoundToTrainingSlots, PortsWindowsAndStoreStayConsistent). Two clauses rest on the model's own
reading: that no slot is in TRAINING, IDENTIFY or LINKED while its departure notice is on its way is log entry 6, and
that the order at the head is no longer in flight once link loss is declared is log entry 25. R42, R105: while the
Circuit Table has yet to take a sag notice that the Slot Sequencer has taken, no slot is in TRAINING, IDENTIFY or LINKED,
so that no entry is issued in between; that a lane grant takes such notices is log entry 6. -/
def Obligations.LinksCarryTheWorkOfTheirSlot : Prop :=
  (∀ s t : State, LanesOk s → WindowsOk s → LinksOk s → step s = .next t → LinksOk t) ∧
  (∀ s t : State, LanesOk s → SagsOk s → step s = .next t → SagsOk t)

/-- R90, R111: the counts are right and no more than 16 entries are RESTORING. R97, R111: only the Restore Engine's
issue moves an entry to RESTORING. -/
def Obligations.CountsStayRight : Prop :=
  (∀ s t : State, CountsOk s → step s = .next t → CountsOk t) ∧
  (∀ (c : Instr) (s t : State) (i : EntryNo), exec c s = .next t →
      (s.entry i).state ≠ .restoring → (t.entry i).state = .restoring →
      c = .issue ∧ (s.entry i).state = .waiting ∧ s.restore.restoring < 16)

/-- R88 and R89: the age list and the endpoint index hold exactly the entries outside IDLE. -/
def Obligations.AgeListAndIndexStayRight : Prop :=
  ∀ s t : State, AgeListOk s → step s = .next t → AgeListOk t

/-- R108, R119: the barriers stay ordered and their timer runs only while it may. R120: an opened barrier stays open,
since only the recover notice lowers the lowest closed class. -/
def Obligations.BarriersStayOrdered : Prop :=
  (∀ s t : State, BarriersOk s → step s = .next t → BarriersOk t) ∧
  (∀ (c : Instr) (s t : State), BarriersOk s → exec c s = .next t →
      t.restore.lowestClosed < s.restore.lowestClosed → c = .recoverNoticeRestore)

/-- R161, R163 and R166: the journal never holds more than 255 unconsumed records, and the attention output follows its
two conditions. -/
def Obligations.JournalNeverOverwrites : Prop :=
  ∀ s t : State, JournalOk s → step s = .next t → JournalOk t

/-- R129, R131, R137, R139, R143: the clamped values stay clamped, the store port serves what the controller waits for,
at most one window request is in the whole part, recorded by the marker, and the store keeps its canonical form. -/
def Obligations.PortsWindowsAndStoreStayConsistent : Prop :=
  ∀ s t : State, CapturedOk s → PortsOk s → StoreOk s → WindowsOk s → step s = .next t →
    CapturedOk t ∧ PortsOk t ∧ StoreOk t ∧ WindowsOk t

/-! ## Resets and the clock -/

/-- POWER_ON_RESET (R1 to R4, R22, R67, R86 to R90, R108, R127, R142, R161): every block at its power-on state, the
straps sampled, each filter declared low and timing a raw input that is good; that the pins, the store and the queue
stay is log entry 23. Where no rule gives a value the model's own stands in State.reset: the microsecond count 0 (log
entry 4), the Restore Engine as after a sag notice (log entry 11), no answer given yet (log entry 22), the captured
expected type 0 (log entry 26). That the command has this effect also where power-on reset is not asserted is log entry
36. POWER_ON_RESET_ASSERTED (R172): the slot-reset outputs and the attention output are released, no link sends, no port
holds a cycle; that what else the part holds stands until the release is log entry 30, and that a write the store port
was serving does not reach the store is log entry 35. -/
def Obligations.PowerOnResetReturnsEveryBlock : Prop :=
  (∀ (area : BitVec 6) (filt : Bool) (s : State), ∃ t, exec (.powerOnReset area filt) s = .next t ∧
      t.supply = { State.reset.supply with filtHigh := filt, rail := t.supply.rail, cards := t.supply.cards } ∧
      t.supply.rail = ⟨s.supply.rail.raw, .low, if s.supply.rail.raw = .good then some 0#32 else none⟩ ∧
      (∀ n, t.card n = ⟨(s.card n).raw, .low, if (s.card n).raw = .good then some 0#32 else none⟩) ∧
      t.path = { State.reset.path with area := area } ∧
      t = { State.reset with supply := t.supply, path := t.path, memory := s.memory, ctrlReset := s.ctrlReset,
                             pending := s.pending }) ∧
  (∀ s : State, ∃ t, exec .powerOnResetAsserted s = .next t ∧ t.por = true ∧
      (∀ n, t.slot n = { s.slot n with resetOut := false }) ∧
      (∀ n, t.link n = { s.link n with exchange := none, line := [] }) ∧
      t = { s with por := true, slots := t.slots, links := t.links, journal := { s.journal with attention := false },
                   path := { s.path with ctrl := .idle, store := .idle } })

/-- What the words of the shelf area read right after reset (R4, R22, R67, R86, R108, R143, R150 to R161), and that this
state meets every relation stated above. -/
def Obligations.StateAfterReset : Prop :=
  ((∀ k, State.reset.readShadow (.sw k) =
      [0x7140014F#32, 0x00000011#32, 0#32, 0#32, 0#32, 0#32, 0#32].getD k.val 0#32) ∧
    (∀ k, State.reset.readShadow (.cw k) =
      [0#32, 0x07D00003#32, 0x00C801F4#32, 0x0004061E#32, 0#32].getD k.val 0#32) ∧
    (∀ n, State.reset.readShadow (.sl0 n) = 0x10030000#32 ∧ State.reset.readShadow (.sl1 n) = 0#32) ∧
    (∀ n k, State.reset.readShadow (.ss n k) = if k = 0 then 0x00000700#32 else 0#32) ∧
    (∀ i, State.reset.readShadow (.request i) = 0#32 ∧ State.reset.readShadow (.entryState i) = 0#32)) ∧
  (State.reset.Ok)

/-- CONTROLLER_RESET (R5, R22, R84, R108, R137, R141, R167): the open cycle is abandoned, window requests become
unclaimed, the journal restarts, and every other piece of state is kept. That a CONTROLLER_RESET has this whole effect
also where the input is asserted already is log entry 32. CONTROLLER_RESET_RELEASE (R141): the input is released, the
port takes cycles again, once no judgement of a changed floor is left to act on (R146), and nothing else changes. -/
def Obligations.ControllerResetKeepsTheShelf : Prop :=
  (∀ s : State, s.por = false → ∃ t, exec .controllerReset s = .next t ∧
      (∀ n, t.link n = { s.link n with window := (s.link n).window.map fun w => { w with claimed := false } }) ∧
      t = { s with
        ctrlReset := true,
        links := t.links,
        journal := { head := 0#8, tail := 0#8, overrun := false, records := [], word := none, attention := false },
        path := { s.path with
          ctrl := .idle,
          store := (match s.path.store with
            | .controller c _ => .controller c false
            | .journal a d _ => .journal a d false
            | .idle => .idle) } }) ∧
  (∀ s : State, exec .controllerResetRelease s = .next { s with ctrlReset := false } ∧
      (s.por = false → s.path.ctrl = .idle → s.judging.floor = false →
        State.takesCycle { s with ctrlReset := false } = true))

/-- R1, R72: a timer of n ms started at clock value t expires when the clock reads t + n, also across the wrap, and an
exchange timer of n µs started after f µs of sending expires f + n µs later. That a timer counts as expired from that
time on, for as long as the bounds of this statement reach, is log entry 2. -/
def Obligations.TimersExpireOnTime : Prop :=
  (∀ (t : Word) (n k : Nat), n ≤ 65535 → k ≤ 65535 →
    (timerDue (t + BitVec.ofNat 32 k) (startTimer t n) = true ↔ n ≤ k)) ∧
  (∀ (w w' : Supply) (f n k : Nat), f ≤ 1000 → n ≤ 2000 → k ≤ 1000000 →
    w.micro < 1000 → w'.micros = (w.micros + k) % microSpan →
    (w'.microReached (w.microExpiry f n) = true ↔ f + n ≤ k))

/-! ## Supply Watch -/

/-- RAIL_SENSE_CHANGE and CARD_GOOD_CHANGE (R2, R3): a raw input that differs from the declared level opens a pending
change at the clock, one already open stays, and a return before the filter time drops it; nothing else moves. That a
return after the filter time leaves the change standing is log entry 19. -/
def Obligations.RawInputsAreTimed : Prop :=
  (∀ (l : Level) (s : State), s.por = false → exec (.railSenseChange l) s = .next
    { s with supply := { s.supply with rail := { s.supply.rail with
        raw := l,
        change := if l ≠ s.supply.rail.declared then some (s.supply.rail.change.getD s.supply.clock)
          else s.supply.rail.change.filter fun t => reached s.supply.clock (t + s.supply.filterTime) } } }) ∧
  (∀ (n : SlotNo) (l : Level) (s : State), s.por = false → exec (.cardGoodChange n l) s = .next
    (s.setCard n { s.card n with
        raw := l,
        change := if l ≠ (s.card n).declared then some ((s.card n).change.getD s.supply.clock)
          else (s.card n).change.filter fun t => reached s.supply.clock (t + s.supply.filterTime) }))

/-- RAIL_DECLARED_LOW (R6, R8, R11, R18, R21). From NORMAL or RECOVER a new episode opens; from SETTLE the episode
continues. The number goes up by one, the start stamp is the filtered change time, the two episode flags of every slot
are set, SAG_BEGIN is raised with aux new and the sag notice goes to its three receivers; in a continued episode the
settle timer stops and SAG_BEGIN has aux continued. A raw input that has returned by then opens a new pending change
(log entry 19). -/
def Obligations.RailDeclaredLow : Prop :=
  ∀ s : State, s.por = false → s.supply.rail.StandsFor s.supply.clock s.supply.filterTime .low →
    let rail : Filter := { s.supply.rail with
      declared := .low, change := if s.supply.rail.raw = .low then none else some s.supply.clock }
    (s.supply.shelf = .normal ∨ s.supply.shelf = .recover →
      exec .railDeclaredLow s = .next (s.judged (
        let u := State.raise ({ s with
          supply := { s.supply with
            rail := rail, shelf := .sag, settleTimer := none, episode := s.supply.episode + 1#16,
            startStamp := s.supply.clock - s.supply.filterTime, runDuration := 0#16 },
          slots := s.slots.map fun c : SlotContext =>
            ({ c with wasLinked := c.state == .linked, cgHeld := c.cardGood == .good } : SlotContext) }
          ) ⟨.sagBegin, none, 0#8, none, none, s.supply.episode + 1#16, s.supply.clock - s.supply.filterTime, 0#32⟩
        { u with notices := { u.notices with
            slots := u.notices.slots ++ [.sag], circuits := u.notices.circuits + 1,
            restore := u.notices.restore ++ [.sag] } }))) ∧
    (s.supply.shelf = .settle →
      exec .railDeclaredLow s = .next (s.judged (
        State.raise { s with supply := { s.supply with rail := rail, shelf := .sag, settleTimer := none } }
          ⟨.sagBegin, none, 1#8, none, none, s.supply.episode, s.supply.clock - s.supply.filterTime, 0#32⟩)))

/-- RAIL_DECLARED_GOOD (R7, R9, R16, R21): the running duration, SAG_END and the settle timer. SETTLE_TIMER_EXPIRY
(R10, R17, R21): the duration is latched, the episode classified against the short-sag limit captured now, RECOVER
entered, RECOVER_BEGIN raised and the recover notice sent. An expiry is taken at its time or later (log entry 2). A
raw input that has returned by then opens a new pending change (log entry 19). -/
def Obligations.SagEndsAndRecoveryBegins : Prop :=
  (∀ s : State, s.por = false → s.supply.rail.StandsFor s.supply.clock s.supply.filterTime .good →
      s.supply.shelf = .sag →
      let length := (s.supply.clock - s.supply.filterTime - s.supply.startStamp).toNat
      let duration : BitVec 16 := if length ≤ 65535 then BitVec.ofNat 16 length else 65535#16
      exec .railDeclaredGood s = .next (s.judged (
        State.raise ({ s with supply := { s.supply with
            rail := { s.supply.rail with
              declared := .good, change := if s.supply.rail.raw = .good then none else some s.supply.clock },
            shelf := .settle, runDuration := duration,
            settleTimer := some (s.supply.clock + s.path.captured.settleTime.setWidth 32) } })
          ⟨.sagEnd, none, 0#8, none, none, s.supply.episode, s.supply.clock - s.supply.filterTime,
            duration.setWidth 32⟩))) ∧
  (∀ (s : State) (e : Word), s.por = false → s.supply.shelf = .settle → s.supply.settleTimer = some e →
      reached s.supply.clock e = true →
      let limit := s.path.captured.shortSagLimit
      let cls : Classification := if limit ≠ 0#16 ∧ s.supply.runDuration ≤ limit then .short else .long
      exec .settleTimerExpiry s = .next (s.judged (
        let u := State.raise ({ s with supply := { s.supply with
            shelf := .recover, settleTimer := none, lastDuration := s.supply.runDuration, lastClass := cls } })
          ⟨.recoverBegin, none, cls.code.setWidth 8, none, none, s.supply.episode, s.supply.clock,
            s.supply.runDuration.setWidth 32⟩
        { u with notices := { u.notices with
            slots := u.notices.slots ++ [.recover cls], restore := u.notices.restore ++ [.recover cls] } })))

/-- RECOVERY_ENDS (R12, R13, R21, R124): taken in RECOVER exactly where the settled condition has been judged since the
shelf entered RECOVER and holds (the moments of judgement are stated in ChangesAreJudged); an act of a judgement is the
command itself (log entry 12), also where a sag notice of the episode is still on its way (log entry 39). RECOVER_DONE
carries the LIVE and the WAITING count, and the normal notice is sent. -/
def Obligations.RecoveryEndsWhenSettled : Prop :=
  ∀ s : State, s.por = false → s.supply.shelf = .recover →
    (s.judging.recovery = true →
      (∀ n, (s.slot n).state ∉ [SlotState.held, .booting, .pending, .training, .identify]) →
      (∀ p ∈ s.circuits.entries, p.2.state ≠ .restoring ∧
        (p.2.state = .waiting → s.bothLinked p.2 = true → s.path.captured.restoreFloor < p.2.fields.cls)) →
      exec .recoveryEnds s = .next (s.judged (
        let u := State.raise ({ s with supply := { s.supply with shelf := .normal, settleTimer := none } })
          ⟨.recoverDone, none, 0#8, none, none, s.supply.episode, s.supply.clock,
            BitVec.ofNat 16 s.circuits.live ++ BitVec.ofNat 16 s.circuits.waiting⟩
        { u with notices := { u.notices with restore := u.notices.restore ++ [.normal] } }))) ∧
    (s.judging.recovery = false ∨ (∃ n, (s.slot n).state ∈ [SlotState.held, .booting, .pending, .training, .identify]) ∨
      (∃ p ∈ s.circuits.entries, p.2.state = .restoring ∨
        (p.2.state = .waiting ∧ s.bothLinked p.2 = true ∧ p.2.fields.cls ≤ s.path.captured.restoreFloor)) →
      exec .recoveryEnds s = .next s)

/-- `State.judged` closes every command that is taken, and makes the judgements that its changes call for; it touches
nothing but their record. R12: the settled condition is judged where a slot state, an entry state or the captured floor
has changed while the shelf is in RECOVER, or where the recover notice has been taken (RecoverNoticeMovesEveryHeldSlot
sets the record); entering RECOVER is no judgement, and no judgement waits for the sag notice of a forced episode to be taken (log entry 39).
R115, R131, R146: a change of the captured floor is judged before
the next controller access: while an issue, an opening by DRAINED or the end of recovery is left to act on, no
controller access is taken. R146 says that the judgements are made before the next access; that each of these three acts
holds the access is the model's reading (log entry 12), that an access is not taken then is log entry 20, and that one
sent then has no effect is log entry 1. -/
def Obligations.ChangesAreJudged : Prop :=
  (∀ s t : State, s.judged t = { t with judging := (s.judged t).judging }) ∧
  (∀ s t : State, CountsOk s → CountsOk t → ((s.judged t).judging.recovery = true ↔
      s.supply.shelf = .recover ∧ t.supply.shelf = .recover ∧ (t.judging.recovery = true ∨
        (∃ n, (t.slot n).state ≠ (s.slot n).state) ∨ (∃ i, (t.entry i).state ≠ (s.entry i).state) ∨
        t.path.captured.restoreFloor ≠ s.path.captured.restoreFloor))) ∧
  (∀ s t : State, ((s.judged t).judging.floor = true ↔
      (t.judging.floor = true ∨ t.path.captured.restoreFloor ≠ s.path.captured.restoreFloor) ∧
      (((∃ i, t.issueWinner = some i) ∧ t.restore.phase ≠ .sagged ∧ t.restore.restoring < 16 ∨ t.drainedNow = true) ∨
        t.supply.shelf = .recover ∧ (s.judged t).judging.recovery = true ∧ t.settled = true))) ∧
  (∀ (c : Instr) (s : State), s.judging.floor = true → c.isAccess = true → exec c s = .next s)

/-- RELINK_ALL (R14, R18, R145): in NORMAL a forced episode opens and the shelf goes straight to RECOVER, both notices
sent; in any other shelf state only the controller's cycle completes. The slots move when the sag notice is taken; that
the settled condition may be judged before it is the model's choice (log entry 39). -/
def Obligations.RelinkAllForcesAnEpisode : Prop :=
  ∀ s : State, s.PortFree →
    (s.supply.shelf = .normal → exec .relinkAll s = .next (s.judged (State.answered (
      let u := State.raise ({ s with
        supply := { s.supply with
          shelf := .recover, settleTimer := none, episode := s.supply.episode + 1#16,
          startStamp := s.supply.clock, runDuration := 0#16, lastDuration := 0#16, lastClass := .forced },
        slots := s.slots.map fun c : SlotContext =>
            ({ c with wasLinked := c.state == .linked, cgHeld := c.cardGood == .good } : SlotContext) }
        ) ⟨.recoverBegin, none, 3#8, none, none, s.supply.episode + 1#16, s.supply.clock, 0#32⟩
      { u with notices := { u.notices with
          slots := u.notices.slots ++ [.sag, .recover .forced], circuits := u.notices.circuits + 1,
          restore := u.notices.restore ++ [.sag, .recover .forced] } }) .written))) ∧
    (s.supply.shelf ≠ .normal → exec .relinkAll s = .next (s.judged (s.answered .written)))

/-! ## Slot Sequencer -/

/-- R24: the work of the state a slot leaves is ended, and nothing else. R26: an attempt failure writes its reason;
below the third FULL attempt the slot goes to BOOTING with a reset pulse of 10 ms at the next attempt, and after the
third to FAILED with SLOT_FAILED carrying the reason. BOOT_TIMEOUT (R26, R30) and IDENT_TIMEOUT (R26, R38, R73) each
end the work of their state and fail the attempt with their own reason. An expiry is taken at its time or later (log
entry 2). -/
def Obligations.AttemptFailures : Prop :=
  (∀ (s : State) (n : SlotNo),
      ((s.slot n).state = .booting → s.endWork n =
        (s.setSlot n { s.slot n with bootTimer := none }).setLink n { s.link n with listening := false }) ∧
      (∀ l, (s.slot n).state = .training → (s.slot n).lane = some l → s.endWork n =
        ((s.setSlot n { s.slot n with lane := none }).setLane l none).setLink n { s.link n with exchange := none }) ∧
      ((s.slot n).state = .identify → s.endWork n = s.setLink n { s.link n with exchange := none }) ∧
      ((s.slot n).state = .linked → s.endWork n = { s with notices := { s.notices with
        departLink := s.notices.departLink ++ [n], departCircuits := s.notices.departCircuits ++ [n] } }) ∧
      ((s.slot n).state ∈ [SlotState.empty, .pending, .held, .failed, .mismatch, .offline] → s.endWork n = s)) ∧
  (∀ (s : State) (n : SlotNo) (reason : FailReason),
      ((s.slot n).attempt < 3 → s.failAttempt n reason = s.setSlot n { s.slot n with
        state := .booting, mode := .full, attempt := (s.slot n).attempt + 1, lastFailure := reason,
        pulseTimer := some (s.supply.clock + 10#32), resetOut := true }) ∧
      (3 ≤ (s.slot n).attempt → s.failAttempt n reason =
        (s.setSlot n { s.slot n with state := .failed, lastFailure := reason }).raise
          ⟨.slotFailed, some n, 0#8, none, none, s.supply.episode, s.supply.clock, reason.code.setWidth 32⟩)) ∧
  ((∀ (n : SlotNo) (s : State) (e : Word), s.por = false → (s.slot n).state = .booting →
      (s.slot n).bootTimer = some e → reached s.supply.clock e = true →
      exec (.bootTimeout n) s = .next (s.judged ((s.endWork n).failAttempt n .bootTimeout))) ∧
    (∀ (n : SlotNo) (s : State) (x : Exchange), s.por = false → (s.slot n).state = .identify → s.TimedOut n x →
      x.retry = true → exec (.identTimeout n) s = .next (s.judged ((s.endWork n).failAttempt n .identTimeout))))

/-- CARD_GOOD_DECLARED_GOOD (R18, R23, R27): in EMPTY the slot waits HELD with force FULL while the rail is watched and
otherwise enters BOOTING without reset as FULL attempt 1, its boot wait begun; in OFFLINE only the level is recorded.
CARD_GOOD_DECLARED_LOW (R18, R24, R27, R28, R50): in OFFLINE the level is recorded; from every state but EMPTY and
OFFLINE the slot goes to EMPTY, a LINKED one with SLOT_LOST; the flag "card-good held this episode" is cleared. That
the flag is cleared in OFFLINE too is log entry 16; a raw input that has returned by then opens a new pending change
(log entry 19). R26, R174: a slot that goes to HELD is FULL at attempt 1, like one that goes to BOOTING (log entry 37).
A new setting of the link takes over at the end of the frame being sent (log entry 10). -/
def Obligations.CardGoodDeclarations : Prop :=
  (∀ (n : SlotNo) (s : State), s.por = false →
      (s.card n).StandsFor s.supply.clock s.supply.filterTime .good →
      let u := s.setCard n { s.card n with
        declared := .good, change := if (s.card n).raw = .good then none else some s.supply.clock }
      ((s.slot n).state = .empty → s.watching = true → exec (.cardGoodDeclaredGood n) s = .next
        (s.judged (u.setSlot n { s.slot n with
          cardGood := .good, state := .held, mode := .full, attempt := 1, forceFull := true, forceReset := false }))) ∧
      ((s.slot n).state = .empty → s.watching = false → exec (.cardGoodDeclaredGood n) s = .next
        (s.judged ((u.setSlot n { s.slot n with
          cardGood := .good, state := .booting, mode := .full, attempt := 1,
          bootTimer := some (s.supply.clock + BitVec.ofNat 32 (s.path.captured.bootLimit.toNat * 100)) }).setLink n
            { (s.link n).finishFrame s.supply.now with listening := true, workingRate := (s.sl0 n).rate }))) ∧
      ((s.slot n).state = .offline → exec (.cardGoodDeclaredGood n) s = .next
        (s.judged (u.setSlot n { s.slot n with cardGood := .good })))) ∧
  (∀ (n : SlotNo) (s : State), s.por = false →
      (s.card n).StandsFor s.supply.clock s.supply.filterTime .low →
      let u := (s.setCard n { s.card n with
        declared := .low, change := if (s.card n).raw = .low then none else some s.supply.clock }).setSlot n
          { s.slot n with cardGood := .low, cgHeld := false }
      let empty := fun v : State => v.setSlot n { v.slot n with
        state := .empty, pulseTimer := none, resetOut := false, forceFull := false, forceReset := false }
      ((s.slot n).state = .offline → exec (.cardGoodDeclaredLow n) s = .next (s.judged u)) ∧
      ((s.slot n).state = .linked → exec (.cardGoodDeclaredLow n) s = .next (s.judged (empty ((u.raise
        ⟨.slotLost, some n, 0#8, none, none, s.supply.episode, s.supply.clock, 1#32⟩).endWork n)))) ∧
      ((s.slot n).state ∉ [SlotState.empty, .offline, .linked] →
        exec (.cardGoodDeclaredLow n) s = .next (s.judged (empty (u.endWork n)))))

/-- SAG_NOTICE_SLOTS (R23, R24, R42): every slot in BOOTING, PENDING, TRAINING, IDENTIFY or LINKED goes to HELD with its
work ended, its pulse running on and its other fields kept; no record is raised and nothing else moves. R103, R105: the
departure notices that are on their way to the Circuit Table then, of slots that left LINKED before, are taken first
(`r`, stated in DepartureNoticeParksTheSlot; log entry 34), so that those on their way afterwards are of the slots that
this sag has moved. That these are sent in the order of the slots' numbers is the model's choice (log entry 40). -/
def Obligations.SagNoticeHoldsEverySlot : Prop :=
  ∀ s : State, s.por = false → s.notices.slots.head? = some .sag →
    let r := s.notices.departCircuits.foldl State.parkSlot s
    ∃ t, exec .sagNoticeSlots s = .next (s.judged t) ∧
    (∀ n, t.slot n = if (s.slot n).state.relinking = true then
        { (s.slot n).unbooted with
          state := .held, lane := if (s.slot n).state = .training then none else (s.slot n).lane }
      else s.slot n) ∧
    (∀ n, t.link n = { r.link n with
      listening := if (s.slot n).state = .booting then false else (r.link n).listening,
      exchange := if (s.slot n).state = .training ∨ (s.slot n).state = .identify then none
        else (r.link n).exchange }) ∧
    (∀ l, t.lane l = if ∃ n, (s.slot n).state = .training ∧ (s.slot n).lane = some l then none else s.lane l) ∧
    t = { r with
      watching := true, slots := t.slots, links := t.links, lanes := t.lanes,
      notices := { s.notices with
        slots := s.notices.slots.tail,
        departLink := s.notices.departLink ++ allSlots.filter fun n => (s.slot n).state == .linked,
        departCircuits := allSlots.filter fun n => (s.slot n).state == .linked } }

/-- RECOVER_NOTICE_SLOTS (R19, R23, R25, R43): every HELD slot moves at once, to BOOTING with reset where force reset
was set or its pulse still runs, and otherwise to PENDING in VERIFY exactly where all six conditions of R19 hold; both
force flags are cleared, the settled condition is judged (R12), and nothing else moves. -/
def Obligations.RecoverNoticeMovesEveryHeldSlot : Prop :=
  ∀ (s : State) (cls : Classification), s.por = false → s.notices.slots.head? = some (.recover cls) →
    ∃ t, exec .recoverNoticeSlots s = .next (s.judged t) ∧
      (∀ n, (s.slot n).state ≠ .held → t.slot n = s.slot n) ∧
      (∀ n, (s.slot n).state = .held → (s.slot n).forceReset = true ∨ (s.slot n).pulseTimer.isSome = true →
        t.slot n = { s.slot n with
          state := .booting, mode := .full, attempt := 1, pulseTimer := some (s.supply.clock + 10#32),
          resetOut := true, forceFull := false, forceReset := false }) ∧
      (∀ n, (s.slot n).state = .held → (s.slot n).forceReset = false → (s.slot n).pulseTimer = none →
        ∀ verify, verify = (decide (cls = .short) && (s.slot n).wasLinked && (s.slot n).cgHeld &&
            !(s.slot n).forceFull && (s.slot n).lastGood.valid &&
            decide ((s.slot n).lastGood.rate = (s.sl0 n).rate)) →
        t.slot n = { s.slot n with
          state := .pending, mode := if verify = true then .verify else .full,
          attempt := if verify = true then 0 else 1, forceFull := false, forceReset := false }) ∧
      t = { s with
        watching := false, slots := t.slots, notices := { s.notices with slots := s.notices.slots.tail },
        judging := { s.judging with recovery := true } }

/-- RESET_PULSE_EXPIRY (R25, R29): the output is deasserted; a slot still BOOTING begins its boot wait with the
captured boot limit, listening at the captured rate; a HELD slot only has its pulse ended. IDLE_FRAME (R29, R69, R75):
in the boot wait the first valid idle frame is alive, and the slot goes to PENDING with mode and attempt unchanged; a
Link Unit that does not listen discards it. An expiry is taken at its time or later (log entry 2). A new setting of the
link takes over at the end of the frame being sent (log entry 10). -/
def Obligations.ResetPulseAndBootWait : Prop :=
  (∀ (n : SlotNo) (s : State) (e : Word), s.por = false → (s.slot n).pulseTimer = some e →
      reached s.supply.clock e = true →
      ((s.slot n).state = .booting → exec (.resetPulseExpiry n) s = .next
        (s.judged ((s.setSlot n { s.slot n with
          pulseTimer := none, resetOut := false,
          bootTimer := some (s.supply.clock + BitVec.ofNat 32 (s.path.captured.bootLimit.toNat * 100)) }).setLink n
            { (s.link n).finishFrame s.supply.now with listening := true, workingRate := (s.sl0 n).rate }))) ∧
      ((s.slot n).state = .held → exec (.resetPulseExpiry n) s = .next
        (s.judged (s.setSlot n { s.slot n with pulseTimer := none, resetOut := false })))) ∧
  (∀ (n : SlotNo) (s : State), s.por = false →
      ((s.slot n).state = .booting → (s.link n).listening = true → exec (.idleFrame n) s = .next
        (s.judged ((s.setSlot n { s.slot n with state := .pending, bootTimer := none }).setLink n
          { s.link n with listening := false }))) ∧
      ((s.link n).listening = false → exec (.idleFrame n) s = .next s))

/-- IDENTITY_REPLY (R35 to R37, R39, R50): found type and revision are recorded either way; a card that does not match
what was captured takes the slot to MISMATCH, a match in VERIFY mode to LINKED, and a match in FULL mode sends the clear
order. CLEAR_ORDER_DONE (R37, R39, R50): the slot enters LINKED, the last-good record written from the lock results. -/
def Obligations.IdentityAndClearOrder : Prop :=
  (∀ (n : SlotNo) (tag : BitVec 8) (type revision : BitVec 16) (s : State) (x : Exchange), s.por = false →
      (s.slot n).state = .identify → s.InFlight n x → x.work = .identityQuery → x.tag = tag →
      let c : SlotContext := { s.slot n with foundType := type, foundRevision := revision }
      let linked : SlotContext := { c with
        state := .linked, lane := none, forceFull := false, forceReset := false,
        lastGood := ⟨c.lock.edge, c.lock.rate, true⟩ }
      let u := s.setLink n { s.link n with exchange := none }
      ((s.slot n).expected ≠ 0#16 → (s.slot n).expected ≠ type →
        exec (.identityReply n tag type revision) s = .next
          (s.judged ((u.setSlot n { c with state := .mismatch, lastGood := { c.lastGood with valid := false } }).raise
            ⟨.slotMismatch, some n, 0#8, none, none, s.supply.episode, s.supply.clock, revision ++ type⟩))) ∧
      ((s.slot n).expected = 0#16 ∨ (s.slot n).expected = type → (s.slot n).mode = .verify →
        exec (.identityReply n tag type revision) s = .next (s.judged ((u.setSlot n linked).raise
          ⟨.slotLinked, some n, 1#8, none, none, s.supply.episode, s.supply.clock, linked.ss1⟩))) ∧
      ((s.slot n).expected = 0#16 ∨ (s.slot n).expected = type → (s.slot n).mode = .full →
        exec (.identityReply n tag type revision) s = .next (s.judged ((u.setSlot n c).send n .clearOrder false)))) ∧
  (∀ (n : SlotNo) (tag : BitVec 8) (s : State) (x : Exchange), s.por = false → (s.slot n).state = .identify →
      s.InFlight n x → x.work = .clearOrder → x.tag = tag →
      let c := s.slot n
      let linked : SlotContext := { c with
        state := .linked, lane := none, forceFull := false, forceReset := false,
        lastGood := ⟨c.lock.edge, c.lock.rate, true⟩ }
      exec (.clearOrderDone n tag) s = .next
        (s.judged (((s.setLink n { s.link n with exchange := none }).setSlot n linked).raise
          ⟨.slotLinked, some n, c.mode.code.setWidth 8, none, none, s.supply.episode, s.supply.clock, linked.ss1⟩)))

/-- LINK_LOSS_DECLARED (R73, R82) and LINK_LOSS (R40, R50): the second timeout of an order frees the link and declares
the loss; the slot then goes to PENDING with SLOT_LOST and the departure notice, in VERIFY where the last-good record
is valid at the captured rate and in FULL otherwise. The order is then no longer marked in flight (log entry 25). An
expiry is taken at its time or later (log entry 2). -/
def Obligations.LinkLossRelinksTheSlot : Prop :=
  (∀ (n : SlotNo) (s : State) (x : Exchange) (o : Order), s.por = false → (s.slot n).state = .linked →
    s.TimedOut n x → x.work = .order o → x.retry = true →
    exec (.linkLossDeclared n) s = .next (s.judged (s.setLink n { s.link n with
      exchange := none, orders := markHead false (s.link n).orders, lossDeclared := true }))) ∧
  (∀ (n : SlotNo) (s : State), s.por = false → (s.slot n).state = .linked → (s.link n).lossDeclared = true →
    ∀ verify, verify = ((s.slot n).lastGood.valid && decide ((s.slot n).lastGood.rate = (s.sl0 n).rate)) →
    exec (.linkLoss n) s = .next (s.judged (State.sendDeparture ((s.raise
      ⟨.slotLost, some n, 0#8, none, none, s.supply.episode, s.supply.clock, 2#32⟩).setSlot n { s.slot n with
        state := .pending, mode := if verify = true then .verify else .full,
        attempt := if verify = true then 0 else 1 }) n)))

/-- RELINK (R46, R49), RELINK_RESET (R25, R47, R49), QUIESCE (R25, R48) and RESUME (R49): the tables of the requests
over the slot states, by the shelf as the Slot Sequencer judges it (R23) and, for RESUME, by the recorded card-good
level. Nothing is stated of a slot that R23 says cannot occur while the rail is watched (log entry 28). R26: a request
that moves a slot to HELD makes it FULL at attempt 1; one that finds it in HELD, and a RESUME that leads to EMPTY, leave
mode and attempt as they are (R42, R158; log entry 37). A new setting of the link takes over at the end of the frame
being sent (log entry 10). -/
def Obligations.SlotRequestsByState : Prop :=
  (∀ (n : SlotNo) (s : State), s.PortFree →
      let pending := fun v : State => v.setSlot n { v.slot n with state := .pending, mode := .full, attempt := 1 }
      ((s.slot n).state = .linked → s.watching = false →
        exec (.relink n) s = .next (s.judged ((pending (s.endWork n)).answered .written))) ∧
      ((s.slot n).state ∈ [SlotState.failed, .mismatch] → s.watching = false →
        exec (.relink n) s = .next (s.judged ((pending s).answered .written))) ∧
      ((s.slot n).state ∈ [SlotState.failed, .mismatch] → s.watching = true →
        exec (.relink n) s = .next (s.judged ((s.setSlot n { s.slot n with
          state := .held, mode := .full, attempt := 1, forceFull := true }).answered .written))) ∧
      ((s.slot n).state = .held →
        exec (.relink n) s = .next (s.judged ((s.setSlot n { s.slot n with forceFull := true }).answered .written))) ∧
      ((s.slot n).state ∈ [SlotState.empty, .booting, .pending, .training, .identify, .offline] →
        exec (.relink n) s = .next (s.judged (s.answered .written)))) ∧
  (∀ (n : SlotNo) (s : State), s.PortFree →
      ((s.slot n).state ∈ [SlotState.linked, .failed, .mismatch, .booting, .pending, .training, .identify] →
        s.watching = false → exec (.relinkReset n) s = .next (s.judged (State.answered ((s.endWork n).setSlot n
          { (s.endWork n).slot n with
            state := .booting, mode := .full, attempt := 1, pulseTimer := some (s.supply.clock + 10#32),
            resetOut := true }) .written))) ∧
      ((s.slot n).state ∈ [SlotState.failed, .mismatch] → s.watching = true →
        exec (.relinkReset n) s = .next (s.judged ((s.setSlot n { s.slot n with
          state := .held, mode := .full, attempt := 1, forceFull := true, forceReset := true }).answered .written))) ∧
      ((s.slot n).state = .held → exec (.relinkReset n) s = .next
        (s.judged ((s.setSlot n { s.slot n with forceFull := true, forceReset := true }).answered .written))) ∧
      ((s.slot n).state ∈ [SlotState.empty, .offline] →
          exec (.relinkReset n) s = .next (s.judged (s.answered .written)))) ∧
  (∀ (n : SlotNo) (s : State), s.PortFree →
      ((s.slot n).state ≠ .offline → exec (.quiesce n) s = .next (s.judged (State.answered ((s.endWork n).setSlot n
        { (s.endWork n).slot n with
          state := .offline, pulseTimer := none, resetOut := true, forceFull := false, forceReset := false }) .written))) ∧
      ((s.slot n).state = .offline → exec (.quiesce n) s = .next (s.judged (s.answered .written))) ∧
      ((s.slot n).state ≠ .offline → exec (.resume n) s = .next (s.judged (s.answered .written))) ∧
      ((s.slot n).state = .offline → (s.slot n).cardGood = .low → exec (.resume n) s = .next
        (s.judged ((s.setSlot n { s.slot n with state := .empty, resetOut := false }).answered .written))) ∧
      ((s.slot n).state = .offline → (s.slot n).cardGood = .good → s.watching = true → exec (.resume n) s = .next
        (s.judged ((s.setSlot n { s.slot n with
          state := .held, mode := .full, attempt := 1, resetOut := false, forceFull := true,
          forceReset := false }).answered .written))) ∧
      ((s.slot n).state = .offline → (s.slot n).cardGood = .good → s.watching = false → exec (.resume n) s = .next
        (s.judged (((s.setSlot n { s.slot n with
          state := .booting, resetOut := false, mode := .full, attempt := 1,
          bootTimer := some (s.supply.clock + BitVec.ofNat 32 (s.path.captured.bootLimit.toNat * 100)) }).setLink n
            { (s.link n).finishFrame s.supply.now with listening := true, workingRate := (s.sl0 n).rate }).answered .written))))

/-! ## Link training -/

/-- LANE_GRANT (R24, R31, R33, R52, R54, R65). The waiting slot with the lowest relink level, the lowest number among
equals, is given the lowest idle lane and starts its sweep at once; a VERIFY sweep whose last-good rate does not match
is a failure with NO_EDGE and goes on as FULL at attempt 1 on the same lane. With no slot waiting or no lane idle there
is no grant. The departure notices of the winner that are still on their way are taken first, since R24 ends the work
of LINKED before the slot takes new work, and between them the sag notices that the Circuit Table has not taken and the
Slot Sequencer has (R105, log entry 6); what taking them does is stated in DepartureEmptiesTheLink,
SagNoticeParksEveryEntry and DepartureNoticeParksTheSlot. A new setting of the link takes over at the end of the frame
being sent (log entry 10). -/
def Obligations.LaneGrantServesLowestLevelFirst : Prop :=
  (∀ (s : State) (n : SlotNo) (l : LaneNo), s.por = false → (s.slot n).state = .pending →
    (∀ m, (s.slot m).state = .pending → (s.sl0 n).relinkLevel < (s.sl0 m).relinkLevel ∨
      ((s.sl0 n).relinkLevel = (s.sl0 m).relinkLevel ∧ n ≤ m)) →
    s.lane l = none → (∀ k, s.lane k = none → l ≤ k) →
    let v := if n ∈ s.notices.departLink then s.departLink n else s
    let late := s.notices.circuits - s.notices.slots.count .sag
    let w := Nat.repeat State.takeSagCircuits late v
    let u := if n ∈ w.notices.departCircuits then w.parkSlot n else w
    let start := fun (c : SlotContext) (mode : Mode) (tap : Tap) =>
      State.send (((u.setSlot n c).setLane l (some (s.freshSweep n mode))).setLink n
        { (u.link n).finishFrame s.supply.now with workingRate := (s.sl0 n).rate }) n (.probe tap) false
    let c : SlotContext := { s.slot n with state := .training, lane := some l }
    let known : Prop := (s.slot n).lastGood.valid = true ∧ (s.slot n).lastGood.rate = (s.sl0 n).rate
    ((s.slot n).mode = .full → exec .laneGrant s = .next (s.judged (start c .full 0#6))) ∧
    ((s.slot n).mode = .verify → known →
      exec .laneGrant s = .next (s.judged (start c .verify ((s.slot n).lastGood.edge - 4#6)))) ∧
    ((s.slot n).mode = .verify → ¬known → exec .laneGrant s = .next (s.judged
      (start { c with lastFailure := .noEdge, mode := .full, attempt := 1 } .full 0#6)))) ∧
  (∀ s : State, s.por = false → (∀ n, (s.slot n).state ≠ .pending) ∨ (∀ l, s.lane l ≠ none) →
    exec .laneGrant s = .next s)

/-- SAMPLE_REPLY and PROBE_TIMEOUT before the end of a sweep (R54, R55): the sample, 0 for a timeout, is counted, and
the next probe goes to the same tap, or after the eighth to the next position with the reading recorded. R56: the
reading of a tap from its ones-count. An expiry is taken at its time or later (log entry 2). -/
def Obligations.ProbesWalkThroughTheSweep : Prop :=
  (∀ (n : SlotNo) (l : LaneNo) (w : Sweep) (s : State) (x : Exchange) (tap : Tap) (bit : Bool) (c : Instr),
      s.por = false → s.Sweeping n l w → s.InFlight n x → x.work = .probe tap →
      (c = .sampleReply n x.tag bit ∨ (c = .probeTimeout n ∧ bit = false ∧ s.supply.microReached x.expiry = true)) →
      let ones := w.ones + if bit = true then 1 else 0
      let next := fun w' : Sweep => State.send ((s.setLink n { s.link n with exchange := none }).setLane l (some w')) n
        (.probe (tapAt w'.centre w'.position)) false
      (w.probe < 8 → exec c s = .next (s.judged (next { w with probe := w.probe + 1, ones := ones }))) ∧
      (8 ≤ w.probe → w.position + 1 < w.mode.positions → exec c s = .next (s.judged (next { w with
        position := w.position + 1, probe := 1, ones := 0, readings := w.readings ++ [readingOf ones] })))) ∧
  (∀ n : Nat, n ≤ 8 → (readingOf n = .high ↔ n = 6 ∨ n = 7 ∨ n = 8) ∧
      (readingOf n = .unsure ↔ n = 3 ∨ n = 4 ∨ n = 5) ∧ (readingOf n = .low ↔ n = 0 ∨ n = 1 ∨ n = 2))

/-- SAMPLE_REPLY and PROBE_TIMEOUT at the end of a sweep (R32 to R35, R57 to R65): a lock within the spread limit takes
the slot to IDENTIFY; a failed VERIFY sweep goes on as a FULL sweep on the same lane; a failed FULL sweep releases its
lane and fails the attempt. An expiry is taken at its time or later (log entry 2). A new setting of the link takes over
at the end of the frame being sent (log entry 10). -/
def Obligations.SweepsLockOrFail : Prop :=
  ∀ (n : SlotNo) (l : LaneNo) (w : Sweep) (s : State) (x : Exchange) (tap : Tap) (bit : Bool) (c : Instr),
    s.por = false → s.Sweeping n l w → s.InFlight n x → x.work = .probe tap →
    (c = .sampleReply n x.tag bit ∨ (c = .probeTimeout n ∧ bit = false ∧ s.supply.microReached x.expiry = true)) →
    8 ≤ w.probe → w.mode.positions ≤ w.position + 1 →
    let found := findEdge (w.readings ++ [readingOf (w.ones + if bit = true then 1 else 0)]) w.mode
    let spread := fun h p => edgeSpread (tapAt w.centre p) (tapAt w.centre h)
    let limit := s.path.captured.spreadLimit.toNat
    let freed : LinkUnit := { s.link n with exchange := none }
    (∀ reason, (found = none ∧ reason = .noEdge) ∨ (∃ h p, found = some (h, p) ∧ limit < spread h p ∧
        reason = .spread) →
      (w.mode = .full → exec c s = .next
          (s.judged (State.failAttempt (((s.setSlot n { s.slot n with lane := none }).setLane l
        none).setLink n { s.link n with exchange := none }) n reason))) ∧
      (w.mode = .verify → exec c s = .next (s.judged (State.send (((s.setSlot n { s.slot n with
          lastFailure := reason, mode := .full, attempt := 1 }).setLane l (some (s.freshSweep n .full))).setLink n
        { freed.finishFrame s.supply.now with workingRate := (s.sl0 n).rate }) n (.probe 0#6) false)))) ∧
    (∀ h p, found = some (h, p) → spread h p ≤ limit →
      let edge := edgeTap (tapAt w.centre p) (tapAt w.centre h)
      let drift := driftOf (s.slot n).lastGood w.rate edge
      let k : LockResults := ⟨edge, lockTap edge w.margin, spread h p, drift, w.rate⟩
      let v := if s.path.captured.driftLimit ≠ 0#5 ∧ s.path.captured.driftLimit.toNat < drift.natAbs then
          s.raise ⟨.drift, some n, w.mode.code.setWidth 8, none, none, s.supply.episode, s.supply.clock,
            driftValue drift edge⟩
        else s
      exec c s = .next (s.judged (State.send (((v.setSlot n { s.slot n with
          state := .identify, lane := none, lock := k, expected := (s.sl0 n).expectedType }).setLane l none).setLink n
        { freed.finishFrame s.supply.now with workingRate := w.rate, workingTap := k.lockTap }) n .identityQuery false)))

/-- R57: a FULL search answers the first tap that qualifies, with its LOW tap, and none where no tap qualifies. R58: a
VERIFY search does so over the positions of the window, without wrapping. R59, R61: the spread lies from 0 to 62, 0 to 7
in a VERIFY window; the drift is the signed cyclic distance from the last-good edge, from -32 to 31, and from -3 to 4 in
a VERIFY sweep; it is 0 where the last-good record is invalid or was won at the other rate. -/
def Obligations.SearchesFindTheFirstEdge : Prop :=
  (∀ (r : List Reading),
      (∀ h p, findEdge r .full = some (h, p) ↔ FullEdge r h p ∧ ∀ h' p', h' < h → ¬FullEdge r h' p') ∧
      (findEdge r .full = none ↔ ∀ h p, ¬FullEdge r h p)) ∧
  (∀ (r : List Reading),
      (∀ k j, findEdge r .verify = some (k, j) ↔ VerifyEdge r k j ∧ ∀ k' j', k' < k → ¬VerifyEdge r k' j') ∧
      (findEdge r .verify = none ↔ ∀ k j, ¬VerifyEdge r k j)) ∧
  ((∀ (low high : Tap), low ≠ high → edgeSpread low high + 1 = (high.toNat + 64 - low.toNat) % 64 ∧
      edgeSpread low high ≤ 62) ∧
    (∀ (g : LastGood) (rate : Rate) (e : Tap), -32 ≤ driftOf g rate e ∧ driftOf g rate e ≤ 31 ∧
      (g.valid = true → g.rate = rate → driftOf g rate e = ((e.toNat : Int) - g.edge.toNat + 32) % 64 - 32) ∧
      (g.valid = false ∨ g.rate ≠ rate → driftOf g rate e = 0)) ∧
    (∀ (g : LastGood) (j k : Nat), g.valid = true → j < k → k ≤ 8 →
      let low := tapAt (some g.edge) j
      let high := tapAt (some g.edge) k
      edgeSpread low high ≤ 7 ∧ -3 ≤ driftOf g g.rate (edgeTap low high) ∧ driftOf g g.rate (edgeTap low high) ≤ 4))

/-- R60: the edge is the middle of the step, at the tap nearer to HIGH where it falls between two; it is one of the taps
after LOW up to HIGH, in a VERIFY window a position after its first; the lock tap is the margin past the edge. -/
def Obligations.EdgeIsTheMiddleOfTheStep : Prop :=
  (∀ (low high : Tap), low ≠ high →
    let d := (high.toNat + 64 - low.toNat) % 64
    (edgeTap low high).toNat = (low.toNat + (d + 1) / 2) % 64 ∧ 1 ≤ (d + 1) / 2 ∧ (d + 1) / 2 ≤ d ∧
      (d = 1 → edgeTap low high = high)) ∧
  (∀ (g : Tap) (j k : Nat), j < k → k ≤ 8 →
    ∃ i, 1 ≤ i ∧ j < i ∧ i ≤ k ∧ edgeTap (tapAt (some g) j) (tapAt (some g) k) = tapAt (some g) i) ∧
  (∀ (e : Tap) (m : BitVec 5), (lockTap e m).toNat = (e.toNat + m.toNat) % 64)

/-! ## Link Units -/

/-- CHOOSE_NEXT_EXCHANGE (R68, R70, R72, R79, R83): on a LINKED slot with a free link and no loss declared, a window
request goes before the order at the head of the list; the exchange takes the next tag, and its timer of 500 µs or 2 ms
starts when the last bit of the request has been sent. EXCHANGE_RETRY (R68, R72, R73): at the first timeout an identity
query, a clear order or an order is sent again with a fresh tag and a new 2 ms timer; a probe or a register exchange is
not. An expiry is taken at its time or later (log entry 2). That a started exchange counts as in flight while the frame
before its request is being sent is log entry 10. R68: a frame the part sends ends in the check over its kind, tag and
body, and has the length of its kind (the bits of a field and the order of two ports are log entry 9, the form of the
division log entry 38). R55, R67, R68, R75, R83, R172: what the transmit pair of a link carries, with times in
sixteenths of a microsecond. While power-on reset is asserted it is in the idle line state. Otherwise idle frames of 24
bits follow one another; a request frame begins at the end of the idle frame being sent, or of the request before it,
takes its bits at the working rate, and idle frames follow with no gap. The frame on the pair is sent to its end as it
was begun. The strobe of a probe is delayed by the tap it names, for the duration of its exchange, and otherwise by the
working tap (what that is between a sweep start and the next lock is log entry 17). When in its microsecond a request is
sent, and that a frame begun or placed is sent to its end, is log entry 10. -/
def Obligations.ExchangesStartAndRetry : Prop :=
  (∀ (n : SlotNo) (s : State), s.por = false → (s.slot n).state = .linked → (s.link n).exchange = none →
      (s.link n).lossDeclared = false →
      let l := s.link n
      let started := fun (work : Work) (bits timeout : Nat) => some (Exchange.mk work l.nextTag false
        (s.supply.microExpiry ((l.frameEnds s.supply.now + frameTime l.workingRate bits) / 16 - s.supply.elapsed)
          timeout))
      (∀ w, l.window = some w → let work : Work := .register w.op w.index
        exec (.chooseNextExchange n) s = .next (s.judged (s.setLink n { l.transmit s.supply.now work with
          window := some { w with inFlight := true }, nextTag := l.nextTag + 1#8,
          exchange := started work (match w.op with | .read => 48 | .write _ _ => 88) 500 }))) ∧
      (∀ o rest, l.window = none → l.orders = o :: rest → let work : Work := .order { o with inFlight := true }
        exec (.chooseNextExchange n) s = .next (s.judged (s.setLink n { l.transmit s.supply.now work with
          orders := { o with inFlight := true } :: rest, nextTag := l.nextTag + 1#8,
          exchange := started work (match o.kind with | .connect => 72 | .release => 48) 2000 }))) ∧
      (l.window = none → l.orders = [] → exec (.chooseNextExchange n) s = .next (s.judged s))) ∧
  (∀ (n : SlotNo) (s : State) (x : Exchange), s.por = false → s.TimedOut n x → x.retry = false →
      let l := s.link n
      let again := fun bits => s.setLink n { l.transmit s.supply.now x.work with
        nextTag := l.nextTag + 1#8,
        exchange := some ⟨x.work, l.nextTag, true, s.supply.microExpiry
          ((l.frameEnds s.supply.now + frameTime l.workingRate bits) / 16 - s.supply.elapsed) 2000⟩ }
      (x.work = .identityQuery ∨ x.work = .clearOrder → exec (.exchangeRetry n) s = .next (s.judged (again 32))) ∧
      (∀ o, x.work = .order o → o.kind = .connect → exec (.exchangeRetry n) s = .next (s.judged (again 72))) ∧
      (∀ o, x.work = .order o → o.kind = .release → exec (.exchangeRetry n) s = .next (s.judged (again 48))) ∧
      ((∃ tap, x.work = .probe tap) ∨ (∃ op index, x.work = .register op index) →
        exec (.exchangeRetry n) s = .next s)) ∧
  (∀ (w : Work) (tag : BitVec 8), (w.frame tag).length = requestBits w ∧ idleFrame.length = 24 ∧
      w.frame tag = checkedBits w.kind tag w.body ++ fieldBits (frameCheck (checkedBits w.kind tag w.body))) ∧
  (∀ (n : SlotNo) (s : State),
      (s.por = true → s.linkLine n = .idleLine) ∧
      (s.por = false → (∀ f ∈ (s.link n).line, f.ends ≤ s.supply.now) →
        s.linkLine n = .frame (s.link n).workingRate (s.link n).strobe idleFrame) ∧
      (s.por = false → ∀ sent f rest, (s.link n).line = sent ++ f :: rest → (∀ g ∈ sent, g.ends ≤ s.supply.now) →
        s.supply.now < f.ends → s.linkLine n = .frame f.rate f.strobe f.bits)) ∧
  (∀ (l : LinkUnit) (t : Nat),
      let idle := match l.workingRate with | .std => 96 | .fast => 24
      (t ≤ l.idleFrom → l.frameEnds t = l.idleFrom) ∧
      (l.idleFrom < t → ∃ k, l.frameEnds t = l.idleFrom + k * idle ∧ t ≤ l.frameEnds t ∧ l.frameEnds t < t + idle) ∧
      ((∀ f ∈ l.line, f.ends ≤ l.idleFrom) → l.line.Pairwise (fun f g => f.ends < g.ends) →
        (∀ f ∈ (l.finishFrame t).line, f.ends ≤ (l.finishFrame t).idleFrom) ∧
        (l.finishFrame t).line.Pairwise (fun f g => f.ends < g.ends) ∧
        (l.finishFrame t).frameEnds t = l.frameEnds t ∧
        ∀ w : Work, (∀ f ∈ (l.transmit t w).line, f.ends ≤ (l.transmit t w).idleFrom) ∧
          (l.transmit t w).line.Pairwise (fun f g => f.ends < g.ends)) ∧
      ((∀ f ∈ l.line, f.ends ≤ t) → l.idleFrom ≤ t → l.exchange = none → ∀ (rate : Rate) (tap : Tap) (t' : Nat), t ≤ t' →
        let m : LinkUnit := { l.finishFrame t with workingRate := rate, workingTap := tap }
        (t' < l.frameEnds t → m.lineAt t' = .frame l.workingRate l.workingTap idleFrame) ∧
        (l.frameEnds t ≤ t' → m.lineAt t' = .frame rate tap idleFrame))) ∧
  (∀ (n : SlotNo) (s : State) (w : Work) (retry : Bool) (k : Nat), s.por = false →
      (∀ f ∈ (s.link n).line, f.ends ≤ s.supply.now) → (s.link n).idleFrom ≤ s.supply.now →
      let l := s.link n
      let u := s.send n w retry
      let later := { u with supply := { s.supply with elapsed := s.supply.elapsed + k } }
      let time := later.supply.now
      let begins := l.frameEnds s.supply.now
      let ends := begins + (w.frame l.nextTag).length * (match l.workingRate with | .std => 4 | .fast => 1)
      let tap := match w with | .probe tap => tap | _ => l.workingTap
      (time < begins → later.linkLine n = .frame l.workingRate l.strobe idleFrame) ∧
      (begins ≤ time → time < ends → later.linkLine n = .frame l.workingRate tap (w.frame l.nextTag)) ∧
      (ends ≤ time → later.linkLine n = .frame l.workingRate tap idleFrame))

/-- DISCARDED_FRAME (R68, R69): a frame that fails any of the five tests has no effect. Its check fails where the frame
was cut short, where its kind is neither idle nor a reply, where the card sends at another rate than the working rate,
and where the check computed over kind, tag and body is not the check received (the bits of a field are log entry 9, the
form of the division log entry 38). -/
def Obligations.DiscardedFramesHaveNoEffect : Prop :=
  ∀ (n : SlotNo) (f : RxFrame) (s : State),
    (f.content = .cutShort ∨
      f.content = .otherKind ∨
      f.rate ≠ (s.link n).workingRate ∨
      (∃ kind, f.content.kind = some kind ∧ frameCheck (checkedBits kind f.tag f.content.body) ≠ f.check) ∨
      (f.content = .idle ∧ (s.link n).listening = false) ∨
      (f.content ≠ .idle ∧ (s.link n).exchange = none) ∨
      (f.content ≠ .idle ∧ ∃ x, (s.link n).exchange = some x ∧ x.tag ≠ f.tag) ∨
      (f.content ≠ .idle ∧ ∃ x, (s.link n).exchange = some x ∧ completes x.work f.content = false)) →
    exec (.discardedFrame n f) s = .next s

/-- DEPARTURE_NOTICE_LINK (R81, R84, R135): the Link Unit ends its work for LINKED: an order or register exchange is
abandoned, the window request ends, a claimed one completing the held cycle as a refusal without a record, and every
order is removed and handed back, oldest first. What the port returned stands in the model's record of its last answer
(log entry 22). -/
def Obligations.DepartureEmptiesTheLink : Prop :=
  ∀ (n : SlotNo) (s : State), s.por = false → n ∈ s.notices.departLink →
    let l := s.link n
    let u := { s with notices := { s.notices with departLink := s.notices.departLink.erase n } }.setLink n { l with
      exchange := l.exchange.filter fun x => match x.work with
        | .order _ => false
        | .register _ _ => false
        | _ => true
      window := none, orders := [], lossDeclared := false }
    (l.window = none → exec (.departureNoticeLink n) s = .next (s.judged (l.orders.foldl (State.handBack n) u))) ∧
    (∀ w, l.window = some w → w.claimed = false → exec (.departureNoticeLink n) s = .next
      (s.judged (l.orders.foldl (State.handBack n) { u with path := { u.path with marker := false } }))) ∧
    (∀ w, l.window = some w → w.claimed = true → exec (.departureNoticeLink n) s = .next
      (s.judged (l.orders.foldl (State.handBack n) { u with path := { u.path with
        marker := false, ctrl := .idle,
        answer := match w.op with | .read => .data 0xFFFFFFFF#32 | .write _ _ => .written } })))

/-! ## Circuit Table -/

/-- R86, R88 to R90, R102: writing an entry changes that entry and moves each count by its move into or out of a state;
an entry that becomes IDLE keeps its captured word and tag, leaves the age list, and frees its two endpoints and no
other. -/
def Obligations.EntryWritesAndBecomingIdle : Prop :=
  ∀ (s : State) (i : EntryNo), CountsOk s →
    (∀ e j, (s.putEntry i e).entry j = if j = i then e else s.entry j) ∧
    (∀ e, (s.putEntry i e).circuits.waiting + (if (s.entry i).state = .waiting then 1 else 0) =
        s.circuits.waiting + (if e.state = .waiting then 1 else 0) ∧
      (s.putEntry i e).circuits.live + (if (s.entry i).state = .live then 1 else 0) =
        s.circuits.live + (if e.state = .live then 1 else 0) ∧
      (s.putEntry i e).circuits.faulted + (if (s.entry i).state = .faulted then 1 else 0) =
        s.circuits.faulted + (if e.state = .faulted then 1 else 0) ∧
      (s.putEntry i e).restore.restoring + (if (s.entry i).state = .restoring then 1 else 0) =
        s.restore.restoring + (if e.state = .restoring then 1 else 0)) ∧
    (s.becomeIdle i).entry i = { s.entry i with
      state := .idle, outcome := .released, doneA := false, doneB := false, releaseAfter := false, markA := .none,
      markB := .none } ∧
    (∀ j, j ≠ i → (s.becomeIdle i).entry j = s.entry j) ∧
    (s.becomeIdle i).circuits.ageList = s.circuits.ageList.erase i ∧
    (∀ p, (s.becomeIdle i).holder p =
      if p = (s.entry i).fields.a ∨ p = (s.entry i).fields.b then none else s.holder p)

/-- CONNECT (R86, R88, R89, R91 to R93). A partial write gives PARTIAL_WRITE; to an IDLE entry an endpoint off the
shelf or one port twice gives BAD_ENDPOINT, a held endpoint PORT_IN_USE, and otherwise the word is captured, the entry
WAITING with the next admission tag at the tail of the age list and in the index; outside IDLE it gives BUSY, with the
request code captured where the fields are the same. R103: a departure notice due at the entry is taken first (`r`,
stated in DepartureNoticeParksTheSlot; log entry 34). -/
def Obligations.ConnectAdmitsOrRefuses : Prop :=
  ∀ (i : EntryNo) (f : RequestFields) (enables : ByteEnables) (s : State), s.PortFree →
    let r := s.reachEntry i
    let refused := fun o => (r.putEntry i { r.entry i with outcome := o }).answered .written
    let off := 24 ≤ f.a.slot.toNat ∨ 24 ≤ f.b.slot.toNat ∨ f.a = f.b
    let held := (r.holder f.a).isSome = true ∨ (r.holder f.b).isSome = true
    (enables ≠ 15#4 → exec (.connect i f enables) s = .next (s.judged (refused .partialWrite))) ∧
    (enables = 15#4 → (r.entry i).state = .idle → off →
        exec (.connect i f enables) s = .next (s.judged (refused .badEndpoint))) ∧
    (enables = 15#4 → (r.entry i).state = .idle → ¬off → held →
      exec (.connect i f enables) s = .next (s.judged (refused .portInUse))) ∧
    (enables = 15#4 → (r.entry i).state = .idle → ¬off → ¬held →
        ∃ t, exec (.connect i f enables) s = .next (s.judged t) ∧
      t.entry i = { Entry.initial with
        code := .connect, fields := f, state := .waiting, outcome := .accepted, tag := r.circuits.admissions } ∧
      (∀ j, j ≠ i → t.entry j = r.entry j) ∧
      (∀ p, t.holder p = if p = f.a ∨ p = f.b then some i else r.holder p) ∧
      t.circuits = { r.circuits with
        entries := t.circuits.entries, index := t.circuits.index, ageList := r.circuits.ageList ++ [i],
        admissions := r.circuits.admissions + 1#16, waiting := r.circuits.waiting + 1 } ∧
      t = { r with circuits := t.circuits, path := { r.path with ctrl := .idle, answer := .written } }) ∧
    (enables = 15#4 → (r.entry i).state ≠ .idle → (r.entry i).fields ≠ f →
      exec (.connect i f enables) s = .next (s.judged (refused .busy))) ∧
    (enables = 15#4 → (r.entry i).state ≠ .idle → (r.entry i).fields = f → exec (.connect i f enables) s = .next
      (s.judged ((r.putEntry i { r.entry i with code := .connect, outcome := .busy }).answered .written)))

/-- RELEASE (R91 to R95) by the state of the entry; a WAITING or FAULTED entry without marks becomes IDLE, a LIVE one
appends its release orders. NONE_REQUEST and BAD_REQUEST (R91 to R93). R103: a departure notice due at the entry is
taken first (`r`, stated in DepartureNoticeParksTheSlot; log entry 34). -/
def Obligations.ReleaseNoneAndBadRequests : Prop :=
  (∀ (i : EntryNo) (f : RequestFields) (enables : ByteEnables) (s : State), s.PortFree →
      let r := s.reachEntry i
      let e : Entry := { r.entry i with code := .release }
      let same := enables = 15#4 ∧ (r.entry i).fields = f
      let unmarked := (r.entry i).markA = .none ∧ (r.entry i).markB = .none
      let gives := fun t : State => exec (.release i f enables) s = .next (s.judged (t.answered .written))
      (enables ≠ 15#4 → gives (r.putEntry i { r.entry i with outcome := .partialWrite })) ∧
      (enables = 15#4 → (r.entry i).state = .idle →
        gives (r.putEntry i { e with fields := f, outcome := .nothingToRelease })) ∧
      (enables = 15#4 → (r.entry i).state ≠ .idle → (r.entry i).fields ≠ f →
        gives (r.putEntry i { r.entry i with outcome := .busy })) ∧
      (same → (r.entry i).state = .waiting ∨ (r.entry i).state = .faulted → unmarked →
        gives ((r.putEntry i e).becomeIdle i)) ∧
      (same → (r.entry i).state = .waiting → ¬unmarked → gives ((r.putEntry i e).putEntry i { e with
        state := .releasing, outcome := .accepted,
        markA := if e.markA = .lateConnect then .connectThenRelease else e.markA,
        markB := if e.markB = .lateConnect then .connectThenRelease else e.markB })) ∧
      (same → (r.entry i).state = .restoring →
        gives ((r.putEntry i e).putEntry i { e with releaseAfter := true, outcome := .accepted })) ∧
      (same → (r.entry i).state = .live → gives (((r.putEntry i e).putEntry i { e with
        state := .releasing, outcome := .accepted, releaseAfter := false, markA := .release, markB := .release }
        ).appendBoth i .release)) ∧
      (same → (r.entry i).state = .releasing → gives ((r.putEntry i e).putEntry i { e with outcome := .accepted })) ∧
      (same → (r.entry i).state = .faulted → ¬unmarked →
        gives ((r.putEntry i e).putEntry i { e with state := .releasing, outcome := .accepted }))) ∧
  (∀ (i : EntryNo) (f : RequestFields) (enables : ByteEnables) (s : State), s.PortFree →
      let r := s.reachEntry i
      let write := fun e => (r.putEntry i e).answered .written
      (enables ≠ 15#4 → exec (.noneRequest i f enables) s = .next
          (s.judged (write { r.entry i with outcome := .partialWrite })) ∧
        exec (.badRequest i enables) s = .next (s.judged (write { r.entry i with outcome := .partialWrite }))) ∧
      (enables = 15#4 → exec (.badRequest i enables) s = .next
          (s.judged (write { r.entry i with outcome := .badRequest }))) ∧
      (enables = 15#4 → (r.entry i).state = .idle → exec (.noneRequest i f enables) s = .next
        (s.judged (write { r.entry i with code := .none, fields := f, outcome := .none }))) ∧
      (enables = 15#4 → (r.entry i).state ≠ .idle → (r.entry i).fields ≠ f → exec (.noneRequest i f enables) s = .next
        (s.judged (write { r.entry i with outcome := .busy }))) ∧
      (enables = 15#4 → (r.entry i).state ≠ .idle → (r.entry i).fields = f → exec (.noneRequest i f enables) s = .next
        (s.judged (write { r.entry i with code := .none }))))

/-- R70, R76, R77: orders are appended to the tails of the lists of LINKED slots, one naming both ports where both
endpoints lie on one slot and otherwise one for each endpoint, a connect order naming the other endpoint as its peer and
carrying the class; an order appended to a slot that is not LINKED is handed straight back. R77, R81, R87, R101, R103: a
connect order handed back as not carried out clears the connect mark it finds, a release order handed back counts as
done, and an order that no mark expects, or that names no endpoint of its entry by slot and port, leaves the entry as it
is. That a connect order handed back against "connect, then release" clears the mark only, so that a RELEASING entry
left with no mark stays RELEASING until its slot's departure notice parks it, is log entry 29. R78, R99: a connect order
withdrawn is removed from its place where it is not in flight. Each clause is stated for an order of one port and for an
order of both. -/
def Obligations.OrdersAppendedWithdrawnHandedBack : Prop :=
  (∀ (s : State) (i : EntryNo) (kind : OrderKind) (na nb : SlotNo),
      let f := (s.entry i).fields
      let cls := if kind = .connect then some f.cls else none
      let peer := fun p : Endpoint => if kind = .connect then some p else none
      let add := fun (t : State) (n : SlotNo) (o : Order) => t.setLink n { t.link n with orders := (t.link n).orders ++ [o] }
      let forA : Order := ⟨kind, i, .one .a, f.a.port, none, peer f.b, cls, false⟩
      let forB : Order := ⟨kind, i, .one .b, f.b.port, none, peer f.a, cls, false⟩
      let forBoth : Order := ⟨kind, i, .both, f.a.port, some f.b.port, none, cls, false⟩
      f.a.slot.toNat = na.val → f.b.slot.toNat = nb.val →
      ((s.slot na).state = .linked → (s.slot nb).state = .linked →
        (na ≠ nb → s.appendBoth i kind = add (add s na forA) nb forB) ∧
        (na = nb → s.appendBoth i kind = add s na forBoth)) ∧
      ((s.slot na).state ≠ .linked → s.appendOrder i kind (.one .a) = State.handBack na s forA ∧
        (na = nb → s.appendBoth i kind = State.handBack na s forBoth)) ∧
      ((s.slot nb).state ≠ .linked → s.appendOrder i kind (.one .b) = State.handBack nb s forB)) ∧
  (∀ (s : State) (n : SlotNo) (o : Order),
      let e := s.entry o.entry
      let back := State.handBack n s o
      (¬o.NamesOn n e → back = s) ∧
      (∀ x, o.ends = .one x → o.NamesOn n e →
        let freed := (e.setMark x .none).setDone x false
        (o.kind = .connect → e.mark x ∈ [Mark.connect, .lateConnect, .connectThenRelease] →
          back = s.putEntry o.entry (e.setMark x .none)) ∧
        (o.kind = .connect → e.mark x ∈ [Mark.none, .release] → back = s) ∧
        (o.kind = .release → e.mark x ≠ .release → back = s) ∧
        (o.kind = .release → e.mark x = .release → e.state = .releasing → e.mark x.other = .none →
          back = (s.putEntry o.entry freed).becomeIdle o.entry) ∧
        (o.kind = .release → e.mark x = .release → e.state ≠ .releasing ∨ e.mark x.other ≠ .none →
          back = s.putEntry o.entry freed)) ∧
      (o.ends = .both → o.NamesOn n e → e.markA = e.markB →
        let freed : Entry := { e with doneA := false, doneB := false, markA := .none, markB := .none }
        (o.kind = .connect → e.markA ∈ [Mark.connect, .lateConnect, .connectThenRelease] →
          back = s.putEntry o.entry { e with markA := .none, markB := .none }) ∧
        (o.kind = .connect → e.markA ∈ [Mark.none, .release] → back = s) ∧
        (o.kind = .release → e.markA ≠ .release → back = s) ∧
        (o.kind = .release → e.markA = .release → e.state = .releasing →
          back = (s.putEntry o.entry freed).becomeIdle o.entry) ∧
        (o.kind = .release → e.markA = .release → e.state ≠ .releasing → back = s.putEntry o.entry freed))) ∧
  (∀ (s : State) (i : EntryNo) (ends : Ends) (m : Mark) (n : SlotNo),
      let e := s.entry i
      let marked := fun m : Mark => match ends with
        | .one x => e.setMark x m
        | .both => { e with markA := m, markB := m }
      (e.endpoint ends.lead).slot.toNat = n.val →
      (∀ before o after, (s.link n).orders = before ++ o :: after → o.entry = i → o.ends = ends →
        (∀ o' ∈ before, ¬(o'.entry = i ∧ o'.ends = ends)) →
        (o.inFlight = false → s.withdrawConnect i ends m =
          (s.setLink n { s.link n with orders := before ++ after }).putEntry i (marked .none)) ∧
        (o.inFlight = true → s.withdrawConnect i ends m = s.putEntry i (marked m))) ∧
      ((∀ o ∈ (s.link n).orders, ¬(o.entry = i ∧ o.ends = ends)) → (ends = .both → e.markA = e.markB) →
        s.withdrawConnect i ends m = s.putEntry i e))

/-- RELEASE_ALL (R94 to R96): the walk releases every entry outside IDLE by its state and leaves the IDLE ones alone:
WAITING and FAULTED entries without marks become IDLE, the others go to RELEASING, a RESTORING entry has its
release-after set, and a RELEASING one stays. The release orders of the LIVE entries join the lists of their LINKED
slots in the order of the age list; a release order for a slot that is not LINKED is handed straight back as done (R77).
Nothing but the table and the order lists changes. R103: the departure notices due at entries of the age list are taken
before the walk (`r`, stated in DepartureNoticeParksTheSlot; log entry 34). -/
def Obligations.ReleaseAllReleasesEveryEntry : Prop :=
  ∀ s : State, s.PortFree → AgeListOk s →
    let r := s.circuits.ageList.foldl State.reachEntry s
    ∃ t, exec .releaseAll s = .next (s.judged t) ∧
    (∀ i, let e : Entry := { r.entry i with code := .release }
      let unmarked := e.markA = .none ∧ e.markB = .none
      let idle : Entry := { e with
        state := .idle, outcome := .released, doneA := false, doneB := false, releaseAfter := false, markA := .none,
        markB := .none }
      let late := fun m : Mark => if m = .lateConnect then Mark.connectThenRelease else m
      let linked := fun x : Side => r.endpointLinked (e.endpoint x)
      let mark := fun x : Side => if linked x = true then Mark.release else .none
      (e.state = .idle → t.entry i = r.entry i) ∧
      (e.state = .waiting ∨ e.state = .faulted → unmarked → t.entry i = idle) ∧
      (e.state = .waiting → ¬unmarked → t.entry i =
        { e with state := .releasing, outcome := .accepted, markA := late e.markA, markB := late e.markB }) ∧
      (e.state = .faulted → ¬unmarked → t.entry i = { e with state := .releasing, outcome := .accepted }) ∧
      (e.state = .restoring → t.entry i = { e with releaseAfter := true, outcome := .accepted }) ∧
      (e.state = .releasing → t.entry i = { e with outcome := .accepted }) ∧
      (e.state = .live → linked .a = true ∨ linked .b = true → t.entry i = { e with
        state := .releasing, outcome := .accepted, releaseAfter := false, markA := mark .a, markB := mark .b,
        doneA := linked .a && e.doneA, doneB := linked .b && e.doneB }) ∧
      (e.state = .live → linked .a = false → linked .b = false → t.entry i = idle)) ∧
    (∀ n, t.link n = { r.link n with orders := (r.link n).orders ++ r.circuits.ageList.flatMap fun i =>
      let f := (r.entry i).fields
      if (r.entry i).state ≠ .live ∨ (r.slot n).state ≠ .linked then []
      else if f.a.slot = f.b.slot then
        (if f.a.slot.toNat = n.val then [⟨.release, i, .both, f.a.port, some f.b.port, none, none, false⟩] else [])
      else
        (if f.a.slot.toNat = n.val then [⟨.release, i, .one .a, f.a.port, none, none, none, false⟩] else []) ++
          (if f.b.slot.toNat = n.val then [⟨.release, i, .one .b, f.b.port, none, none, none, false⟩] else []) }) ∧
    t = { r with circuits := t.circuits, links := t.links, restore := { r.restore with restoring := t.restore.restoring },
                 path := { r.path with ctrl := .idle, answer := .written } } ∧
    t.circuits.admissions = r.circuits.admissions

/-- CONNECT_DONE (R80, R87, R98): the order leaves the head of its list, and done is taken against the mark of the
endpoint it names; an order that names no endpoint of its entry by slot and port is ignored. That the second done with
release-after set writes ACCEPTED whatever the outcome was is log entry 31. R103: a departure notice due at the entry is
taken first, while the order is still in flight (`r`, stated in DepartureNoticeParksTheSlot; log entry 34). -/
def Obligations.ConnectDoneByMark : Prop :=
  ∀ (n : SlotNo) (s : State) (x : Exchange) (o : Order), s.por = false → s.InFlight n x → x.work = .order o →
    o.kind = .connect →
    let i := o.entry
    let r := s.reachEntry i
    let e := r.entry i
    let u := r.setLink n { r.link n with exchange := none, orders := (r.link n).orders.tail }
    let gives := fun t => exec (.connectDone n x.tag) s = .next (s.judged t)
    let released := fun e : Entry => (u.putEntry i { e with
      state := .releasing, outcome := .accepted, releaseAfter := false, markA := .release, markB := .release }
      ).appendBoth i .release
    (¬o.NamesOn n e → gives u) ∧
    (∀ y, o.ends = .one y → o.NamesOn n e →
      let joined := (e.setDone y true).setMark y .none
      (e.mark y = .connect → e.state = .restoring → e.done y.other = false → gives (u.putEntry i joined)) ∧
      (e.mark y = .connect → e.state = .restoring → e.done y.other = true → e.releaseAfter = false →
        gives (u.putEntry i { joined with state := .live })) ∧
      (e.mark y = .connect → e.state = .restoring → e.done y.other = true → e.releaseAfter = true →
        gives (released joined)) ∧
      (e.mark y = .connectThenRelease →
        gives ((u.putEntry i ((e.setDone y true).setMark y .release)).appendOrder i .release (.one y))) ∧
      (e.mark y = .lateConnect → gives (u.putEntry i (e.setMark y .none))) ∧
      (e.mark y = .none ∨ e.mark y = .release → gives u)) ∧
    (o.ends = .both → o.NamesOn n e →
      let joined : Entry := { e with doneA := true, doneB := true, markA := .none, markB := .none }
      (e.markA = .connect → e.state = .restoring → e.releaseAfter = false →
        gives (u.putEntry i { joined with state := .live })) ∧
      (e.markA = .connect → e.state = .restoring → e.releaseAfter = true → gives (released joined)) ∧
      (e.markA = .connectThenRelease → gives ((u.putEntry i { e with
        doneA := true, doneB := true, markA := .release, markB := .release }).appendOrder i .release .both)) ∧
      (e.markA = .lateConnect → gives (u.putEntry i { e with markA := .none, markB := .none })) ∧
      (e.markA = .none ∨ e.markA = .release → gives u))

/-- CONNECT_REFUSAL (R80, R99, R100): a refusal of the connect a RESTORING entry expects faults it with ENTRY_FAULTED
and deals with its other endpoint; a release-after found set is taken as a RELEASE of the FAULTED entry. A refusal of an
order that names no endpoint of its entry by slot and port is ignored (R87). R103: a departure notice due at the entry
is taken first, while the order is still in flight (`r`, stated in DepartureNoticeParksTheSlot; log entry 34). -/
def Obligations.ConnectRefusalByMark : Prop :=
  ∀ (n : SlotNo) (reason : RefusalReason) (s : State) (x : Exchange) (o : Order), s.por = false → s.InFlight n x →
    x.work = .order o → o.kind = .connect →
    let i := o.entry
    let r := s.reachEntry i
    let e := r.entry i
    let u := r.setLink n { r.link n with exchange := none, orders := (r.link n).orders.tail }
    let gives := fun t => exec (.connectRefusal n x.tag reason) s = .next (s.judged t)
    let v := u.raise ⟨.entryFaulted, some n, reason.code, some e.fields.cls, some i, s.supply.episode, s.supply.clock,
      0#16 ++ BitVec.ofNat 8 n.val ++ reason.code⟩
    let faulted := fun e : Entry => ({ e with state := .faulted, outcome := .refusedByCard, releaseAfter := false } : Entry)
    let resolved := fun t : State => if e.releaseAfter = true then t.applyRelease i else t
    (¬o.NamesOn n e → gives u) ∧
    (∀ y, o.ends = .one y → o.NamesOn n e →
      (e.mark y = .connect → e.state = .restoring →
        let w := v.putEntry i (faulted (e.setMark y .none))
        (e.mark y.other = .connect → gives (resolved (w.withdrawConnect i (.one y.other) .connectThenRelease))) ∧
        (e.mark y.other ≠ .connect → e.done y.other = true → gives (resolved
          ((w.putEntry i ((faulted (e.setMark y .none)).setMark y.other .release)).appendOrder i .release
            (.one y.other)))) ∧
        (e.mark y.other ≠ .connect → e.done y.other = false → gives (resolved w))) ∧
      (e.mark y = .connectThenRelease → e.state = .releasing → e.mark y.other = .none →
        gives ((u.putEntry i (e.setMark y .none)).becomeIdle i)) ∧
      (e.mark y = .connectThenRelease → e.state ≠ .releasing ∨ e.mark y.other ≠ .none →
        gives (u.putEntry i (e.setMark y .none))) ∧
      (e.mark y = .lateConnect → gives (u.putEntry i (e.setMark y .none))) ∧
      (e.mark y = .none ∨ e.mark y = .release → gives u)) ∧
    (o.ends = .both → o.NamesOn n e →
      let dropped : Entry := { e with markA := .none, markB := .none }
      (e.markA = .connect → e.state = .restoring → gives (resolved (v.putEntry i (faulted dropped)))) ∧
      (e.markA = .connectThenRelease → e.state = .releasing → gives ((u.putEntry i dropped).becomeIdle i)) ∧
      (e.markA = .connectThenRelease → e.state ≠ .releasing → gives (u.putEntry i dropped)) ∧
      (e.markA = .lateConnect → gives (u.putEntry i dropped)) ∧
      (e.markA = .none ∨ e.markA = .release → gives u))

/-- RELEASE_RESULT (R80, R101, R102): done and a refusal are taken alike: done flag and mark of each served endpoint are
cleared, and a RELEASING entry left with no mark becomes IDLE. An order that names no endpoint of its entry by slot and
port is ignored (R87). R103: a departure notice due at the entry is taken first (`r`, stated in
DepartureNoticeParksTheSlot; log entry 34). -/
def Obligations.ReleaseResultEndsTheRelease : Prop :=
  ∀ (n : SlotNo) (answer : ReleaseAnswer) (s : State) (x : Exchange) (o : Order), s.por = false → s.InFlight n x →
    x.work = .order o → o.kind = .release →
    let i := o.entry
    let r := s.reachEntry i
    let e := r.entry i
    let u := r.setLink n { r.link n with exchange := none, orders := (r.link n).orders.tail }
    let gives := fun t => exec (.releaseResult n x.tag answer) s = .next (s.judged t)
    (¬o.NamesOn n e → gives u) ∧
    (∀ y, o.ends = .one y → o.NamesOn n e →
      let freed := (e.setMark y .none).setDone y false
      (e.mark y = .release → e.state = .releasing → e.mark y.other = .none →
        gives ((u.putEntry i freed).becomeIdle i)) ∧
      (e.mark y = .release → e.state ≠ .releasing ∨ e.mark y.other ≠ .none → gives (u.putEntry i freed)) ∧
      (e.mark y ≠ .release → gives u)) ∧
    (o.ends = .both → o.NamesOn n e → e.markA = .release → e.markB = .release →
      let freed : Entry := { e with doneA := false, doneB := false, markA := .none, markB := .none }
      (e.state = .releasing → gives ((u.putEntry i freed).becomeIdle i)) ∧
      (e.state ≠ .releasing → gives (u.putEntry i freed))) ∧
    (o.ends = .both → e.markA ≠ .release → gives u)

/-- SAG_NOTICE_CIRCUITS (R105): every entry is parked as if every slot had left LINKED, whatever the order in which the
table goes through them: IDLE and WAITING entries stay, LIVE ones go to WAITING, FAULTED ones lose their done flags,
RELEASING ones become IDLE when no mark is left, and a RESTORING one goes to WAITING with its connects withdrawn, or by
its release-after to IDLE or RELEASING. The withdrawn connect orders leave their lists (R78), and every other order
stays in its place. R103: where the Slot Sequencer has not taken the notice yet, the departure notices on their way are
of slots that the sag has not moved to HELD, and are taken before it (`r`, stated in DepartureNoticeParksTheSlot); where
it has, they are of the slots that the sag has moved (SagNoticeHoldsEverySlot), and R105 gives no order (log entry 34). Its whole effect, `State.takeSagCircuits`, is what a lane grant
gives a notice still on its way (LaneGrantServesLowestLevelFirst; log entry 6). -/
def Obligations.SagNoticeParksEveryEntry : Prop :=
  ∀ s : State, s.por = false → 0 < s.notices.circuits → AgeListOk s →
    let late := s.notices.circuits - s.notices.slots.count .sag
    let r := if late = 0 then s.notices.departCircuits.foldl State.parkSlot s else s
    let t := s.takeSagCircuits
    exec .sagNoticeCircuits s = .next (s.judged t) ∧
    (∀ i, let e := r.entry i
      let mark := fun (x : Side) => if e.mark x = .connect then
          markAfterWithdraw (r.withdrawAnswer i (if e.oneSlot = true then .both else .one x)) .lateConnect .connect
        else e.mark x
      let late := fun m : Mark => if m = .lateConnect then Mark.connectThenRelease else m
      let parked : Entry := { e with doneA := false, doneB := false }
      let idle : Entry := { parked with
        state := .idle, outcome := .released, releaseAfter := false, markA := .none, markB := .none }
      (e.state = .idle ∨ e.state = .waiting → t.entry i = e) ∧
      (e.state = .live → t.entry i = { parked with state := .waiting }) ∧
      (e.state = .faulted → t.entry i = parked) ∧
      (e.state = .releasing → e.markA = .none → e.markB = .none → t.entry i = idle) ∧
      (e.state = .releasing → e.markA ≠ .none ∨ e.markB ≠ .none → t.entry i = parked) ∧
      (e.state = .restoring → (e.oneSlot = true → e.markA = e.markB) →
        (e.releaseAfter = false →
          t.entry i = { parked with state := .waiting, markA := mark .a, markB := mark .b }) ∧
        (e.releaseAfter = true → mark .a = .none → mark .b = .none → t.entry i = idle) ∧
        (e.releaseAfter = true → mark .a ≠ .none ∨ mark .b ≠ .none → t.entry i = { parked with
          state := .releasing, outcome := .accepted, releaseAfter := false, markA := late (mark .a),
          markB := late (mark .b) }))) ∧
    (∀ n, t.link n = r.circuits.ageList.foldl (fun l i =>
        let e := r.entry i
        let gone := fun (l : LinkUnit) (ends : Ends) =>
          if e.mark ends.lead = .connect ∧ (e.endpoint ends.lead).slot.toNat = n.val then l.withdraw i ends else l
        if e.state ≠ .restoring then l else if e.oneSlot = true then gone l .both else gone (gone l (.one .a)) (.one .b))
      (r.link n)) ∧
    (∀ n, t.link n = { r.link n with orders := (t.link n).orders } ∧
      (t.link n).orders.Sublist (r.link n).orders ∧
      (let stays := fun o : Order => o.inFlight || (r.entry o.entry).state != .restoring ||
        (r.entry o.entry).mark o.ends.lead != .connect
      (t.link n).orders.filter stays = (r.link n).orders.filter stays)) ∧
    t = { r with notices := { r.notices with circuits := r.notices.circuits - 1 }, circuits := t.circuits,
                 links := t.links, restore := { r.restore with restoring := t.restore.restoring } } ∧
    t.circuits.admissions = r.circuits.admissions

/-- DEPARTURE_NOTICE_CIRCUITS (R103, R104): the entries with an endpoint on the departed slot X are parked by their
state; entries with no endpoint on X are left alone. The connect order of a RESTORING entry on its other slot Y is
withdrawn where it is not in flight (R78), a completed join on Y gets its release order where release-after was set,
oldest entry first (log entry 13), and every other order stays in its place. The mark of a RESTORING entry on a second
slot that has left LINKED too becomes none (log entry 14), and a done flag on Y stays until its release completes (log
entry 15). An entry that release-after takes to RELEASING keeps its outcome, whatever a write in the meantime had set
(log entry 33). R103: before a request-word write or a result reaches a RESTORING or LIVE entry with an endpoint on a
departed slot, that slot's notice is taken with its whole effect, and the entry has left both states; where no such
notice is on its way nothing happens. Which events this is of, and that the notice sent first is taken, is log entry
34. -/
def Obligations.DepartureNoticeParksTheSlot : Prop :=
  (∀ (n : SlotNo) (s : State), s.por = false → n ∈ s.notices.departCircuits → AgeListOk s →
    let t := s.parkSlot n
    exec (.departureNoticeCircuits n) s = .next (s.judged t) ∧
    (∀ i, let e := s.entry i
      let here := fun x => e.on x n
      let cleared : Entry := { e with
        markA := if here .a = true then .none else e.markA, doneA := !here .a && e.doneA,
        markB := if here .b = true then .none else e.markB, doneB := !here .b && e.doneB }
      let idle := fun e : Entry => ({ e with
        state := .idle, outcome := .released, doneA := false, doneB := false, releaseAfter := false, markA := .none,
        markB := .none } : Entry)
      (e.state = .idle ∨ (here .a = false ∧ here .b = false) → t.entry i = e) ∧
      (e.state = .waiting ∨ e.state = .faulted → t.entry i = cleared) ∧
      (e.state = .live → here .a = true ∨ here .b = true →
        t.entry i = { cleared with state := .waiting, doneA := false, doneB := false }) ∧
      (e.state = .releasing → here .a = true ∨ here .b = true → cleared.markA = .none → cleared.markB = .none →
        t.entry i = idle e) ∧
      (e.state = .releasing → cleared.markA ≠ .none ∨ cleared.markB ≠ .none → t.entry i = cleared) ∧
      (∀ x, e.state = .restoring → here x = true →
        (here x.other = true ∨ s.endpointLinked (e.endpoint x.other) = false →
          (e.releaseAfter = false → t.entry i = { e with
            state := .waiting, doneA := false, doneB := false, markA := .none, markB := .none }) ∧
          (e.releaseAfter = true → t.entry i = idle e)) ∧
        (here x.other = false → s.endpointLinked (e.endpoint x.other) = true →
          let y := x.other
          let mark := if e.mark y = .connect then
              markAfterWithdraw (s.withdrawAnswer i (.one y)) .lateConnect .connect
            else e.mark y
          let parked : Entry := (({ e with releaseAfter := false }.setMark x .none).setDone x false)
          (e.releaseAfter = false → t.entry i =
            { (e.setMark x .none).setMark y mark with state := .waiting, doneA := false, doneB := false }) ∧
          (e.releaseAfter = true → mark = .lateConnect → t.entry i =
            { parked.setMark y .connectThenRelease with state := .releasing }) ∧
          (e.releaseAfter = true → mark ≠ .lateConnect → e.done y = true → t.entry i =
            { parked.setMark y .release with state := .releasing }) ∧
          (e.releaseAfter = true → mark ≠ .lateConnect → e.done y = false → t.entry i = idle e)))) ∧
    (∀ m, t.link m = s.circuits.ageList.foldl (fun l i =>
        let e := s.entry i
        let y := if e.on .a n = true then Side.b else Side.a
        let l' := if e.mark y = .connect then l.withdraw i (.one y) else l
        let late := e.mark y = .lateConnect ∨ (e.mark y = .connect ∧ s.withdrawAnswer i (.one y) = .inFlight)
        if e.state ≠ .restoring ∨ e.on .a n = e.on .b n ∨ s.endpointLinked (e.endpoint y) = false ∨
            (e.endpoint y).slot.toNat ≠ m.val then l
        else if e.releaseAfter = true ∧ ¬late ∧ e.done y = true then
          { l' with orders := l'.orders ++ [⟨.release, i, .one y, (e.endpoint y).port, none, none, none, false⟩] }
        else l') (s.link m)) ∧
    (∀ m, t.link m = { s.link m with orders := (t.link m).orders } ∧
      (let stays := fun o : Order => o.inFlight || (s.entry o.entry).state != .restoring ||
        (s.entry o.entry).mark o.ends.lead != .connect
      ∃ added : List Order, (∀ o ∈ added, o.kind = .release ∧ o.inFlight = false) ∧
        (t.link m).orders.filter stays = (s.link m).orders.filter stays ++ added.filter stays)) ∧
    t = { s with notices := { s.notices with departCircuits := s.notices.departCircuits.erase n },
                 circuits := t.circuits, links := t.links,
                 restore := { s.restore with restoring := t.restore.restoring } } ∧
    t.circuits.admissions = s.circuits.admissions) ∧
  (∀ (s : State) (i : EntryNo),
    let here := fun n : SlotNo => (s.entry i).on .a n = true ∨ (s.entry i).on .b n = true
    ((s.entry i).state ∉ [EntryState.restoring, .live] ∨ (∀ n ∈ s.notices.departCircuits, ¬here n) →
      s.reachEntry i = s) ∧
    (∀ before n after, s.por = false → AgeListOk s → (s.entry i).state ∈ [EntryState.restoring, .live] →
      s.notices.departCircuits = before ++ n :: after → (∀ m ∈ before, ¬here m) → here n →
      exec (.departureNoticeCircuits n) s = .next (s.judged (s.reachEntry i)) ∧
        ((s.reachEntry i).entry i).state ∉ [EntryState.restoring, .live]))

/-! ## Restore Engine -/

/-- ISSUE (R97, R109, R111, R113): while fewer than 16 entries are RESTORING the eligible entry of the lowest class that
stands nearest the head of the age list goes to RESTORING, its marks both connect, with a connect order appended for
each endpoint that had none outstanding; otherwise nothing is issued. -/
def Obligations.IssueTakesTheBestEligibleEntry : Prop :=
  ∀ s : State, s.por = false →
    let eligible := fun i : EntryNo => i ∈ s.circuits.ageList ∧ (s.entry i).state = .waiting ∧
      s.bothLinked (s.entry i) = true ∧ (s.entry i).fields.cls ≤ s.path.captured.restoreFloor ∧
      (s.entry i).fields.cls.toNat < s.restore.lowestClosed
    (∀ i, eligible i → s.restore.phase ≠ .sagged → s.restore.restoring < 16 →
      (∀ j, eligible j → (s.entry i).fields.cls < (s.entry j).fields.cls ∨
        ((s.entry i).fields.cls = (s.entry j).fields.cls ∧
          s.circuits.ageList.idxOf i ≤ s.circuits.ageList.idxOf j)) →
      let e := s.entry i
      let u := s.putEntry i { e with
        state := .restoring, doneA := false, doneB := false, releaseAfter := false, markA := .connect,
        markB := .connect }
      (e.markA = .none → e.markB = .none → exec .issue s = .next (s.judged (u.appendBoth i .connect))) ∧
      (e.oneSlot = false → e.markA = .none → e.markB ≠ .none →
        exec .issue s = .next (s.judged (u.appendOrder i .connect (.one .a)))) ∧
      (e.oneSlot = false → e.markA ≠ .none → e.markB = .none →
        exec .issue s = .next (s.judged (u.appendOrder i .connect (.one .b)))) ∧
      (e.markA ≠ .none → e.markB ≠ .none → exec .issue s = .next (s.judged u))) ∧
    ((∀ i, ¬eligible i) ∨ s.restore.phase = .sagged ∨ 16 ≤ s.restore.restoring → exec .issue s = .next s)

/-- DRAINED (R118 to R120, R123) and BARRIER_TIMER_EXPIRY (R119, R120, R123): the barrier of the lowest closed class
opens with BARRIER_OPEN and its cause, and the timer starts afresh while a class is still closed. DRAINED is judged by
its two conditions, on every entry below the class. Outside recovery, and with no class closed, no barrier opens
(R118, R119, R121). The conditions are judged on the state as it stands (log entry 12). An expiry is taken at its time
or later (log entry 2). SAG_NOTICE_RESTORE (R121), RECOVER_NOTICE_RESTORE (R117) and NORMAL_NOTICE (R116): what each
notice does to the barriers and to the timer, without a record. -/
def Obligations.BarriersFollowNoticesAndOpenings : Prop :=
  (∀ s : State, s.por = false → s.restore.phase = .recovering → s.restore.lowestClosed < 4 →
      let c := s.restore.lowestClosed
      let opens := fun cause : BitVec 8 => State.raise { s with restore := { s.restore with
          lowestClosed := c + 1,
          timer := if c + 1 ≤ 3 then some (s.supply.clock + s.path.captured.barrierTime.setWidth 32) else none } }
        ⟨.barrierOpen, none, cause, some (BitVec.ofNat 2 c), none, s.supply.episode, s.supply.clock,
          0#16 ++ cause ++ BitVec.ofNat 8 c⟩
      let lost := fun p : Endpoint => s.endpointState p ∈ [some SlotState.empty, some .failed, some .mismatch, some .offline]
      let holds := fun e : Entry => e.fields.cls.toNat < c ∧ (e.state = .restoring ∨ (e.state = .waiting ∧
        e.fields.cls ≤ s.path.captured.restoreFloor ∧ ¬lost e.fields.a ∧ ¬lost e.fields.b))
      ((∀ p ∈ s.circuits.entries, ¬holds p.2) → exec .drained s = .next (s.judged (opens 1#8))) ∧
      ((∃ p ∈ s.circuits.entries, holds p.2) → exec .drained s = .next s) ∧
      (∀ e, s.restore.timer = some e → reached s.supply.clock e = true →
        exec .barrierTimerExpiry s = .next (s.judged (opens 2#8))) ∧
      (s.restore.timer = none → exec .barrierTimerExpiry s = .next s)) ∧
  (∀ s : State, s.restore.phase ≠ .recovering ∨ 4 ≤ s.restore.lowestClosed →
      exec .drained s = .next s ∧ exec .barrierTimerExpiry s = .next s) ∧
  (∀ s : State, s.por = false →
      let taken := fun r : RestoreEngine =>
        ({ s with notices := { s.notices with restore := s.notices.restore.tail }, restore := r } : State)
      (s.notices.restore.head? = some .sag → exec .sagNoticeRestore s = .next
        (s.judged (taken { s.restore with phase := .sagged, timer := none }))) ∧
      (∀ cls, s.notices.restore.head? = some (.recover cls) → exec .recoverNoticeRestore s = .next
        (s.judged (taken { s.restore with
          phase := .recovering,
          lowestClosed := if s.path.captured.barrierTime = 0#16 then 4 else 1,
          timer := if s.path.captured.barrierTime = 0#16 then none
            else some (s.supply.clock + s.path.captured.barrierTime.setWidth 32) }))) ∧
      (s.notices.restore.head? = some .normal → exec .normalNotice s = .next
        (s.judged (taken { s.restore with phase := .normal, lowestClosed := 4, timer := none }))))

/-! ## Journal Writer -/

/-- R163, R164: the table of what becomes of a record handed over, by the free count and the overrun flag: an accepted
record is given the position after the last one allocated and starts at J0 where none was pending; a gap record goes
before it where records were lost. R164, R169: raising a record changes the Journal Writer alone, and the gap record
carries no slot, class, entry, aux or value, the current episode and the clock. -/
def Obligations.RecordsAreAcceptedOrDropped : Prop :=
  (∀ (j : Journal) (gap r : Record),
      let free := 255 - ((j.head - j.tail).toNat + j.records.length)
      let place := fun k => j.head + BitVec.ofNat 8 (j.records.length + k)
      let started := if j.records = [] then some 0 else j.word
      (free = 0 → j.handOver gap r = { j with overrun := true }) ∧
      (1 ≤ free → j.overrun = false → j.handOver gap r =
        { j with records := j.records ++ [⟨place 0, r⟩], word := started }) ∧
      (free = 1 → j.overrun = true → j.handOver gap r =
        { j with records := j.records ++ [⟨place 0, gap⟩], word := started, overrun := true }) ∧
      (2 ≤ free → j.overrun = true → j.handOver gap r =
        { j with records := j.records ++ [⟨place 0, gap⟩, ⟨place 1, r⟩], word := started, overrun := false })) ∧
  (∀ (s : State) (r : Record),
      let gap : Record := ⟨.journalGap, none, 0#8, none, none, s.supply.episode, s.supply.clock, 0#32⟩
      s.raise r = { s with journal := s.journal.handOver gap r })

/-- JOURNAL_WORD_DONE (R162, R166, R167): the word is in the store; after J0 to J2 the next word is in progress, after
J3 the record leaves the list, the head advances and the attention output follows; a word whose record a controller
reset abandoned reaches the store and advances nothing. ATTENTION_ENABLE_WRITE (R145, R166): the enable is captured
and the output follows it at once. Byte k of a word lies at its address plus k (log entry 8). -/
def Obligations.JournalWordsAndAttention : Prop :=
  (∀ (a : WordAddr) (d : Word) (live : Bool) (s : State), s.por = false → s.path.store = .journal a d live →
      ∃ t, exec .journalWordDone s = .next (s.judged t) ∧
      (∀ x, x < 4 * a.toNat ∨ 4 * a.toNat + 4 ≤ x → Memory.readByte t.memory x = Memory.readByte s.memory x) ∧
      (∀ k, k < 4 → Memory.readByte t.memory (4 * a.toNat + k) = some (d.extractLsb' (8 * k) 8)) ∧
      t = { s with memory := t.memory, journal := t.journal, path := { s.path with store := .idle } } ∧
      (live = false → t.journal = s.journal) ∧
      (∀ k : Fin 4, live = true → s.journal.word = some k → k < 3 → t.journal = { s.journal with
        word := some (k + 1),
        attention := s.path.captured.attentionEnable && s.journal.head != s.journal.tail }) ∧
      (live = true → s.journal.word = some 3 → t.journal = { s.journal with
        head := s.journal.head + 1#8, records := s.journal.records.tail,
        word := if s.journal.records.tail = [] then none else some 0,
        attention := s.path.captured.attentionEnable && s.journal.head + 1#8 != s.journal.tail })) ∧
  (∀ (enable : Bool) (s : State), s.PortFree → exec (.attentionEnableWrite enable) s = .next
      (s.judged (State.answered { s with
      path := { s.path with captured := { s.path.captured with attentionEnable := enable } },
      journal := { s.journal with attention := enable && s.journal.head != s.journal.tail } } .written)))

/-- JOURNAL_TAIL_WRITE (R165): accepted where the value lies cyclically from the captured tail to the head, and ignored
otherwise. -/
def Obligations.TailWritesStayInTheRange : Prop :=
  ∀ (v : BitVec 8) (s : State), s.PortFree →
    ((v.toNat + 256 - s.journal.tail.toNat) % 256 ≤ (s.journal.head.toNat + 256 - s.journal.tail.toNat) % 256 →
      exec (.journalTailWrite v) s = .next (s.judged (State.answered { s with journal := { s.journal with
        tail := v, attention := s.path.captured.attentionEnable && s.journal.head != v } } .written))) ∧
    ((s.journal.head.toNat + 256 - s.journal.tail.toNat) % 256 < (v.toNat + 256 - s.journal.tail.toNat) % 256 →
      exec (.journalTailWrite v) s = .next (s.judged (s.answered .written)))

/-! ## Pass-Through Path -/

/-- PLAIN_ACCESS, STORE_PORT_ARBITRATION and PLAIN_ACCESS_DONE (R129, R139, R141): a plain access waits with its cycle
open, is taken by a free store port before a waiting journal word, and is answered when the store completes it: a
write has stored its enabled bytes and no other, a read returns the store's word, and an abandoned access returns
nothing. Byte k of a word lies at its address plus k, and a byte that nothing has written reads as the store returned
it (log entry 8); the answer stands in the model's record (log entry 22). A journal word goes to its place in
the ring (R127, R162). -/
def Obligations.PlainAccessesReachTheStore : Prop :=
  (∀ (area : BitVec 6) (p : BitVec 8) (k : Fin 4),
    4 * (ringWordAddr area p k).toNat = 262144 * area.toNat + 0x9000 + 16 * p.toNat + 4 * k.val) ∧
  (∀ (addr : WordAddr) (access : Access) (enables : ByteEnables) (s : State), s.PortFree →
    isPlain s.path.area addr = true → exec (.plainAccess addr access enables) s = .next
      (s.judged { s with path := { s.path with ctrl := .plainWaiting ⟨addr, access, enables⟩ } })) ∧
  (∀ (s : State), s.por = false → s.path.store = .idle →
    (∀ c, s.path.ctrl = .plainWaiting c → exec .storePortArbitration s = .next
      (s.judged { s with path := { s.path with ctrl := .plainServed, store := .controller c true } })) ∧
    (∀ p rest k, (∀ c, s.path.ctrl ≠ .plainWaiting c) → s.journal.records = p :: rest → s.journal.word = some k →
      exec .storePortArbitration s = .next (s.judged { s with path := { s.path with
        store := .journal (ringWordAddr s.path.area p.position k) (p.record.word k) true } })) ∧
    ((∀ c, s.path.ctrl ≠ .plainWaiting c) → s.journal.word = none →
      exec .storePortArbitration s = .next (s.judged s))) ∧
  (∀ (s : State), s.path.store ≠ .idle → exec .storePortArbitration s = .next s) ∧
  (∀ (addr : WordAddr) (data word : Word) (enables : ByteEnables) (claimed : Bool) (s : State), s.por = false →
    s.path.store = .controller ⟨addr, .write data, enables⟩ claimed →
        ∃ t, exec (.plainAccessDone word) s = .next (s.judged t) ∧
      (∀ x, x < 4 * addr.toNat ∨ 4 * addr.toNat + 4 ≤ x →
        Memory.readByte t.memory x = Memory.readByte s.memory x) ∧
      (∀ k, k < 4 → Memory.readByte t.memory (4 * addr.toNat + k) =
        if enables.getLsbD k = true then some (data.extractLsb' (8 * k) 8)
        else Memory.readByte s.memory (4 * addr.toNat + k)) ∧
      t = { s with memory := t.memory, path := if claimed = true then
          { s.path with store := .idle, ctrl := .idle, answer := .written } else { s.path with store := .idle } }) ∧
  (∀ (addr : WordAddr) (word : Word) (enables : ByteEnables) (claimed : Bool) (s : State), s.por = false →
    s.path.store = .controller ⟨addr, .read, enables⟩ claimed →
        ∃ t, exec (.plainAccessDone word) s = .next (s.judged t) ∧
      t = { s with path := t.path } ∧
      (claimed = false → t.path = { s.path with store := .idle }) ∧
      (claimed = true → ∃ w : Word, t.path = { s.path with store := .idle, ctrl := .idle, answer := .data w } ∧
        ∀ k, k < 4 → w.extractLsb' (8 * k) 8 =
          (Memory.readByte s.memory (4 * addr.toNat + k)).getD (word.extractLsb' (8 * k) 8)))

/-- WINDOW_READ, WINDOW_WRITE and DEFERRED_WINDOW_OFFER (R83, R134, R136, R137): with the marker clear an access to a
LINKED slot becomes its Link Unit's window request and the cycle stays open, and one to any other slot ends at once, a
read with all ones; with the marker set it waits, and is offered when the marker has cleared, by the slot state of
that moment. The answer stands in the model's record (log entry 22). -/
def Obligations.WindowAccessesAreOfferedOrWait : Prop :=
  ∀ (n : SlotNo) (index : BitVec 10) (op : RegisterOp) (c : Instr) (s : State),
    ((c = .windowRead n index ∧ op = .read ∧ s.PortFree) ∨
      (∃ data mask, c = .windowWrite n index data mask ∧ op = .write data mask ∧ s.PortFree) ∨
      (c = .deferredWindowOffer ∧ s.path.ctrl = .windowDeferred n op index ∧ s.por = false)) →
    let taken := s.setLink n { s.link n with
      window := some { op := op, index := index, inFlight := false, claimed := true } }
    (s.path.marker = false → (s.slot n).state = .linked → exec c s = .next
      (s.judged { taken with path := { s.path with ctrl := .windowHeld n op, marker := true } })) ∧
    (s.path.marker = false → (s.slot n).state ≠ .linked → exec c s = .next (s.judged { s with path := { s.path with
      ctrl := .idle, answer := match op with | .read => .data 0xFFFFFFFF#32 | .write _ _ => .written } })) ∧
    (s.path.marker = true → c = .deferredWindowOffer → exec c s = .next s) ∧
    (s.path.marker = true → c ≠ .deferredWindowOffer → exec c s = .next
      (s.judged { s with path := { s.path with ctrl := .windowDeferred n op index } }))

/-- REGISTER_DATA_REPLY, REGISTER_WRITE_DONE, REGISTER_REFUSAL and REGISTER_TIMEOUT (R73, R83, R84, R135, R137, R138):
the window request ends and the marker clears; a claimed one completes the held cycle, with WINDOW_FAULT for a refusal
or a timeout; the result of an unclaimed one is discarded, without a record. An expiry is taken at its time or later
(log entry 2). -/
def Obligations.RegisterResultsEndTheWindowCycle : Prop :=
  ∀ (n : SlotNo) (s : State) (x : Exchange) (w : WindowRequest), s.por = false → s.InFlight n x →
    (s.link n).window = some w → x.work = .register w.op w.index →
    let freed := s.setLink n { s.link n with exchange := none, window := none }
    let ends := fun (u : State) (a : CycleAnswer) => ({ u with path := if w.claimed = true then
        { u.path with marker := false, ctrl := .idle, answer := a } else { u.path with marker := false } } : State)
    let failed : CycleAnswer := match w.op with | .read => .data 0xFFFFFFFF#32 | .write _ _ => .written
    let faulted := fun reason : BitVec 8 => if w.claimed = true then freed.raise
        ⟨.windowFault, some n, reason, none, none, s.supply.episode, s.supply.clock,
          0#4 ++ w.index ++ 0#2 ++ 0#8 ++ reason⟩
      else freed
    (∀ data, w.op = .read → exec (.registerDataReply n x.tag data) s = .next (s.judged (ends freed (.data data)))) ∧
    (∀ d m, w.op = .write d m → exec (.registerWriteDone n x.tag) s = .next (s.judged (ends freed .written))) ∧
    (∀ reason : RefusalReason, exec (.registerRefusal n x.tag reason) s = .next
        (s.judged (ends (faulted reason.code) failed))) ∧
    (s.supply.microReached x.expiry = true →
      exec (.registerTimeout n) s = .next (s.judged (ends (faulted 4#8) failed)))

/-- SETTABLE_WORD_WRITE and RESTORE_FLOOR_WRITE (R131, R143, R146 to R148, R156, R170): a write is merged byte by byte
into the word as it reads, the settle time and the boot limit are clamped, and the fields are captured; a write of a
status word is discarded. R132, R145: a write of CW0 captures the attention enable first, with the attention output
after it, and then hands its request on to a part in which the enable is captured already; a write of CW4 or SL1 hands
on its tail or its request. R91, R133: a write of a request word is judged by its request field. That such a write has
through this row the effect of the row of its own, and a restore floor the same effect through either row, is log
entry 27. -/
def Obligations.SettableWordsMergeAndClamp : Prop :=
  ∀ (data : Word) (enables : ByteEnables) (s : State), s.PortFree →
    let cap := s.path.captured
    let merged := fun w : ShadowWord => mergeBytes (s.readShadow w) data enables
    let done := fun c : Captured => State.answered { s with path := { s.path with captured := c } } .written
    let takes := fun (w : ShadowWord) (c : Captured) => exec (.settableWordWrite w data enables) s = .next
        (s.judged (done c))
    let floor : Captured := { cap with
      restoreFloor := (merged (.cw 1)).extractLsb' 0 2, barrierTime := (merged (.cw 1)).extractLsb' 16 16 }
    let times : Captured := { cap with
      settleTime := if (merged (.cw 2)).extractLsb' 0 16 < 50#16 then 50#16 else (merged (.cw 2)).extractLsb' 0 16,
      shortSagLimit := (merged (.cw 2)).extractLsb' 16 16 }
    let limits : Captured := { cap with
      bootLimit := if (merged (.cw 3)).extractLsb' 0 8 = 0#8 then 1#8 else (merged (.cw 3)).extractLsb' 0 8,
      driftLimit := (merged (.cw 3)).extractLsb' 8 5, spreadLimit := (merged (.cw 3)).extractLsb' 16 4 }
    let settings := fun n : SlotNo => ({
      expectedType := (merged (.sl0 n)).extractLsb' 0 16, relinkLevel := (merged (.sl0 n)).extractLsb' 16 2,
      rate := if (merged (.sl0 n)).getLsbD 20 = true then .fast else .std,
      margin := (merged (.sl0 n)).extractLsb' 24 5 } : SlotSettings)
    let code := data.setWidth 8
    (∀ (w : Word) (k : Fin 4), (mergeBytes w data enables).extractLsb' (8 * k.val) 8 =
      if enables.getLsbD k.val = true then data.extractLsb' (8 * k.val) 8 else w.extractLsb' (8 * k.val) 8) ∧
    takes (.cw 1) floor ∧ exec (.restoreFloorWrite data enables) s = .next (s.judged (done floor)) ∧
        takes (.cw 2) times ∧
    takes (.cw 3) limits ∧ (∀ n, takes (.sl0 n) { cap with slot := cap.slot.set n (settings n) }) ∧
    (∀ k, takes (.sw k) cap) ∧ (∀ n k, takes (.ss n k) cap) ∧ (∀ i, takes (.entryState i) cap) ∧
    (∀ n, enables.getLsbD 0 = false ∨ code = 0#8 ∨ 5#8 ≤ code → takes (.sl1 n) cap) ∧
    (enables.getLsbD 0 = false → takes (.cw 4) cap) ∧
    (JournalOk s → enables.getLsbD 1 = false → enables.getLsbD 0 = false ∨ code = 0#8 ∨ 3#8 ≤ code →
      takes (.cw 0) cap) ∧
    (let enable := if enables.getLsbD 1 = true then data.getLsbD 8 else cap.attentionEnable
      let u : State := { s with
        path := { s.path with captured := { cap with attentionEnable := enable } },
        journal := { s.journal with attention := enable && s.journal.head != s.journal.tail } }
      let write := exec (.settableWordWrite (.cw 0) data enables) s
      (enables.getLsbD 0 = false ∨ code = 0#8 ∨ 3#8 ≤ code → write = .next (s.judged (u.answered .written))) ∧
      (enables.getLsbD 0 = true → code = 1#8 → write = exec .relinkAll u) ∧
      (enables.getLsbD 0 = true → code = 2#8 → write = exec .releaseAll u)) ∧
    (enables.getLsbD 0 = true → exec (.settableWordWrite (.cw 4) data enables) s = exec (.journalTailWrite code) s) ∧
    (∀ n, let write := exec (.settableWordWrite (.sl1 n) data enables) s
      enables.getLsbD 0 = true → (code = 1#8 → write = exec (.relink n) s) ∧
        (code = 2#8 → write = exec (.relinkReset n) s) ∧ (code = 3#8 → write = exec (.quiesce n) s) ∧
        (code = 4#8 → write = exec (.resume n) s)) ∧
    (∀ i, let write := exec (.settableWordWrite (.request i) data enables) s
      let f : RequestFields := ⟨data.extractLsb' 2 2, ⟨data.extractLsb' 4 5, data.extractLsb' 9 6⟩,
        ⟨data.extractLsb' 16 5, data.extractLsb' 21 6⟩⟩
      (data.extractLsb' 0 2 = 0#2 → write = exec (.noneRequest i f enables) s) ∧
      (data.extractLsb' 0 2 = 1#2 → write = exec (.connect i f enables) s) ∧
      (data.extractLsb' 0 2 = 2#2 → write = exec (.release i f enables) s) ∧
      (data.extractLsb' 0 2 = 3#2 → write = exec (.badRequest i enables) s))

/-- R127, R128: the offset alone decides what an access is, the window of slot n takes the register index of its word,
and every part of the area that is not named is plain. -/
def Obligations.EveryOffsetHasItsRegion : Prop :=
  (∀ k : Fin 5, classify (4 * k.val) = .shadow (.cw k)) ∧
  (∀ k : Fin 7, classify (0x20 + 4 * k.val) = .shadow (.sw k)) ∧
  (∀ n : SlotNo, classify (0x100 + 32 * n.val) = .shadow (.sl0 n) ∧ classify (0x104 + 32 * n.val) = .shadow (.sl1 n) ∧
    classify (0x108 + 32 * n.val) = .plain ∧ classify (0x10C + 32 * n.val) = .plain ∧
    (∀ k : Fin 4, classify (0x110 + 32 * n.val + 4 * k.val) = .shadow (.ss n k))) ∧
  (∀ i : EntryNo, classify (0x1000 + 8 * i.val) = .shadow (.request i) ∧
    classify (0x1004 + 8 * i.val) = .shadow (.entryState i)) ∧
  (∀ x, 0x9000 ≤ x → x ≤ 0x9FFF → classify x = .ring) ∧
  (∀ (n : SlotNo) (k : Fin 1024), classify (0x10000 + 4096 * n.val + 4 * k.val) = .window n (BitVec.ofNat 10 k.val)) ∧
  (∀ x, (0x14 ≤ x ∧ x < 0x20) ∨ (0x3C ≤ x ∧ x < 0x100) ∨ (0x400 ≤ x ∧ x < 0x1000) ∨ (0xA000 ≤ x ∧ x < 0x10000) ∨
    0x28000 ≤ x → classify x = .plain) ∧
  (∀ (area : BitVec 6) (addr : WordAddr), areaOffset area addr =
    if 262144 * area.toNat ≤ 4 * addr.toNat ∧ 4 * addr.toNat < 262144 * area.toNat + 262144 then
      some (4 * addr.toNat - 262144 * area.toNat) else none)

/-! ## Words of the shelf area -/

/-- R130, R143, R149 to R160, R170: a read of each shadow word holds each field at its place in
10_shelf_area_layouts.md, and 0 in every bit that holds no field; the request bytes read as 0. The order list length
reads 0 while the slot is not LINKED (R160). R168, R171: the four words of a journal record hold its fields at their
places, with 0xFF and 0xFFFF for none, and the values that are put together from parts are arranged as the second table
of R171 gives. The last clause gives every code its number, by the code tables and by R170. -/
def Obligations.WordsHoldTheirFields : Prop :=
  (∀ s : State,
      let bits := fun (w : ShadowWord) (low count : Nat) => (s.readShadow w).extractLsb' low count
      let unused := fun (w : ShadowWord) (mask : Word) => s.readShadow w &&& mask = 0#32
      let c := s.path.captured
      let r := fun n : SlotNo => s.slot n
      (bits (.cw 0) 8 1 = BitVec.ofBool c.attentionEnable ∧ unused (.cw 0) 0xFFFFFEFF#32) ∧
      (bits (.cw 1) 0 2 = c.restoreFloor ∧ bits (.cw 1) 16 16 = c.barrierTime ∧ unused (.cw 1) 0x0000FFFC#32) ∧
      (bits (.cw 2) 0 16 = c.settleTime ∧ bits (.cw 2) 16 16 = c.shortSagLimit) ∧
      (bits (.cw 3) 0 8 = c.bootLimit ∧ bits (.cw 3) 8 5 = c.driftLimit ∧ bits (.cw 3) 16 4 = c.spreadLimit ∧
        unused (.cw 3) 0xFFF0E000#32) ∧
      (bits (.cw 4) 0 8 = s.journal.tail ∧ unused (.cw 4) 0xFFFFFF00#32) ∧
      (s.readShadow (.sw 0) = 0x7140014F#32) ∧
      (bits (.sw 1) 0 2 = s.supply.shelf.code ∧ bits (.sw 1) 2 3 = BitVec.ofNat 3 s.restore.lowestClosed ∧
        bits (.sw 1) 16 16 = s.supply.episode ∧ unused (.sw 1) 0x0000FFE0#32) ∧
      (bits (.sw 2) 0 16 = s.supply.lastDuration ∧ bits (.sw 2) 16 2 = s.supply.lastClass.code ∧
        unused (.sw 2) 0xFFFC0000#32) ∧
      (bits (.sw 3) 0 8 = s.journal.head ∧ bits (.sw 3) 8 8 = s.journal.tail ∧
        bits (.sw 3) 16 1 = BitVec.ofBool s.journal.overrun ∧ unused (.sw 3) 0xFFFE0000#32) ∧
      (bits (.sw 4) 0 13 = BitVec.ofNat 13 s.circuits.waiting ∧ bits (.sw 4) 16 13 = BitVec.ofNat 13 s.circuits.live ∧
        unused (.sw 4) 0xE000E000#32) ∧
      (bits (.sw 5) 0 5 = BitVec.ofNat 5 s.restore.restoring ∧ bits (.sw 5) 16 13 = BitVec.ofNat 13 s.circuits.faulted ∧
        unused (.sw 5) 0xE000FFE0#32) ∧
      (s.readShadow (.sw 6) = s.supply.clock) ∧
      (∀ n, bits (.sl0 n) 0 16 = (s.sl0 n).expectedType ∧ bits (.sl0 n) 16 2 = (s.sl0 n).relinkLevel ∧
        bits (.sl0 n) 20 1 = (s.sl0 n).rate.code ∧ bits (.sl0 n) 24 5 = (s.sl0 n).margin ∧
        unused (.sl0 n) 0xE0EC0000#32 ∧ s.readShadow (.sl1 n) = 0#32) ∧
      (∀ n, bits (.ss n 0) 0 4 = (r n).state.code ∧ bits (.ss n 0) 4 1 = (r n).mode.code ∧
        bits (.ss n 0) 5 2 = BitVec.ofNat 2 (r n).attempt ∧
        (∀ l, (r n).lane = some l → (bits (.ss n 0) 8 3).toNat = l.val) ∧
            ((r n).lane = none → bits (.ss n 0) 8 3 = 7#3) ∧
        bits (.ss n 0) 12 1 = (r n).cardGood.code ∧ bits (.ss n 0) 16 4 = (r n).lastFailure.code ∧
        unused (.ss n 0) 0xFFF0E880#32) ∧
      (∀ n, bits (.ss n 1) 0 6 = (r n).lastGood.edge ∧ bits (.ss n 1) 8 6 = (r n).lock.lockTap ∧
        bits (.ss n 1) 16 6 = BitVec.ofNat 6 (r n).lock.spread ∧
        (-32 ≤ (r n).lock.drift → (r n).lock.drift ≤ 31 → (bits (.ss n 1) 24 6).toInt = (r n).lock.drift) ∧
        bits (.ss n 1) 30 1 = BitVec.ofBool (r n).lastGood.valid ∧ bits (.ss n 1) 31 1 = (r n).lastGood.rate.code ∧
        unused (.ss n 1) 0x00C0C0C0#32) ∧
      (∀ n, bits (.ss n 2) 0 16 = (r n).foundType ∧ bits (.ss n 2) 16 16 = (r n).foundRevision) ∧
      (∀ n, ((r n).state = .linked → bits (.ss n 3) 0 7 = BitVec.ofNat 7 (s.link n).orders.length) ∧
        ((r n).state ≠ .linked → bits (.ss n 3) 0 7 = 0#7) ∧
        bits (.ss n 3) 8 1 = BitVec.ofBool (s.link n).window.isSome ∧ unused (.ss n 3) 0xFFFFFE80#32) ∧
      (∀ i, let e := s.entry i
        (bits (.request i) 0 2 = e.code.code ∧ bits (.request i) 2 2 = e.fields.cls ∧
          bits (.request i) 4 5 = e.fields.a.slot ∧ bits (.request i) 9 6 = e.fields.a.port ∧
          bits (.request i) 16 5 = e.fields.b.slot ∧ bits (.request i) 21 6 = e.fields.b.port ∧
          unused (.request i) 0xF8008000#32) ∧
        (bits (.entryState i) 0 3 = e.state.code ∧ bits (.entryState i) 4 4 = e.outcome.code ∧
          bits (.entryState i) 8 1 = BitVec.ofBool e.releaseAfter ∧ bits (.entryState i) 9 1 = BitVec.ofBool e.doneA ∧
          bits (.entryState i) 10 1 = BitVec.ofBool e.doneB ∧ bits (.entryState i) 16 16 = e.tag ∧
          unused (.entryState i) 0x0000F808#32))) ∧
  (∀ r : Record,
      let bits := fun (k : Fin 4) (low count : Nat) => (r.word k).extractLsb' low count
      bits 0 0 8 = r.kind.code ∧ bits 0 16 8 = r.aux ∧ bits 1 16 16 = r.episode ∧ r.word 2 = r.stamp ∧
          r.word 3 = r.value ∧
      (∀ n, r.slot = some n → (bits 0 8 8).toNat = n.val) ∧ (r.slot = none → bits 0 8 8 = 0xFF#8) ∧
      (∀ c, r.cls = some c → (bits 0 24 8).toNat = c.toNat) ∧ (r.cls = none → bits 0 24 8 = 0xFF#8) ∧
      (∀ i, r.entry = some i → (bits 1 0 16).toNat = i.val) ∧ (r.entry = none → bits 1 0 16 = 0xFFFF#16)) ∧
  (∀ (d : Int) (e : Tap), (driftValue d e).extractLsb' 0 6 = e ∧ driftValue d e &&& 0xC0FFFFC0#32 = 0#32 ∧
      (-32 ≤ d → d ≤ 31 → ((driftValue d e).extractLsb' 24 6).toInt = d)) ∧
  (∀ (n : SlotNo) (reason : RefusalReason), (entryFaultedValue n reason).toNat = 256 * n.val + reason.code.toNat) ∧
  (∀ cls cause : BitVec 8, (barrierOpenValue cls cause).toNat = 256 * cause.toNat + cls.toNat) ∧
  (∀ (index : BitVec 10) (reason : BitVec 8),
      (windowFaultValue index reason).toNat = 65536 * (4 * index.toNat) + reason.toNat) ∧
  ([ShelfState.normal, .sag, .settle, .recover].map (·.code.toNat) = [0, 1, 2, 3] ∧
    [SlotState.empty, .booting, .pending, .training, .identify, .linked, .held, .failed, .mismatch, .offline].map
      (·.code.toNat) = [0, 1, 2, 3, 4, 5, 6, 7, 8, 9] ∧
    [EntryState.idle, .waiting, .restoring, .live, .releasing, .faulted].map (·.code.toNat) = [0, 1, 2, 3, 4, 5] ∧
    [ReqOutcome.none, .accepted, .busy, .portInUse, .badEndpoint, .partialWrite, .badRequest, .refusedByCard, .released,
      .nothingToRelease].map (·.code.toNat) = [0, 1, 2, 3, 4, 5, 6, 7, 8, 9] ∧
    [RecordKind.sagBegin, .sagEnd, .recoverBegin, .recoverDone, .slotLinked, .slotFailed, .slotMismatch, .slotLost,
      .drift, .entryFaulted, .barrierOpen, .windowFault, .journalGap].map (·.code.toNat) =
      [1, 2, 3, 4, 5, 6, 7, 8, 9, 10, 11, 12, 13] ∧
    [Classification.none, .short, .long, .forced].map (·.code.toNat) = [0, 1, 2, 3] ∧
    [FailReason.none, .noEdge, .spread, .bootTimeout, .identTimeout].map (·.code.toNat) = [0, 1, 2, 3, 4] ∧
    [RefusalReason.portBusy, .noPort, .noRegister].map (·.code.toNat) = [1, 2, 3] ∧
    [RequestCode.none, .connect, .release].map (·.code.toNat) = [0, 1, 2] ∧
    [Mode.full, .verify].map (·.code.toNat) = [0, 1] ∧ [Rate.std, .fast].map (·.code.toNat) = [0, 1] ∧
    [Level.low, .good].map (·.code.toNat) = [0, 1])
end

