-- ==== Sys2Proof/Laws/State.lean ====
section
/-! SUPPORT. Reading after writing, one lemma per field per elementary update, so that no proof unfolds a record update.
-/

namespace Sys2Proof.Machine

/-! ## One element of a family, read after it or another has been written -/

@[simp] theorem State.slot_setSlot (s : State) (n m : SlotNo) (c : SlotContext) :
    (s.setSlot n c).slot m = if n = m then c else s.slot m := by
  simp [State.slot, State.setSlot, Vector.getElem_set, Fin.ext_iff]

@[simp] theorem State.link_setLink (s : State) (n m : SlotNo) (l : LinkUnit) :
    (s.setLink n l).link m = if n = m then l else s.link m := by
  simp [State.link, State.setLink, Vector.getElem_set, Fin.ext_iff]

@[simp] theorem State.lane_setLane (s : State) (l m : LaneNo) (w : Option Sweep) :
    (s.setLane l w).lane m = if l = m then w else s.lane m := by
  simp [State.lane, State.setLane, Vector.getElem_set, Fin.ext_iff]

@[simp] theorem State.card_setCard (s : State) (n m : SlotNo) (f : Filter) :
    (s.setCard n f).card m = if n = m then f else s.card m := by
  simp [State.card, State.setCard, Vector.getElem_set, Fin.ext_iff]

theorem State.slot_congr {s t : State} (h : t.slots = s.slots) (n : SlotNo) : t.slot n = s.slot n := by
  simp [State.slot, h]

theorem State.link_congr {s t : State} (h : t.links = s.links) (n : SlotNo) : t.link n = s.link n := by
  simp [State.link, h]

theorem State.lane_congr {s t : State} (h : t.lanes = s.lanes) (l : LaneNo) : t.lane l = s.lane l := by
  simp [State.lane, h]

theorem State.entry_congr {s t : State} (h : t.circuits = s.circuits) (i : EntryNo) : t.entry i = s.entry i := by
  simp [State.entry, h]

theorem State.sl0_congr {s t : State} (h : t.path = s.path) (n : SlotNo) : t.sl0 n = s.sl0 n := by
  simp [State.sl0, h]

/-! ## One element of a state given whole -/

variable {w : Supply} {b : Bool} {sl : Vector SlotContext 24} {q : Notices} {la : Vector (Option Sweep) 4}
  {li : Vector LinkUnit 24} {ct : CircuitTable} {re : RestoreEngine} {j : Journal} {pa : PassThrough}
  {ju : Judging} {m : List Host.Cell} {cr po : Bool} {pe : List Instr}

@[simp] theorem State.slots_getElem (s : State) (n : SlotNo) : s.slots[n.val] = s.slot n := rfl
@[simp] theorem State.links_getElem (s : State) (n : SlotNo) : s.links[n.val] = s.link n := rfl
@[simp] theorem State.lanes_getElem (s : State) (l : LaneNo) : s.lanes[l.val] = s.lane l := rfl
@[simp] theorem State.cards_getElem (s : State) (n : SlotNo) : s.supply.cards[n.val] = s.card n := rfl
@[simp] theorem State.captured_getElem (s : State) (n : SlotNo) : s.path.captured.slot[n.val] = s.sl0 n := rfl
@[simp] theorem State.entries_lookup (s : State) (i : EntryNo) :
    (Sparse.lookup s.circuits.entries i.val).getD .initial = s.entry i := rfl
@[simp] theorem State.index_lookup (s : State) (p : Endpoint) :
    Sparse.lookup s.circuits.index (endpointKey p) = s.holder p := rfl
@[simp] theorem State.slot_mk (n : SlotNo) : (State.mk w b sl q la li ct re j pa ju m cr po pe).slot n = sl[n] := rfl
@[simp] theorem State.link_mk (n : SlotNo) : (State.mk w b sl q la li ct re j pa ju m cr po pe).link n = li[n] := rfl
@[simp] theorem State.lane_mk (l : LaneNo) : (State.mk w b sl q la li ct re j pa ju m cr po pe).lane l = la[l] := rfl
@[simp] theorem State.card_mk (n : SlotNo) : (State.mk w b sl q la li ct re j pa ju m cr po pe).card n = w.cards[n] := rfl
@[simp] theorem State.sl0_mk (n : SlotNo) : (State.mk w b sl q la li ct re j pa ju m cr po pe).sl0 n = pa.captured.slot[n] := rfl
@[simp] theorem State.entry_mk (i : EntryNo) : (State.mk w b sl q la li ct re j pa ju m cr po pe).entry i =
    (Sparse.lookup ct.entries i.val).getD .initial := rfl
@[simp] theorem State.holder_mk (p : Endpoint) : (State.mk w b sl q la li ct re j pa ju m cr po pe).holder p =
    Sparse.lookup ct.index (endpointKey p) := rfl
@[simp] theorem State.clock_mk : (State.mk w b sl q la li ct re j pa ju m cr po pe).clock = w.clock := rfl

/-! ## `State.setSlot` -/

@[simp] theorem State.setSlot_supply (s : State) (n : SlotNo) (c : SlotContext) : (s.setSlot n c).supply = s.supply := rfl
@[simp] theorem State.setSlot_watching (s : State) (n : SlotNo) (c : SlotContext) : (s.setSlot n c).watching = s.watching := rfl
@[simp] theorem State.setSlot_notices (s : State) (n : SlotNo) (c : SlotContext) : (s.setSlot n c).notices = s.notices := rfl
@[simp] theorem State.setSlot_lanes (s : State) (n : SlotNo) (c : SlotContext) : (s.setSlot n c).lanes = s.lanes := rfl
@[simp] theorem State.setSlot_links (s : State) (n : SlotNo) (c : SlotContext) : (s.setSlot n c).links = s.links := rfl
@[simp] theorem State.setSlot_circuits (s : State) (n : SlotNo) (c : SlotContext) : (s.setSlot n c).circuits = s.circuits := rfl
@[simp] theorem State.setSlot_restore (s : State) (n : SlotNo) (c : SlotContext) : (s.setSlot n c).restore = s.restore := rfl
@[simp] theorem State.setSlot_journal (s : State) (n : SlotNo) (c : SlotContext) : (s.setSlot n c).journal = s.journal := rfl
@[simp] theorem State.setSlot_path (s : State) (n : SlotNo) (c : SlotContext) : (s.setSlot n c).path = s.path := rfl
@[simp] theorem State.setSlot_memory (s : State) (n : SlotNo) (c : SlotContext) : (s.setSlot n c).memory = s.memory := rfl
@[simp] theorem State.setSlot_ctrlReset (s : State) (n : SlotNo) (c : SlotContext) : (s.setSlot n c).ctrlReset = s.ctrlReset := rfl
@[simp] theorem State.setSlot_por (s : State) (n : SlotNo) (c : SlotContext) : (s.setSlot n c).por = s.por := rfl
@[simp] theorem State.setSlot_judging (s : State) (n : SlotNo) (c : SlotContext) : (s.setSlot n c).judging = s.judging := rfl
@[simp] theorem State.setSlot_pending (s : State) (n : SlotNo) (c : SlotContext) : (s.setSlot n c).pending = s.pending := rfl

/-! ## `State.setLink` -/

@[simp] theorem State.setLink_supply (s : State) (n : SlotNo) (l : LinkUnit) : (s.setLink n l).supply = s.supply := rfl
@[simp] theorem State.setLink_watching (s : State) (n : SlotNo) (l : LinkUnit) : (s.setLink n l).watching = s.watching := rfl
@[simp] theorem State.setLink_slots (s : State) (n : SlotNo) (l : LinkUnit) : (s.setLink n l).slots = s.slots := rfl
@[simp] theorem State.setLink_notices (s : State) (n : SlotNo) (l : LinkUnit) : (s.setLink n l).notices = s.notices := rfl
@[simp] theorem State.setLink_lanes (s : State) (n : SlotNo) (l : LinkUnit) : (s.setLink n l).lanes = s.lanes := rfl
@[simp] theorem State.setLink_circuits (s : State) (n : SlotNo) (l : LinkUnit) : (s.setLink n l).circuits = s.circuits := rfl
@[simp] theorem State.setLink_restore (s : State) (n : SlotNo) (l : LinkUnit) : (s.setLink n l).restore = s.restore := rfl
@[simp] theorem State.setLink_journal (s : State) (n : SlotNo) (l : LinkUnit) : (s.setLink n l).journal = s.journal := rfl
@[simp] theorem State.setLink_path (s : State) (n : SlotNo) (l : LinkUnit) : (s.setLink n l).path = s.path := rfl
@[simp] theorem State.setLink_memory (s : State) (n : SlotNo) (l : LinkUnit) : (s.setLink n l).memory = s.memory := rfl
@[simp] theorem State.setLink_ctrlReset (s : State) (n : SlotNo) (l : LinkUnit) : (s.setLink n l).ctrlReset = s.ctrlReset := rfl
@[simp] theorem State.setLink_por (s : State) (n : SlotNo) (l : LinkUnit) : (s.setLink n l).por = s.por := rfl
@[simp] theorem State.setLink_judging (s : State) (n : SlotNo) (l : LinkUnit) : (s.setLink n l).judging = s.judging := rfl
@[simp] theorem State.setLink_pending (s : State) (n : SlotNo) (l : LinkUnit) : (s.setLink n l).pending = s.pending := rfl

/-! ## `State.setLane` -/

@[simp] theorem State.setLane_supply (s : State) (l : LaneNo) (w : Option Sweep) : (s.setLane l w).supply = s.supply := rfl
@[simp] theorem State.setLane_watching (s : State) (l : LaneNo) (w : Option Sweep) : (s.setLane l w).watching = s.watching := rfl
@[simp] theorem State.setLane_slots (s : State) (l : LaneNo) (w : Option Sweep) : (s.setLane l w).slots = s.slots := rfl
@[simp] theorem State.setLane_notices (s : State) (l : LaneNo) (w : Option Sweep) : (s.setLane l w).notices = s.notices := rfl
@[simp] theorem State.setLane_links (s : State) (l : LaneNo) (w : Option Sweep) : (s.setLane l w).links = s.links := rfl
@[simp] theorem State.setLane_circuits (s : State) (l : LaneNo) (w : Option Sweep) : (s.setLane l w).circuits = s.circuits := rfl
@[simp] theorem State.setLane_restore (s : State) (l : LaneNo) (w : Option Sweep) : (s.setLane l w).restore = s.restore := rfl
@[simp] theorem State.setLane_journal (s : State) (l : LaneNo) (w : Option Sweep) : (s.setLane l w).journal = s.journal := rfl
@[simp] theorem State.setLane_path (s : State) (l : LaneNo) (w : Option Sweep) : (s.setLane l w).path = s.path := rfl
@[simp] theorem State.setLane_memory (s : State) (l : LaneNo) (w : Option Sweep) : (s.setLane l w).memory = s.memory := rfl
@[simp] theorem State.setLane_ctrlReset (s : State) (l : LaneNo) (w : Option Sweep) : (s.setLane l w).ctrlReset = s.ctrlReset := rfl
@[simp] theorem State.setLane_por (s : State) (l : LaneNo) (w : Option Sweep) : (s.setLane l w).por = s.por := rfl
@[simp] theorem State.setLane_judging (s : State) (l : LaneNo) (w : Option Sweep) : (s.setLane l w).judging = s.judging := rfl
@[simp] theorem State.setLane_pending (s : State) (l : LaneNo) (w : Option Sweep) : (s.setLane l w).pending = s.pending := rfl

/-! ## `State.setCard` -/

@[simp] theorem State.setCard_watching (s : State) (n : SlotNo) (f : Filter) : (s.setCard n f).watching = s.watching := rfl
@[simp] theorem State.setCard_slots (s : State) (n : SlotNo) (f : Filter) : (s.setCard n f).slots = s.slots := rfl
@[simp] theorem State.setCard_notices (s : State) (n : SlotNo) (f : Filter) : (s.setCard n f).notices = s.notices := rfl
@[simp] theorem State.setCard_lanes (s : State) (n : SlotNo) (f : Filter) : (s.setCard n f).lanes = s.lanes := rfl
@[simp] theorem State.setCard_links (s : State) (n : SlotNo) (f : Filter) : (s.setCard n f).links = s.links := rfl
@[simp] theorem State.setCard_circuits (s : State) (n : SlotNo) (f : Filter) : (s.setCard n f).circuits = s.circuits := rfl
@[simp] theorem State.setCard_restore (s : State) (n : SlotNo) (f : Filter) : (s.setCard n f).restore = s.restore := rfl
@[simp] theorem State.setCard_journal (s : State) (n : SlotNo) (f : Filter) : (s.setCard n f).journal = s.journal := rfl
@[simp] theorem State.setCard_path (s : State) (n : SlotNo) (f : Filter) : (s.setCard n f).path = s.path := rfl
@[simp] theorem State.setCard_memory (s : State) (n : SlotNo) (f : Filter) : (s.setCard n f).memory = s.memory := rfl
@[simp] theorem State.setCard_ctrlReset (s : State) (n : SlotNo) (f : Filter) : (s.setCard n f).ctrlReset = s.ctrlReset := rfl
@[simp] theorem State.setCard_por (s : State) (n : SlotNo) (f : Filter) : (s.setCard n f).por = s.por := rfl
@[simp] theorem State.setCard_judging (s : State) (n : SlotNo) (f : Filter) : (s.setCard n f).judging = s.judging := rfl
@[simp] theorem State.setCard_pending (s : State) (n : SlotNo) (f : Filter) : (s.setCard n f).pending = s.pending := rfl

/-! ## `State.raise` -/

@[simp] theorem State.raise_supply (s : State) (r : Record) : (s.raise r).supply = s.supply := rfl
@[simp] theorem State.raise_watching (s : State) (r : Record) : (s.raise r).watching = s.watching := rfl
@[simp] theorem State.raise_slots (s : State) (r : Record) : (s.raise r).slots = s.slots := rfl
@[simp] theorem State.raise_notices (s : State) (r : Record) : (s.raise r).notices = s.notices := rfl
@[simp] theorem State.raise_lanes (s : State) (r : Record) : (s.raise r).lanes = s.lanes := rfl
@[simp] theorem State.raise_links (s : State) (r : Record) : (s.raise r).links = s.links := rfl
@[simp] theorem State.raise_circuits (s : State) (r : Record) : (s.raise r).circuits = s.circuits := rfl
@[simp] theorem State.raise_restore (s : State) (r : Record) : (s.raise r).restore = s.restore := rfl
@[simp] theorem State.raise_path (s : State) (r : Record) : (s.raise r).path = s.path := rfl
@[simp] theorem State.raise_memory (s : State) (r : Record) : (s.raise r).memory = s.memory := rfl
@[simp] theorem State.raise_ctrlReset (s : State) (r : Record) : (s.raise r).ctrlReset = s.ctrlReset := rfl
@[simp] theorem State.raise_por (s : State) (r : Record) : (s.raise r).por = s.por := rfl
@[simp] theorem State.raise_judging (s : State) (r : Record) : (s.raise r).judging = s.judging := rfl
@[simp] theorem State.raise_pending (s : State) (r : Record) : (s.raise r).pending = s.pending := rfl

/-! ## `State.putEntry` -/

@[simp] theorem State.putEntry_supply (s : State) (i : EntryNo) (e : Entry) : (s.putEntry i e).supply = s.supply := rfl
@[simp] theorem State.putEntry_watching (s : State) (i : EntryNo) (e : Entry) : (s.putEntry i e).watching = s.watching := rfl
@[simp] theorem State.putEntry_slots (s : State) (i : EntryNo) (e : Entry) : (s.putEntry i e).slots = s.slots := rfl
@[simp] theorem State.putEntry_notices (s : State) (i : EntryNo) (e : Entry) : (s.putEntry i e).notices = s.notices := rfl
@[simp] theorem State.putEntry_lanes (s : State) (i : EntryNo) (e : Entry) : (s.putEntry i e).lanes = s.lanes := rfl
@[simp] theorem State.putEntry_links (s : State) (i : EntryNo) (e : Entry) : (s.putEntry i e).links = s.links := rfl
@[simp] theorem State.putEntry_journal (s : State) (i : EntryNo) (e : Entry) : (s.putEntry i e).journal = s.journal := rfl
@[simp] theorem State.putEntry_path (s : State) (i : EntryNo) (e : Entry) : (s.putEntry i e).path = s.path := rfl
@[simp] theorem State.putEntry_memory (s : State) (i : EntryNo) (e : Entry) : (s.putEntry i e).memory = s.memory := rfl
@[simp] theorem State.putEntry_ctrlReset (s : State) (i : EntryNo) (e : Entry) : (s.putEntry i e).ctrlReset = s.ctrlReset := rfl
@[simp] theorem State.putEntry_por (s : State) (i : EntryNo) (e : Entry) : (s.putEntry i e).por = s.por := rfl
@[simp] theorem State.putEntry_judging (s : State) (i : EntryNo) (e : Entry) : (s.putEntry i e).judging = s.judging := rfl
@[simp] theorem State.putEntry_pending (s : State) (i : EntryNo) (e : Entry) : (s.putEntry i e).pending = s.pending := rfl

@[simp] theorem State.putEntry_phase (s : State) (i : EntryNo) (e : Entry) : (s.putEntry i e).restore.phase = s.restore.phase := rfl
@[simp] theorem State.putEntry_lowestClosed (s : State) (i : EntryNo) (e : Entry) : (s.putEntry i e).restore.lowestClosed = s.restore.lowestClosed := rfl
@[simp] theorem State.putEntry_timer (s : State) (i : EntryNo) (e : Entry) : (s.putEntry i e).restore.timer = s.restore.timer := rfl
@[simp] theorem State.putEntry_admissions (s : State) (i : EntryNo) (e : Entry) : (s.putEntry i e).circuits.admissions = s.circuits.admissions := rfl
@[simp] theorem State.putEntry_ageList (s : State) (i : EntryNo) (e : Entry) : (s.putEntry i e).circuits.ageList = s.circuits.ageList := rfl
@[simp] theorem State.putEntry_index (s : State) (i : EntryNo) (e : Entry) : (s.putEntry i e).circuits.index = s.circuits.index := rfl

/-! ## `State.answered` -/

@[simp] theorem State.answered_supply (s : State) (a : CycleAnswer) : (s.answered a).supply = s.supply := rfl
@[simp] theorem State.answered_watching (s : State) (a : CycleAnswer) : (s.answered a).watching = s.watching := rfl
@[simp] theorem State.answered_slots (s : State) (a : CycleAnswer) : (s.answered a).slots = s.slots := rfl
@[simp] theorem State.answered_notices (s : State) (a : CycleAnswer) : (s.answered a).notices = s.notices := rfl
@[simp] theorem State.answered_lanes (s : State) (a : CycleAnswer) : (s.answered a).lanes = s.lanes := rfl
@[simp] theorem State.answered_links (s : State) (a : CycleAnswer) : (s.answered a).links = s.links := rfl
@[simp] theorem State.answered_circuits (s : State) (a : CycleAnswer) : (s.answered a).circuits = s.circuits := rfl
@[simp] theorem State.answered_restore (s : State) (a : CycleAnswer) : (s.answered a).restore = s.restore := rfl
@[simp] theorem State.answered_journal (s : State) (a : CycleAnswer) : (s.answered a).journal = s.journal := rfl
@[simp] theorem State.answered_memory (s : State) (a : CycleAnswer) : (s.answered a).memory = s.memory := rfl
@[simp] theorem State.answered_ctrlReset (s : State) (a : CycleAnswer) : (s.answered a).ctrlReset = s.ctrlReset := rfl
@[simp] theorem State.answered_por (s : State) (a : CycleAnswer) : (s.answered a).por = s.por := rfl
@[simp] theorem State.answered_judging (s : State) (a : CycleAnswer) : (s.answered a).judging = s.judging := rfl
@[simp] theorem State.answered_pending (s : State) (a : CycleAnswer) : (s.answered a).pending = s.pending := rfl

/-! ## `State.driveAttention` -/

@[simp] theorem State.driveAttention_supply (s : State) : (s.driveAttention).supply = s.supply := rfl
@[simp] theorem State.driveAttention_watching (s : State) : (s.driveAttention).watching = s.watching := rfl
@[simp] theorem State.driveAttention_slots (s : State) : (s.driveAttention).slots = s.slots := rfl
@[simp] theorem State.driveAttention_notices (s : State) : (s.driveAttention).notices = s.notices := rfl
@[simp] theorem State.driveAttention_lanes (s : State) : (s.driveAttention).lanes = s.lanes := rfl
@[simp] theorem State.driveAttention_links (s : State) : (s.driveAttention).links = s.links := rfl
@[simp] theorem State.driveAttention_circuits (s : State) : (s.driveAttention).circuits = s.circuits := rfl
@[simp] theorem State.driveAttention_restore (s : State) : (s.driveAttention).restore = s.restore := rfl
@[simp] theorem State.driveAttention_path (s : State) : (s.driveAttention).path = s.path := rfl
@[simp] theorem State.driveAttention_memory (s : State) : (s.driveAttention).memory = s.memory := rfl
@[simp] theorem State.driveAttention_ctrlReset (s : State) : (s.driveAttention).ctrlReset = s.ctrlReset := rfl
@[simp] theorem State.driveAttention_por (s : State) : (s.driveAttention).por = s.por := rfl
@[simp] theorem State.driveAttention_judging (s : State) : (s.driveAttention).judging = s.judging := rfl
@[simp] theorem State.driveAttention_pending (s : State) : (s.driveAttention).pending = s.pending := rfl

/-! ## `State.capture` -/

@[simp] theorem State.capture_supply (s : State) (c : Captured) : (s.capture c).supply = s.supply := rfl
@[simp] theorem State.capture_watching (s : State) (c : Captured) : (s.capture c).watching = s.watching := rfl
@[simp] theorem State.capture_slots (s : State) (c : Captured) : (s.capture c).slots = s.slots := rfl
@[simp] theorem State.capture_notices (s : State) (c : Captured) : (s.capture c).notices = s.notices := rfl
@[simp] theorem State.capture_lanes (s : State) (c : Captured) : (s.capture c).lanes = s.lanes := rfl
@[simp] theorem State.capture_links (s : State) (c : Captured) : (s.capture c).links = s.links := rfl
@[simp] theorem State.capture_circuits (s : State) (c : Captured) : (s.capture c).circuits = s.circuits := rfl
@[simp] theorem State.capture_restore (s : State) (c : Captured) : (s.capture c).restore = s.restore := rfl
@[simp] theorem State.capture_journal (s : State) (c : Captured) : (s.capture c).journal = s.journal := rfl
@[simp] theorem State.capture_memory (s : State) (c : Captured) : (s.capture c).memory = s.memory := rfl
@[simp] theorem State.capture_ctrlReset (s : State) (c : Captured) : (s.capture c).ctrlReset = s.ctrlReset := rfl
@[simp] theorem State.capture_por (s : State) (c : Captured) : (s.capture c).por = s.por := rfl
@[simp] theorem State.capture_judging (s : State) (c : Captured) : (s.capture c).judging = s.judging := rfl
@[simp] theorem State.capture_pending (s : State) (c : Captured) : (s.capture c).pending = s.pending := rfl

/-! ## `State.sendDeparture` -/

@[simp] theorem State.sendDeparture_supply (s : State) (n : SlotNo) : (s.sendDeparture n).supply = s.supply := rfl
@[simp] theorem State.sendDeparture_watching (s : State) (n : SlotNo) : (s.sendDeparture n).watching = s.watching := rfl
@[simp] theorem State.sendDeparture_slots (s : State) (n : SlotNo) : (s.sendDeparture n).slots = s.slots := rfl
@[simp] theorem State.sendDeparture_lanes (s : State) (n : SlotNo) : (s.sendDeparture n).lanes = s.lanes := rfl
@[simp] theorem State.sendDeparture_links (s : State) (n : SlotNo) : (s.sendDeparture n).links = s.links := rfl
@[simp] theorem State.sendDeparture_circuits (s : State) (n : SlotNo) : (s.sendDeparture n).circuits = s.circuits := rfl
@[simp] theorem State.sendDeparture_restore (s : State) (n : SlotNo) : (s.sendDeparture n).restore = s.restore := rfl
@[simp] theorem State.sendDeparture_journal (s : State) (n : SlotNo) : (s.sendDeparture n).journal = s.journal := rfl
@[simp] theorem State.sendDeparture_path (s : State) (n : SlotNo) : (s.sendDeparture n).path = s.path := rfl
@[simp] theorem State.sendDeparture_memory (s : State) (n : SlotNo) : (s.sendDeparture n).memory = s.memory := rfl
@[simp] theorem State.sendDeparture_ctrlReset (s : State) (n : SlotNo) : (s.sendDeparture n).ctrlReset = s.ctrlReset := rfl
@[simp] theorem State.sendDeparture_por (s : State) (n : SlotNo) : (s.sendDeparture n).por = s.por := rfl
@[simp] theorem State.sendDeparture_judging (s : State) (n : SlotNo) : (s.sendDeparture n).judging = s.judging := rfl
@[simp] theorem State.sendDeparture_pending (s : State) (n : SlotNo) : (s.sendDeparture n).pending = s.pending := rfl

/-! ## `State.judged` -/

@[simp] theorem State.judged_supply (s t : State) : (s.judged t).supply = t.supply := rfl
@[simp] theorem State.judged_watching (s t : State) : (s.judged t).watching = t.watching := rfl
@[simp] theorem State.judged_slots (s t : State) : (s.judged t).slots = t.slots := rfl
@[simp] theorem State.judged_notices (s t : State) : (s.judged t).notices = t.notices := rfl
@[simp] theorem State.judged_lanes (s t : State) : (s.judged t).lanes = t.lanes := rfl
@[simp] theorem State.judged_links (s t : State) : (s.judged t).links = t.links := rfl
@[simp] theorem State.judged_circuits (s t : State) : (s.judged t).circuits = t.circuits := rfl
@[simp] theorem State.judged_restore (s t : State) : (s.judged t).restore = t.restore := rfl
@[simp] theorem State.judged_journal (s t : State) : (s.judged t).journal = t.journal := rfl
@[simp] theorem State.judged_path (s t : State) : (s.judged t).path = t.path := rfl
@[simp] theorem State.judged_memory (s t : State) : (s.judged t).memory = t.memory := rfl
@[simp] theorem State.judged_ctrlReset (s t : State) : (s.judged t).ctrlReset = t.ctrlReset := rfl
@[simp] theorem State.judged_por (s t : State) : (s.judged t).por = t.por := rfl
@[simp] theorem State.judged_pending (s t : State) : (s.judged t).pending = t.pending := rfl

/-- The moments at which the settled condition is judged (R12), and what a changed floor leaves due (R146): nothing else
of the state is touched. -/
theorem State.judged_eq (s t : State) : s.judged t = { t with judging := (s.judged t).judging } := rfl

/-! ## Elements that an update leaves -/

@[simp] theorem State.link_setSlot (s : State) (n : SlotNo) (c : SlotContext) (m : SlotNo) : (s.setSlot n c).link m = s.link m := rfl
@[simp] theorem State.lane_setSlot (s : State) (n : SlotNo) (c : SlotContext) (m : LaneNo) : (s.setSlot n c).lane m = s.lane m := rfl
@[simp] theorem State.entry_setSlot (s : State) (n : SlotNo) (c : SlotContext) (m : EntryNo) : (s.setSlot n c).entry m = s.entry m := rfl
@[simp] theorem State.sl0_setSlot (s : State) (n : SlotNo) (c : SlotContext) (m : SlotNo) : (s.setSlot n c).sl0 m = s.sl0 m := rfl
@[simp] theorem State.slot_setLink (s : State) (n : SlotNo) (l : LinkUnit) (m : SlotNo) : (s.setLink n l).slot m = s.slot m := rfl
@[simp] theorem State.lane_setLink (s : State) (n : SlotNo) (l : LinkUnit) (m : LaneNo) : (s.setLink n l).lane m = s.lane m := rfl
@[simp] theorem State.entry_setLink (s : State) (n : SlotNo) (l : LinkUnit) (m : EntryNo) : (s.setLink n l).entry m = s.entry m := rfl
@[simp] theorem State.sl0_setLink (s : State) (n : SlotNo) (l : LinkUnit) (m : SlotNo) : (s.setLink n l).sl0 m = s.sl0 m := rfl
@[simp] theorem State.slot_setLane (s : State) (l : LaneNo) (w : Option Sweep) (m : SlotNo) : (s.setLane l w).slot m = s.slot m := rfl
@[simp] theorem State.link_setLane (s : State) (l : LaneNo) (w : Option Sweep) (m : SlotNo) : (s.setLane l w).link m = s.link m := rfl
@[simp] theorem State.entry_setLane (s : State) (l : LaneNo) (w : Option Sweep) (m : EntryNo) : (s.setLane l w).entry m = s.entry m := rfl
@[simp] theorem State.sl0_setLane (s : State) (l : LaneNo) (w : Option Sweep) (m : SlotNo) : (s.setLane l w).sl0 m = s.sl0 m := rfl
@[simp] theorem State.slot_setCard (s : State) (n : SlotNo) (f : Filter) (m : SlotNo) : (s.setCard n f).slot m = s.slot m := rfl
@[simp] theorem State.link_setCard (s : State) (n : SlotNo) (f : Filter) (m : SlotNo) : (s.setCard n f).link m = s.link m := rfl
@[simp] theorem State.lane_setCard (s : State) (n : SlotNo) (f : Filter) (m : LaneNo) : (s.setCard n f).lane m = s.lane m := rfl
@[simp] theorem State.entry_setCard (s : State) (n : SlotNo) (f : Filter) (m : EntryNo) : (s.setCard n f).entry m = s.entry m := rfl
@[simp] theorem State.sl0_setCard (s : State) (n : SlotNo) (f : Filter) (m : SlotNo) : (s.setCard n f).sl0 m = s.sl0 m := rfl
@[simp] theorem State.slot_raise (s : State) (r : Record) (m : SlotNo) : (s.raise r).slot m = s.slot m := rfl
@[simp] theorem State.link_raise (s : State) (r : Record) (m : SlotNo) : (s.raise r).link m = s.link m := rfl
@[simp] theorem State.lane_raise (s : State) (r : Record) (m : LaneNo) : (s.raise r).lane m = s.lane m := rfl
@[simp] theorem State.entry_raise (s : State) (r : Record) (m : EntryNo) : (s.raise r).entry m = s.entry m := rfl
@[simp] theorem State.sl0_raise (s : State) (r : Record) (m : SlotNo) : (s.raise r).sl0 m = s.sl0 m := rfl
@[simp] theorem State.slot_putEntry (s : State) (i : EntryNo) (e : Entry) (m : SlotNo) : (s.putEntry i e).slot m = s.slot m := rfl
@[simp] theorem State.link_putEntry (s : State) (i : EntryNo) (e : Entry) (m : SlotNo) : (s.putEntry i e).link m = s.link m := rfl
@[simp] theorem State.lane_putEntry (s : State) (i : EntryNo) (e : Entry) (m : LaneNo) : (s.putEntry i e).lane m = s.lane m := rfl
@[simp] theorem State.sl0_putEntry (s : State) (i : EntryNo) (e : Entry) (m : SlotNo) : (s.putEntry i e).sl0 m = s.sl0 m := rfl
@[simp] theorem State.slot_answered (s : State) (a : CycleAnswer) (m : SlotNo) : (s.answered a).slot m = s.slot m := rfl
@[simp] theorem State.link_answered (s : State) (a : CycleAnswer) (m : SlotNo) : (s.answered a).link m = s.link m := rfl
@[simp] theorem State.lane_answered (s : State) (a : CycleAnswer) (m : LaneNo) : (s.answered a).lane m = s.lane m := rfl
@[simp] theorem State.entry_answered (s : State) (a : CycleAnswer) (m : EntryNo) : (s.answered a).entry m = s.entry m := rfl
@[simp] theorem State.slot_driveAttention (s : State) (m : SlotNo) : (s.driveAttention).slot m = s.slot m := rfl
@[simp] theorem State.link_driveAttention (s : State) (m : SlotNo) : (s.driveAttention).link m = s.link m := rfl
@[simp] theorem State.lane_driveAttention (s : State) (m : LaneNo) : (s.driveAttention).lane m = s.lane m := rfl
@[simp] theorem State.entry_driveAttention (s : State) (m : EntryNo) : (s.driveAttention).entry m = s.entry m := rfl
@[simp] theorem State.sl0_driveAttention (s : State) (m : SlotNo) : (s.driveAttention).sl0 m = s.sl0 m := rfl
@[simp] theorem State.slot_capture (s : State) (c : Captured) (m : SlotNo) : (s.capture c).slot m = s.slot m := rfl
@[simp] theorem State.link_capture (s : State) (c : Captured) (m : SlotNo) : (s.capture c).link m = s.link m := rfl
@[simp] theorem State.lane_capture (s : State) (c : Captured) (m : LaneNo) : (s.capture c).lane m = s.lane m := rfl
@[simp] theorem State.entry_capture (s : State) (c : Captured) (m : EntryNo) : (s.capture c).entry m = s.entry m := rfl
@[simp] theorem State.slot_sendDeparture (s : State) (n : SlotNo) (m : SlotNo) : (s.sendDeparture n).slot m = s.slot m := rfl
@[simp] theorem State.link_sendDeparture (s : State) (n : SlotNo) (m : SlotNo) : (s.sendDeparture n).link m = s.link m := rfl
@[simp] theorem State.lane_sendDeparture (s : State) (n : SlotNo) (m : LaneNo) : (s.sendDeparture n).lane m = s.lane m := rfl
@[simp] theorem State.entry_sendDeparture (s : State) (n : SlotNo) (m : EntryNo) : (s.sendDeparture n).entry m = s.entry m := rfl
@[simp] theorem State.sl0_sendDeparture (s : State) (n : SlotNo) (m : SlotNo) : (s.sendDeparture n).sl0 m = s.sl0 m := rfl

@[simp] theorem State.sl0_answered (s : State) (a : CycleAnswer) (m : SlotNo) : (s.answered a).sl0 m = s.sl0 m := rfl

@[simp] theorem State.clock_setSlot (s : State) (n : SlotNo) (c : SlotContext) : (s.setSlot n c).clock = s.clock := rfl
@[simp] theorem State.clock_setLink (s : State) (n : SlotNo) (l : LinkUnit) : (s.setLink n l).clock = s.clock := rfl
@[simp] theorem State.clock_raise (s : State) (r : Record) : (s.raise r).clock = s.clock := rfl

@[simp] theorem State.card_setSlot (s : State) (n : SlotNo) (c : SlotContext) (m : SlotNo) : (s.setSlot n c).card m = s.card m := rfl
@[simp] theorem State.holder_setSlot (s : State) (n : SlotNo) (c : SlotContext) (p : Endpoint) : (s.setSlot n c).holder p = s.holder p := rfl
@[simp] theorem State.card_setLink (s : State) (n : SlotNo) (l : LinkUnit) (m : SlotNo) : (s.setLink n l).card m = s.card m := rfl
@[simp] theorem State.holder_setLink (s : State) (n : SlotNo) (l : LinkUnit) (p : Endpoint) : (s.setLink n l).holder p = s.holder p := rfl
@[simp] theorem State.card_setLane (s : State) (l : LaneNo) (w : Option Sweep) (m : SlotNo) : (s.setLane l w).card m = s.card m := rfl
@[simp] theorem State.clock_setLane (s : State) (l : LaneNo) (w : Option Sweep) : (s.setLane l w).clock = s.clock := rfl
@[simp] theorem State.holder_setLane (s : State) (l : LaneNo) (w : Option Sweep) (p : Endpoint) : (s.setLane l w).holder p = s.holder p := rfl
@[simp] theorem State.card_raise (s : State) (r : Record) (m : SlotNo) : (s.raise r).card m = s.card m := rfl
@[simp] theorem State.holder_raise (s : State) (r : Record) (p : Endpoint) : (s.raise r).holder p = s.holder p := rfl
@[simp] theorem State.card_putEntry (s : State) (i : EntryNo) (e : Entry) (m : SlotNo) : (s.putEntry i e).card m = s.card m := rfl
@[simp] theorem State.clock_putEntry (s : State) (i : EntryNo) (e : Entry) : (s.putEntry i e).clock = s.clock := rfl
@[simp] theorem State.holder_putEntry (s : State) (i : EntryNo) (e : Entry) (p : Endpoint) : (s.putEntry i e).holder p = s.holder p := rfl
@[simp] theorem State.card_answered (s : State) (a : CycleAnswer) (m : SlotNo) : (s.answered a).card m = s.card m := rfl
@[simp] theorem State.clock_answered (s : State) (a : CycleAnswer) : (s.answered a).clock = s.clock := rfl
@[simp] theorem State.holder_answered (s : State) (a : CycleAnswer) (p : Endpoint) : (s.answered a).holder p = s.holder p := rfl
@[simp] theorem State.card_driveAttention (s : State) (m : SlotNo) : (s.driveAttention).card m = s.card m := rfl
@[simp] theorem State.clock_driveAttention (s : State) : (s.driveAttention).clock = s.clock := rfl
@[simp] theorem State.holder_driveAttention (s : State) (p : Endpoint) : (s.driveAttention).holder p = s.holder p := rfl
@[simp] theorem State.card_capture (s : State) (c : Captured) (m : SlotNo) : (s.capture c).card m = s.card m := rfl
@[simp] theorem State.clock_capture (s : State) (c : Captured) : (s.capture c).clock = s.clock := rfl
@[simp] theorem State.holder_capture (s : State) (c : Captured) (p : Endpoint) : (s.capture c).holder p = s.holder p := rfl
@[simp] theorem State.card_sendDeparture (s : State) (n : SlotNo) (m : SlotNo) : (s.sendDeparture n).card m = s.card m := rfl
@[simp] theorem State.clock_sendDeparture (s : State) (n : SlotNo) : (s.sendDeparture n).clock = s.clock := rfl
@[simp] theorem State.holder_sendDeparture (s : State) (n : SlotNo) (p : Endpoint) : (s.sendDeparture n).holder p = s.holder p := rfl
@[simp] theorem State.clock_setCard (s : State) (n : SlotNo) (f : Filter) : (s.setCard n f).clock = s.clock := rfl
@[simp] theorem State.holder_setCard (s : State) (n : SlotNo) (f : Filter) (p : Endpoint) : (s.setCard n f).holder p = s.holder p := rfl

@[simp] theorem State.answered_path (s : State) (a : CycleAnswer) :
    (s.answered a).path = { s.path with ctrl := .idle, answer := a } := rfl
@[simp] theorem State.capture_path (s : State) (c : Captured) : (s.capture c).path = { s.path with captured := c } := rfl
@[simp] theorem State.sendDeparture_notices (s : State) (n : SlotNo) : (s.sendDeparture n).notices =
    { s.notices with departLink := s.notices.departLink ++ [n], departCircuits := s.notices.departCircuits ++ [n] } := rfl

@[simp] theorem State.slot_judged (s t : State) (n : SlotNo) : (s.judged t).slot n = t.slot n := rfl
@[simp] theorem State.link_judged (s t : State) (n : SlotNo) : (s.judged t).link n = t.link n := rfl
@[simp] theorem State.lane_judged (s t : State) (l : LaneNo) : (s.judged t).lane l = t.lane l := rfl
@[simp] theorem State.card_judged (s t : State) (n : SlotNo) : (s.judged t).card n = t.card n := rfl
@[simp] theorem State.sl0_judged (s t : State) (n : SlotNo) : (s.judged t).sl0 n = t.sl0 n := rfl
@[simp] theorem State.entry_judged (s t : State) (i : EntryNo) : (s.judged t).entry i = t.entry i := rfl
@[simp] theorem State.holder_judged (s t : State) (p : Endpoint) : (s.judged t).holder p = t.holder p := rfl
@[simp] theorem State.readShadow_judged (s t : State) (w : ShadowWord) : (s.judged t).readShadow w = t.readShadow w := by
  cases w <;> rfl

/-! ## Writing one element twice, or as it was -/

@[simp] theorem State.setSlot_setSlot (s : State) (n : SlotNo) (c d : SlotContext) :
    (s.setSlot n c).setSlot n d = s.setSlot n d := by simp [State.setSlot]
@[simp] theorem State.setLink_setLink (s : State) (n : SlotNo) (k l : LinkUnit) :
    (s.setLink n k).setLink n l = s.setLink n l := by simp [State.setLink]
@[simp] theorem State.setLane_setLane (s : State) (l : LaneNo) (v w : Option Sweep) :
    (s.setLane l v).setLane l w = s.setLane l w := by simp [State.setLane]
@[simp] theorem State.setSlot_slot (s : State) (n : SlotNo) : s.setSlot n (s.slot n) = s := by
  simp [State.setSlot, State.slot, -State.slots_getElem]
@[simp] theorem State.setLink_link (s : State) (n : SlotNo) : s.setLink n (s.link n) = s := by
  simp [State.setLink, State.link, -State.links_getElem]

/-! ## Writes of different elements, in one order: slots, lanes, links -/

@[simp] theorem State.setSlot_setLink (s : State) (n m : SlotNo) (l : LinkUnit) (c : SlotContext) :
    (s.setLink n l).setSlot m c = (s.setSlot m c).setLink n l := rfl
@[simp] theorem State.setSlot_setLane (s : State) (l : LaneNo) (w : Option Sweep) (n : SlotNo) (c : SlotContext) :
    (s.setLane l w).setSlot n c = (s.setSlot n c).setLane l w := rfl
@[simp] theorem State.setLane_setLink (s : State) (n : SlotNo) (k : LinkUnit) (l : LaneNo) (w : Option Sweep) :
    (s.setLink n k).setLane l w = (s.setLane l w).setLink n k := rfl

/-! ## The fields of a Link Unit after a frame has been placed on its transmit pair -/

@[simp] theorem LinkUnit.finishFrame_exchange (l : LinkUnit) (t : Nat) : (l.finishFrame t).exchange = l.exchange := rfl
@[simp] theorem LinkUnit.finishFrame_nextTag (l : LinkUnit) (t : Nat) : (l.finishFrame t).nextTag = l.nextTag := rfl
@[simp] theorem LinkUnit.finishFrame_listening (l : LinkUnit) (t : Nat) : (l.finishFrame t).listening = l.listening := rfl
@[simp] theorem LinkUnit.finishFrame_orders (l : LinkUnit) (t : Nat) : (l.finishFrame t).orders = l.orders := rfl
@[simp] theorem LinkUnit.finishFrame_window (l : LinkUnit) (t : Nat) : (l.finishFrame t).window = l.window := rfl
@[simp] theorem LinkUnit.finishFrame_workingRate (l : LinkUnit) (t : Nat) : (l.finishFrame t).workingRate = l.workingRate := rfl
@[simp] theorem LinkUnit.finishFrame_workingTap (l : LinkUnit) (t : Nat) : (l.finishFrame t).workingTap = l.workingTap := rfl
@[simp] theorem LinkUnit.finishFrame_lossDeclared (l : LinkUnit) (t : Nat) : (l.finishFrame t).lossDeclared = l.lossDeclared := rfl
@[simp] theorem LinkUnit.finishFrame_idleFrom (l : LinkUnit) (t : Nat) : (l.finishFrame t).idleFrom = l.frameEnds t := rfl
@[simp] theorem LinkUnit.transmit_exchange (l : LinkUnit) (t : Nat) (w : Work) : (l.transmit t w).exchange = l.exchange := rfl
@[simp] theorem LinkUnit.transmit_nextTag (l : LinkUnit) (t : Nat) (w : Work) : (l.transmit t w).nextTag = l.nextTag := rfl
@[simp] theorem LinkUnit.transmit_listening (l : LinkUnit) (t : Nat) (w : Work) : (l.transmit t w).listening = l.listening := rfl
@[simp] theorem LinkUnit.transmit_orders (l : LinkUnit) (t : Nat) (w : Work) : (l.transmit t w).orders = l.orders := rfl
@[simp] theorem LinkUnit.transmit_window (l : LinkUnit) (t : Nat) (w : Work) : (l.transmit t w).window = l.window := rfl
@[simp] theorem LinkUnit.transmit_workingRate (l : LinkUnit) (t : Nat) (w : Work) : (l.transmit t w).workingRate = l.workingRate := rfl
@[simp] theorem LinkUnit.transmit_workingTap (l : LinkUnit) (t : Nat) (w : Work) : (l.transmit t w).workingTap = l.workingTap := rfl
@[simp] theorem LinkUnit.transmit_lossDeclared (l : LinkUnit) (t : Nat) (w : Work) : (l.transmit t w).lossDeclared = l.lossDeclared := rfl
@[simp] theorem LinkUnit.transmit_idleFrom (l : LinkUnit) (t : Nat) (w : Work) :
    (l.transmit t w).idleFrom = l.requestEnds t w := rfl

/-! ## Marks and done flags of an entry -/

@[simp] theorem Entry.setMark_state (e : Entry) (x : Side) (m : Mark) : (e.setMark x m).state = e.state := by
  cases x <;> rfl
@[simp] theorem Entry.setMark_fields (e : Entry) (x : Side) (m : Mark) : (e.setMark x m).fields = e.fields := by
  cases x <;> rfl
@[simp] theorem Entry.setMark_releaseAfter (e : Entry) (x : Side) (m : Mark) :
    (e.setMark x m).releaseAfter = e.releaseAfter := by cases x <;> rfl
@[simp] theorem Entry.setMark_done (e : Entry) (x y : Side) (m : Mark) : (e.setMark x m).done y = e.done y := by
  cases x <;> cases y <;> rfl
@[simp] theorem Entry.setMark_mark (e : Entry) (x y : Side) (m : Mark) :
    (e.setMark x m).mark y = if x = y then m else e.mark y := by cases x <;> cases y <;> rfl
@[simp] theorem Entry.setDone_state (e : Entry) (x : Side) (d : Bool) : (e.setDone x d).state = e.state := by
  cases x <;> rfl
@[simp] theorem Entry.setDone_fields (e : Entry) (x : Side) (d : Bool) : (e.setDone x d).fields = e.fields := by
  cases x <;> rfl
@[simp] theorem Entry.setDone_releaseAfter (e : Entry) (x : Side) (d : Bool) :
    (e.setDone x d).releaseAfter = e.releaseAfter := by cases x <;> rfl
@[simp] theorem Entry.setDone_mark (e : Entry) (x y : Side) (d : Bool) : (e.setDone x d).mark y = e.mark y := by
  cases x <;> cases y <;> rfl
@[simp] theorem Entry.setDone_done (e : Entry) (x y : Side) (d : Bool) :
    (e.setDone x d).done y = if x = y then d else e.done y := by cases x <;> cases y <;> rfl

end Sys2Proof.Machine
end

