-- ==== Sys2Proof/Laws/Memory.lean ====
section
/-! SUPPORT. The sparse tables (entries, endpoint index, store): reading after writing, and the canonical form that
every operation keeps. -/

namespace Sys2Proof.Machine

/-! ## Reading after writing -/

theorem Sparse.lookup_insert {α : Type} (l : List (Nat × α)) (k j : Nat) (v : α) :
    Sparse.lookup (Sparse.insert l k v) j = if k = j then some v else Sparse.lookup l j := by
  induction l with
  | nil => simp [Sparse.insert, Sparse.lookup]
  | cons p rest ih =>
    obtain ⟨i, w⟩ := p
    unfold Sparse.insert
    split
    · simp [Sparse.lookup]
    · split
      · rename_i _ h
        subst h
        by_cases hk : k = j <;> simp [Sparse.lookup, hk]
      · simp only [Sparse.lookup, ih]
        grind

theorem Sparse.lookup_erase {α : Type} (l : List (Nat × α)) (k j : Nat) :
    Sparse.lookup (Sparse.erase l k) j = if k = j then none else Sparse.lookup l j := by
  induction l with
  | nil => simp [Sparse.erase, Sparse.lookup]
  | cons p rest ih =>
    obtain ⟨i, w⟩ := p
    unfold Sparse.erase at *
    by_cases h : i = k <;> simp [Sparse.lookup, h] <;> grind

/-! ## The canonical form -/

theorem Sparse.mem_insert {α : Type} {l : List (Nat × α)} {k : Nat} {v : α} {p : Nat × α}
    (h : p ∈ Sparse.insert l k v) : p = (k, v) ∨ p ∈ l := by
  induction l with
  | nil => simpa [Sparse.insert] using h
  | cons q rest ih =>
    unfold Sparse.insert at h
    split at h
    · simpa using h
    · split at h <;> simp at h ⊢ <;> grind

theorem Sparse.wf_insert {α : Type} {l : List (Nat × α)} (h : Sparse.wf l) (k : Nat) (v : α) :
    Sparse.wf (Sparse.insert l k v) := by
  induction l with
  | nil => simp [Sparse.wf, Sparse.insert]
  | cons q rest ih =>
    obtain ⟨j, w⟩ := q
    obtain ⟨hq, hr⟩ := List.pairwise_cons.mp h
    unfold Sparse.insert
    split
    · rename_i hlt
      refine List.pairwise_cons.mpr ⟨fun p hp => ?_, h⟩
      obtain rfl | hp := List.mem_cons.mp hp
      · exact hlt
      · exact hlt.trans (hq p hp)
    · split
      · rename_i _ he
        subst he
        exact List.pairwise_cons.mpr ⟨hq, hr⟩
      · rename_i h1 h2
        refine List.pairwise_cons.mpr ⟨fun p hp => ?_, ih hr⟩
        obtain rfl | hp := Sparse.mem_insert hp
        · show j < k
          omega
        · exact hq p hp

theorem Sparse.wf_erase {α : Type} {l : List (Nat × α)} (h : Sparse.wf l) (k : Nat) : Sparse.wf (Sparse.erase l k) :=
  List.Pairwise.filter _ h

theorem Memory.wf_writeByte {m : List Host.Cell} (h : Memory.wf m) (a : Nat) (b : Byte) :
    Memory.wf (Memory.writeByte m a b) := Sparse.wf_insert h a b

theorem Memory.wf_writeLane {m : List Host.Cell} (h : Memory.wf m) (a : Nat) (w : Word) (e : ByteEnables) (k : Nat) :
    Memory.wf (Memory.writeLane a w e m k) := by
  unfold Memory.writeLane
  split
  · exact Memory.wf_writeByte h _ _
  · exact h

/-- Every write of the store keeps its canonical form. -/
theorem Memory.wf_writeWord {m : List Host.Cell} (h : Memory.wf m) (a : Nat) (w : Word) (e : ByteEnables) :
    Memory.wf (Memory.writeWord m a w e) := by
  unfold Memory.writeWord
  simp only [List.foldl]
  exact Memory.wf_writeLane (Memory.wf_writeLane (Memory.wf_writeLane (Memory.wf_writeLane h _ _ _ _) _ _ _ _) _ _ _ _)
    _ _ _ _

/-- What a byte write leaves readable. -/
theorem Memory.readByte_writeByte (m : List Host.Cell) (a j : Nat) (b : Byte) :
    Memory.readByte (Memory.writeByte m a b) j = if a = j then some b else Memory.readByte m j :=
  Sparse.lookup_insert m a j b

theorem Memory.readByte_writeLane (m : List Host.Cell) (a j k : Nat) (w : Word) (e : ByteEnables) :
    Memory.readByte (Memory.writeLane a w e m k) j =
      if e.getLsbD k ∧ a + k = j then some (wordByte w k) else Memory.readByte m j := by
  unfold Memory.writeLane
  split
  · rename_i h
    simp [Memory.readByte_writeByte, h]
  · rename_i h
    simp [h]

/-- A word write changes no byte outside its four. -/
theorem Memory.readByte_writeWord_of_outside (m : List Host.Cell) (a j : Nat) (w : Word) (e : ByteEnables)
    (h : j < a ∨ a + 4 ≤ j) : Memory.readByte (Memory.writeWord m a w e) j = Memory.readByte m j := by
  unfold Memory.writeWord
  simp only [List.foldl, Memory.readByte_writeLane]
  grind

/-- An enabled byte of a word write reads back. -/
theorem Memory.readByte_writeWord_of_enabled (m : List Host.Cell) (a k : Nat) (w : Word) (e : ByteEnables)
    (hk : k < 4) (he : e.getLsbD k = true) :
    Memory.readByte (Memory.writeWord m a w e) (a + k) = some (wordByte w k) := by
  unfold Memory.writeWord
  simp only [List.foldl, Memory.readByte_writeLane]
  rcases (by omega : k = 0 ∨ k = 1 ∨ k = 2 ∨ k = 3) with rfl | rfl | rfl | rfl <;> simp [he]

/-! ## Circuit entries -/

/-- An entry read after one has been written. -/
@[simp] theorem State.entry_putEntry (s : State) (i j : EntryNo) (e : Entry) :
    (s.putEntry i e).entry j = if i = j then e else s.entry j := by
  by_cases h : e = Entry.initial <;>
    simp [State.entry, State.putEntry, putEntries, h, Sparse.lookup_erase, Sparse.lookup_insert, Fin.ext_iff,
      -State.entries_lookup] <;>
    split <;> simp_all

/-- The entry table keeps its canonical form. -/
theorem putEntries_wf {l : List (Nat × Entry)} (h : Sparse.wf l) (i : EntryNo) (e : Entry) :
    Sparse.wf (putEntries l i e) := by
  unfold putEntries
  split
  · exact Sparse.wf_erase h _
  · exact Sparse.wf_insert h _ _

end Sys2Proof.Machine
end

