-- ==== Sys2Proof/Laws/Frames.lean ====
section
/-! SUPPORT. What each shared operation leaves alone: one lemma per operation, its untouched fields in one
    conjunction, so
that a proof about one part of the state passes over the operations that do not reach it. -/

namespace Sys2Proof.Machine

/-- An operation that leaves something alone leaves it alone however often it is applied. -/
theorem foldl_leaves {α β : Type} (g : State → β) {f : State → α → State} (h : ∀ s a, g (f s a) = g s) (l : List α)
    (s : State) : g (l.foldl f s) = g s := by
  induction l generalizing s with
  | nil => rfl
  | cons a l ih => rw [List.foldl_cons, ih, h]

/-- And so does one that is repeated. -/
theorem repeat_leaves {β : Type} (g : State → β) {f : State → State} (h : ∀ s, g (f s) = g s) (k : Nat) (s : State) :
    g (Nat.repeat f k s) = g s := by
  induction k with
  | zero => rfl
  | succ k ih => exact (h _).trans ih

/-! ## Link Units -/

@[simp] theorem State.send_leaves (s : State) (n : SlotNo) (w : Work) (b : Bool) :
    (s.send n w b).supply = s.supply ∧ (s.send n w b).watching = s.watching ∧ (s.send n w b).slots = s.slots ∧
    (∀ m : SlotNo, (s.send n w b).slot m = s.slot m) ∧ (s.send n w b).notices = s.notices ∧
    (s.send n w b).lanes = s.lanes ∧ (∀ m : LaneNo, (s.send n w b).lane m = s.lane m) ∧
    (s.send n w b).circuits = s.circuits ∧ (∀ m : EntryNo, (s.send n w b).entry m = s.entry m) ∧
    (s.send n w b).restore = s.restore ∧ (s.send n w b).journal = s.journal ∧ (s.send n w b).path = s.path ∧
    (∀ m : SlotNo, (s.send n w b).sl0 m = s.sl0 m) ∧ (s.send n w b).judging = s.judging ∧
    (s.send n w b).memory = s.memory ∧ (s.send n w b).ctrlReset = s.ctrlReset ∧ (s.send n w b).por = s.por ∧
    (s.send n w b).pending = s.pending := by
  unfold State.send
  simp

@[simp] theorem State.startWindow_leaves (s : State) (n : SlotNo) (w : WindowRequest) :
    (s.startWindow n w).supply = s.supply ∧ (s.startWindow n w).watching = s.watching ∧
    (s.startWindow n w).slots = s.slots ∧ (∀ m : SlotNo, (s.startWindow n w).slot m = s.slot m) ∧
    (s.startWindow n w).notices = s.notices ∧ (s.startWindow n w).lanes = s.lanes ∧
    (∀ m : LaneNo, (s.startWindow n w).lane m = s.lane m) ∧ (s.startWindow n w).circuits = s.circuits ∧
    (∀ m : EntryNo, (s.startWindow n w).entry m = s.entry m) ∧ (s.startWindow n w).restore = s.restore ∧
    (s.startWindow n w).journal = s.journal ∧ (s.startWindow n w).path = s.path ∧
    (∀ m : SlotNo, (s.startWindow n w).sl0 m = s.sl0 m) ∧ (s.startWindow n w).judging = s.judging ∧
    (s.startWindow n w).memory = s.memory ∧ (s.startWindow n w).ctrlReset = s.ctrlReset ∧
    (s.startWindow n w).por = s.por ∧ (s.startWindow n w).pending = s.pending := by
  unfold State.startWindow
  simp

@[simp] theorem State.startOrder_leaves (s : State) (n : SlotNo) (o : Order) :
    (s.startOrder n o).supply = s.supply ∧ (s.startOrder n o).watching = s.watching ∧
    (s.startOrder n o).slots = s.slots ∧ (∀ m : SlotNo, (s.startOrder n o).slot m = s.slot m) ∧
    (s.startOrder n o).notices = s.notices ∧ (s.startOrder n o).lanes = s.lanes ∧
    (∀ m : LaneNo, (s.startOrder n o).lane m = s.lane m) ∧ (s.startOrder n o).circuits = s.circuits ∧
    (∀ m : EntryNo, (s.startOrder n o).entry m = s.entry m) ∧ (s.startOrder n o).restore = s.restore ∧
    (s.startOrder n o).journal = s.journal ∧ (s.startOrder n o).path = s.path ∧
    (∀ m : SlotNo, (s.startOrder n o).sl0 m = s.sl0 m) ∧ (s.startOrder n o).judging = s.judging ∧
    (s.startOrder n o).memory = s.memory ∧ (s.startOrder n o).ctrlReset = s.ctrlReset ∧
    (s.startOrder n o).por = s.por ∧ (s.startOrder n o).pending = s.pending := by
  unfold State.startOrder
  simp

@[simp] theorem State.freeLink_leaves (s : State) (n : SlotNo) :
    (s.freeLink n).supply = s.supply ∧ (s.freeLink n).watching = s.watching ∧ (s.freeLink n).slots = s.slots ∧
    (∀ m : SlotNo, (s.freeLink n).slot m = s.slot m) ∧ (s.freeLink n).notices = s.notices ∧
    (s.freeLink n).lanes = s.lanes ∧ (∀ m : LaneNo, (s.freeLink n).lane m = s.lane m) ∧
    (s.freeLink n).circuits = s.circuits ∧ (∀ m : EntryNo, (s.freeLink n).entry m = s.entry m) ∧
    (s.freeLink n).restore = s.restore ∧ (s.freeLink n).journal = s.journal ∧ (s.freeLink n).path = s.path ∧
    (∀ m : SlotNo, (s.freeLink n).sl0 m = s.sl0 m) ∧ (s.freeLink n).judging = s.judging ∧
    (s.freeLink n).memory = s.memory ∧ (s.freeLink n).ctrlReset = s.ctrlReset ∧ (s.freeLink n).por = s.por ∧
    (s.freeLink n).pending = s.pending := by
  unfold State.freeLink
  simp

@[simp] theorem State.stopListening_leaves (s : State) (n : SlotNo) :
    (s.stopListening n).supply = s.supply ∧ (s.stopListening n).watching = s.watching ∧
    (s.stopListening n).slots = s.slots ∧ (∀ m : SlotNo, (s.stopListening n).slot m = s.slot m) ∧
    (s.stopListening n).notices = s.notices ∧ (s.stopListening n).lanes = s.lanes ∧
    (∀ m : LaneNo, (s.stopListening n).lane m = s.lane m) ∧ (s.stopListening n).circuits = s.circuits ∧
    (∀ m : EntryNo, (s.stopListening n).entry m = s.entry m) ∧ (s.stopListening n).restore = s.restore ∧
    (s.stopListening n).journal = s.journal ∧ (s.stopListening n).path = s.path ∧
    (∀ m : SlotNo, (s.stopListening n).sl0 m = s.sl0 m) ∧ (s.stopListening n).judging = s.judging ∧
    (s.stopListening n).memory = s.memory ∧ (s.stopListening n).ctrlReset = s.ctrlReset ∧
    (s.stopListening n).por = s.por ∧ (s.stopListening n).pending = s.pending := by
  unfold State.stopListening
  simp

@[simp] theorem State.completeOrder_leaves (s : State) (n : SlotNo) :
    (s.completeOrder n).supply = s.supply ∧ (s.completeOrder n).watching = s.watching ∧
    (s.completeOrder n).slots = s.slots ∧ (∀ m : SlotNo, (s.completeOrder n).slot m = s.slot m) ∧
    (s.completeOrder n).notices = s.notices ∧ (s.completeOrder n).lanes = s.lanes ∧
    (∀ m : LaneNo, (s.completeOrder n).lane m = s.lane m) ∧ (s.completeOrder n).circuits = s.circuits ∧
    (∀ m : EntryNo, (s.completeOrder n).entry m = s.entry m) ∧ (s.completeOrder n).restore = s.restore ∧
    (s.completeOrder n).journal = s.journal ∧ (s.completeOrder n).path = s.path ∧
    (∀ m : SlotNo, (s.completeOrder n).sl0 m = s.sl0 m) ∧ (s.completeOrder n).judging = s.judging ∧
    (s.completeOrder n).memory = s.memory ∧ (s.completeOrder n).ctrlReset = s.ctrlReset ∧
    (s.completeOrder n).por = s.por ∧ (s.completeOrder n).pending = s.pending := by
  unfold State.completeOrder
  simp

@[simp] theorem State.chooseNext_leaves (s : State) (n : SlotNo) :
    (s.chooseNext n).supply = s.supply ∧ (s.chooseNext n).watching = s.watching ∧
    (s.chooseNext n).slots = s.slots ∧ (∀ m : SlotNo, (s.chooseNext n).slot m = s.slot m) ∧
    (s.chooseNext n).notices = s.notices ∧ (s.chooseNext n).lanes = s.lanes ∧
    (∀ m : LaneNo, (s.chooseNext n).lane m = s.lane m) ∧ (s.chooseNext n).circuits = s.circuits ∧
    (∀ m : EntryNo, (s.chooseNext n).entry m = s.entry m) ∧ (s.chooseNext n).restore = s.restore ∧
    (s.chooseNext n).journal = s.journal ∧ (s.chooseNext n).path = s.path ∧
    (∀ m : SlotNo, (s.chooseNext n).sl0 m = s.sl0 m) ∧ (s.chooseNext n).judging = s.judging ∧
    (s.chooseNext n).memory = s.memory ∧ (s.chooseNext n).ctrlReset = s.ctrlReset ∧ (s.chooseNext n).por = s.por ∧
    (s.chooseNext n).pending = s.pending := by
  unfold State.chooseNext
  (repeat' split) <;> simp

@[simp] theorem State.resend_leaves (s : State) (n : SlotNo) :
    (s.resend n).supply = s.supply ∧ (s.resend n).watching = s.watching ∧ (s.resend n).slots = s.slots ∧
    (∀ m : SlotNo, (s.resend n).slot m = s.slot m) ∧ (s.resend n).notices = s.notices ∧
    (s.resend n).lanes = s.lanes ∧ (∀ m : LaneNo, (s.resend n).lane m = s.lane m) ∧
    (s.resend n).circuits = s.circuits ∧ (∀ m : EntryNo, (s.resend n).entry m = s.entry m) ∧
    (s.resend n).restore = s.restore ∧ (s.resend n).journal = s.journal ∧ (s.resend n).path = s.path ∧
    (∀ m : SlotNo, (s.resend n).sl0 m = s.sl0 m) ∧ (s.resend n).judging = s.judging ∧
    (s.resend n).memory = s.memory ∧ (s.resend n).ctrlReset = s.ctrlReset ∧ (s.resend n).por = s.por ∧
    (s.resend n).pending = s.pending := by
  unfold State.resend
  (repeat' split) <;> simp

@[simp] theorem State.declareLoss_leaves (s : State) (n : SlotNo) :
    (s.declareLoss n).supply = s.supply ∧ (s.declareLoss n).watching = s.watching ∧
    (s.declareLoss n).slots = s.slots ∧ (∀ m : SlotNo, (s.declareLoss n).slot m = s.slot m) ∧
    (s.declareLoss n).notices = s.notices ∧ (s.declareLoss n).lanes = s.lanes ∧
    (∀ m : LaneNo, (s.declareLoss n).lane m = s.lane m) ∧ (s.declareLoss n).circuits = s.circuits ∧
    (∀ m : EntryNo, (s.declareLoss n).entry m = s.entry m) ∧ (s.declareLoss n).restore = s.restore ∧
    (s.declareLoss n).journal = s.journal ∧ (s.declareLoss n).path = s.path ∧
    (∀ m : SlotNo, (s.declareLoss n).sl0 m = s.sl0 m) ∧ (s.declareLoss n).judging = s.judging ∧
    (s.declareLoss n).memory = s.memory ∧ (s.declareLoss n).ctrlReset = s.ctrlReset ∧
    (s.declareLoss n).por = s.por ∧ (s.declareLoss n).pending = s.pending := by
  unfold State.declareLoss
  simp

@[simp] theorem State.listen_leaves (s : State) (n : SlotNo) (r : Rate) :
    (s.listen n r).supply = s.supply ∧ (s.listen n r).watching = s.watching ∧ (s.listen n r).slots = s.slots ∧
    (∀ m : SlotNo, (s.listen n r).slot m = s.slot m) ∧ (s.listen n r).notices = s.notices ∧
    (s.listen n r).lanes = s.lanes ∧ (∀ m : LaneNo, (s.listen n r).lane m = s.lane m) ∧
    (s.listen n r).circuits = s.circuits ∧ (∀ m : EntryNo, (s.listen n r).entry m = s.entry m) ∧
    (s.listen n r).restore = s.restore ∧ (s.listen n r).journal = s.journal ∧ (s.listen n r).path = s.path ∧
    (∀ m : SlotNo, (s.listen n r).sl0 m = s.sl0 m) ∧ (s.listen n r).judging = s.judging ∧
    (s.listen n r).memory = s.memory ∧ (s.listen n r).ctrlReset = s.ctrlReset ∧ (s.listen n r).por = s.por ∧
    (s.listen n r).pending = s.pending := by
  unfold State.listen
  simp

@[simp] theorem State.setRate_leaves (s : State) (n : SlotNo) (r : Rate) :
    (s.setRate n r).supply = s.supply ∧ (s.setRate n r).watching = s.watching ∧ (s.setRate n r).slots = s.slots ∧
    (∀ m : SlotNo, (s.setRate n r).slot m = s.slot m) ∧ (s.setRate n r).notices = s.notices ∧
    (s.setRate n r).lanes = s.lanes ∧ (∀ m : LaneNo, (s.setRate n r).lane m = s.lane m) ∧
    (s.setRate n r).circuits = s.circuits ∧ (∀ m : EntryNo, (s.setRate n r).entry m = s.entry m) ∧
    (s.setRate n r).restore = s.restore ∧ (s.setRate n r).journal = s.journal ∧ (s.setRate n r).path = s.path ∧
    (∀ m : SlotNo, (s.setRate n r).sl0 m = s.sl0 m) ∧ (s.setRate n r).judging = s.judging ∧
    (s.setRate n r).memory = s.memory ∧ (s.setRate n r).ctrlReset = s.ctrlReset ∧ (s.setRate n r).por = s.por ∧
    (s.setRate n r).pending = s.pending := by
  unfold State.setRate
  simp

@[simp] theorem State.tuneLink_leaves (s : State) (n : SlotNo) (r : Rate) (t : Tap) :
    (s.tuneLink n r t).supply = s.supply ∧ (s.tuneLink n r t).watching = s.watching ∧
    (s.tuneLink n r t).slots = s.slots ∧ (∀ m : SlotNo, (s.tuneLink n r t).slot m = s.slot m) ∧
    (s.tuneLink n r t).notices = s.notices ∧ (s.tuneLink n r t).lanes = s.lanes ∧
    (∀ m : LaneNo, (s.tuneLink n r t).lane m = s.lane m) ∧ (s.tuneLink n r t).circuits = s.circuits ∧
    (∀ m : EntryNo, (s.tuneLink n r t).entry m = s.entry m) ∧ (s.tuneLink n r t).restore = s.restore ∧
    (s.tuneLink n r t).journal = s.journal ∧ (s.tuneLink n r t).path = s.path ∧
    (∀ m : SlotNo, (s.tuneLink n r t).sl0 m = s.sl0 m) ∧ (s.tuneLink n r t).judging = s.judging ∧
    (s.tuneLink n r t).memory = s.memory ∧ (s.tuneLink n r t).ctrlReset = s.ctrlReset ∧
    (s.tuneLink n r t).por = s.por ∧ (s.tuneLink n r t).pending = s.pending := by
  unfold State.tuneLink
  simp

/-! ## Slot Sequencer -/

@[simp] theorem State.releaseLane_leaves (s : State) (n : SlotNo) :
    (s.releaseLane n).supply = s.supply ∧ (s.releaseLane n).watching = s.watching ∧
    (s.releaseLane n).notices = s.notices ∧ (s.releaseLane n).links = s.links ∧
    (∀ m : SlotNo, (s.releaseLane n).link m = s.link m) ∧ (s.releaseLane n).circuits = s.circuits ∧
    (∀ m : EntryNo, (s.releaseLane n).entry m = s.entry m) ∧ (s.releaseLane n).restore = s.restore ∧
    (s.releaseLane n).journal = s.journal ∧ (s.releaseLane n).path = s.path ∧
    (∀ m : SlotNo, (s.releaseLane n).sl0 m = s.sl0 m) ∧ (s.releaseLane n).judging = s.judging ∧
    (s.releaseLane n).memory = s.memory ∧ (s.releaseLane n).ctrlReset = s.ctrlReset ∧
    (s.releaseLane n).por = s.por ∧ (s.releaseLane n).pending = s.pending := by
  unfold State.releaseLane
  (repeat' split) <;> simp

@[simp] theorem State.endBootWait_leaves (s : State) (n : SlotNo) :
    (s.endBootWait n).supply = s.supply ∧ (s.endBootWait n).watching = s.watching ∧
    (s.endBootWait n).notices = s.notices ∧ (s.endBootWait n).lanes = s.lanes ∧
    (∀ m : LaneNo, (s.endBootWait n).lane m = s.lane m) ∧ (s.endBootWait n).circuits = s.circuits ∧
    (∀ m : EntryNo, (s.endBootWait n).entry m = s.entry m) ∧ (s.endBootWait n).restore = s.restore ∧
    (s.endBootWait n).journal = s.journal ∧ (s.endBootWait n).path = s.path ∧
    (∀ m : SlotNo, (s.endBootWait n).sl0 m = s.sl0 m) ∧ (s.endBootWait n).judging = s.judging ∧
    (s.endBootWait n).memory = s.memory ∧ (s.endBootWait n).ctrlReset = s.ctrlReset ∧
    (s.endBootWait n).por = s.por ∧ (s.endBootWait n).pending = s.pending := by
  unfold State.endBootWait
  simp

@[simp] theorem State.endWork_leaves (s : State) (n : SlotNo) :
    (s.endWork n).supply = s.supply ∧ (s.endWork n).watching = s.watching ∧ (s.endWork n).circuits = s.circuits ∧
    (∀ m : EntryNo, (s.endWork n).entry m = s.entry m) ∧ (s.endWork n).restore = s.restore ∧
    (s.endWork n).journal = s.journal ∧ (s.endWork n).path = s.path ∧
    (∀ m : SlotNo, (s.endWork n).sl0 m = s.sl0 m) ∧ (s.endWork n).judging = s.judging ∧
    (s.endWork n).memory = s.memory ∧ (s.endWork n).ctrlReset = s.ctrlReset ∧ (s.endWork n).por = s.por ∧
    (s.endWork n).pending = s.pending ∧ (s.endWork n).notices.slots = s.notices.slots ∧
    (s.endWork n).notices.circuits = s.notices.circuits ∧ (s.endWork n).notices.restore = s.notices.restore := by
  unfold State.endWork
  (repeat' split) <;> simp

@[simp] theorem State.startBootWait_leaves (s : State) (n : SlotNo) :
    (s.startBootWait n).supply = s.supply ∧ (s.startBootWait n).watching = s.watching ∧
    (s.startBootWait n).notices = s.notices ∧ (s.startBootWait n).lanes = s.lanes ∧
    (∀ m : LaneNo, (s.startBootWait n).lane m = s.lane m) ∧ (s.startBootWait n).circuits = s.circuits ∧
    (∀ m : EntryNo, (s.startBootWait n).entry m = s.entry m) ∧ (s.startBootWait n).restore = s.restore ∧
    (s.startBootWait n).journal = s.journal ∧ (s.startBootWait n).path = s.path ∧
    (∀ m : SlotNo, (s.startBootWait n).sl0 m = s.sl0 m) ∧ (s.startBootWait n).judging = s.judging ∧
    (s.startBootWait n).memory = s.memory ∧ (s.startBootWait n).ctrlReset = s.ctrlReset ∧
    (s.startBootWait n).por = s.por ∧ (s.startBootWait n).pending = s.pending := by
  unfold State.startBootWait
  simp

@[simp] theorem State.bootWithReset_leaves (s : State) (n : SlotNo) (a : Nat) :
    (s.bootWithReset n a).supply = s.supply ∧ (s.bootWithReset n a).watching = s.watching ∧
    (s.bootWithReset n a).notices = s.notices ∧ (s.bootWithReset n a).lanes = s.lanes ∧
    (∀ m : LaneNo, (s.bootWithReset n a).lane m = s.lane m) ∧ (s.bootWithReset n a).links = s.links ∧
    (∀ m : SlotNo, (s.bootWithReset n a).link m = s.link m) ∧ (s.bootWithReset n a).circuits = s.circuits ∧
    (∀ m : EntryNo, (s.bootWithReset n a).entry m = s.entry m) ∧ (s.bootWithReset n a).restore = s.restore ∧
    (s.bootWithReset n a).journal = s.journal ∧ (s.bootWithReset n a).path = s.path ∧
    (∀ m : SlotNo, (s.bootWithReset n a).sl0 m = s.sl0 m) ∧ (s.bootWithReset n a).judging = s.judging ∧
    (s.bootWithReset n a).memory = s.memory ∧ (s.bootWithReset n a).ctrlReset = s.ctrlReset ∧
    (s.bootWithReset n a).por = s.por ∧ (s.bootWithReset n a).pending = s.pending := by
  unfold State.bootWithReset
  simp

@[simp] theorem State.bootWithoutReset_leaves (s : State) (n : SlotNo) :
    (s.bootWithoutReset n).supply = s.supply ∧ (s.bootWithoutReset n).watching = s.watching ∧
    (s.bootWithoutReset n).notices = s.notices ∧ (s.bootWithoutReset n).lanes = s.lanes ∧
    (∀ m : LaneNo, (s.bootWithoutReset n).lane m = s.lane m) ∧ (s.bootWithoutReset n).circuits = s.circuits ∧
    (∀ m : EntryNo, (s.bootWithoutReset n).entry m = s.entry m) ∧ (s.bootWithoutReset n).restore = s.restore ∧
    (s.bootWithoutReset n).journal = s.journal ∧ (s.bootWithoutReset n).path = s.path ∧
    (∀ m : SlotNo, (s.bootWithoutReset n).sl0 m = s.sl0 m) ∧ (s.bootWithoutReset n).judging = s.judging ∧
    (s.bootWithoutReset n).memory = s.memory ∧ (s.bootWithoutReset n).ctrlReset = s.ctrlReset ∧
    (s.bootWithoutReset n).por = s.por ∧ (s.bootWithoutReset n).pending = s.pending := by
  unfold State.bootWithoutReset
  simp

@[simp] theorem State.goPending_leaves (s : State) (n : SlotNo) (md : Mode) (a : Nat) :
    (s.goPending n md a).supply = s.supply ∧ (s.goPending n md a).watching = s.watching ∧
    (s.goPending n md a).notices = s.notices ∧ (s.goPending n md a).lanes = s.lanes ∧
    (∀ m : LaneNo, (s.goPending n md a).lane m = s.lane m) ∧ (s.goPending n md a).links = s.links ∧
    (∀ m : SlotNo, (s.goPending n md a).link m = s.link m) ∧ (s.goPending n md a).circuits = s.circuits ∧
    (∀ m : EntryNo, (s.goPending n md a).entry m = s.entry m) ∧ (s.goPending n md a).restore = s.restore ∧
    (s.goPending n md a).journal = s.journal ∧ (s.goPending n md a).path = s.path ∧
    (∀ m : SlotNo, (s.goPending n md a).sl0 m = s.sl0 m) ∧ (s.goPending n md a).judging = s.judging ∧
    (s.goPending n md a).memory = s.memory ∧ (s.goPending n md a).ctrlReset = s.ctrlReset ∧
    (s.goPending n md a).por = s.por ∧ (s.goPending n md a).pending = s.pending := by
  unfold State.goPending
  simp

@[simp] theorem State.goHeld_leaves (s : State) (n : SlotNo) (x y : Bool) :
    (s.goHeld n x y).supply = s.supply ∧ (s.goHeld n x y).watching = s.watching ∧
    (s.goHeld n x y).notices = s.notices ∧ (s.goHeld n x y).lanes = s.lanes ∧
    (∀ m : LaneNo, (s.goHeld n x y).lane m = s.lane m) ∧ (s.goHeld n x y).links = s.links ∧
    (∀ m : SlotNo, (s.goHeld n x y).link m = s.link m) ∧ (s.goHeld n x y).circuits = s.circuits ∧
    (∀ m : EntryNo, (s.goHeld n x y).entry m = s.entry m) ∧ (s.goHeld n x y).restore = s.restore ∧
    (s.goHeld n x y).journal = s.journal ∧ (s.goHeld n x y).path = s.path ∧
    (∀ m : SlotNo, (s.goHeld n x y).sl0 m = s.sl0 m) ∧ (s.goHeld n x y).judging = s.judging ∧
    (s.goHeld n x y).memory = s.memory ∧ (s.goHeld n x y).ctrlReset = s.ctrlReset ∧ (s.goHeld n x y).por = s.por ∧
    (s.goHeld n x y).pending = s.pending := by
  unfold State.goHeld
  simp

@[simp] theorem State.startHeld_leaves (s : State) (n : SlotNo) (x : Bool) :
    (s.startHeld n x).supply = s.supply ∧ (s.startHeld n x).watching = s.watching ∧
    (s.startHeld n x).notices = s.notices ∧ (s.startHeld n x).lanes = s.lanes ∧
    (∀ m : LaneNo, (s.startHeld n x).lane m = s.lane m) ∧ (s.startHeld n x).links = s.links ∧
    (∀ m : SlotNo, (s.startHeld n x).link m = s.link m) ∧ (s.startHeld n x).circuits = s.circuits ∧
    (∀ m : EntryNo, (s.startHeld n x).entry m = s.entry m) ∧ (s.startHeld n x).restore = s.restore ∧
    (s.startHeld n x).journal = s.journal ∧ (s.startHeld n x).path = s.path ∧
    (∀ m : SlotNo, (s.startHeld n x).sl0 m = s.sl0 m) ∧ (s.startHeld n x).judging = s.judging ∧
    (s.startHeld n x).memory = s.memory ∧ (s.startHeld n x).ctrlReset = s.ctrlReset ∧ (s.startHeld n x).por = s.por ∧
    (s.startHeld n x).pending = s.pending := by
  unfold State.startHeld
  simp

@[simp] theorem State.goLinked_leaves (s : State) (n : SlotNo) :
    (s.goLinked n).supply = s.supply ∧ (s.goLinked n).watching = s.watching ∧ (s.goLinked n).notices = s.notices ∧
    (s.goLinked n).lanes = s.lanes ∧ (∀ m : LaneNo, (s.goLinked n).lane m = s.lane m) ∧
    (s.goLinked n).links = s.links ∧ (∀ m : SlotNo, (s.goLinked n).link m = s.link m) ∧
    (s.goLinked n).circuits = s.circuits ∧ (∀ m : EntryNo, (s.goLinked n).entry m = s.entry m) ∧
    (s.goLinked n).restore = s.restore ∧ (s.goLinked n).path = s.path ∧
    (∀ m : SlotNo, (s.goLinked n).sl0 m = s.sl0 m) ∧ (s.goLinked n).judging = s.judging ∧
    (s.goLinked n).memory = s.memory ∧ (s.goLinked n).ctrlReset = s.ctrlReset ∧ (s.goLinked n).por = s.por ∧
    (s.goLinked n).pending = s.pending := by
  unfold State.goLinked
  simp

@[simp] theorem State.goFailed_leaves (s : State) (n : SlotNo) (r : FailReason) :
    (s.goFailed n r).supply = s.supply ∧ (s.goFailed n r).watching = s.watching ∧
    (s.goFailed n r).notices = s.notices ∧ (s.goFailed n r).lanes = s.lanes ∧
    (∀ m : LaneNo, (s.goFailed n r).lane m = s.lane m) ∧ (s.goFailed n r).links = s.links ∧
    (∀ m : SlotNo, (s.goFailed n r).link m = s.link m) ∧ (s.goFailed n r).circuits = s.circuits ∧
    (∀ m : EntryNo, (s.goFailed n r).entry m = s.entry m) ∧ (s.goFailed n r).restore = s.restore ∧
    (s.goFailed n r).path = s.path ∧ (∀ m : SlotNo, (s.goFailed n r).sl0 m = s.sl0 m) ∧
    (s.goFailed n r).judging = s.judging ∧ (s.goFailed n r).memory = s.memory ∧
    (s.goFailed n r).ctrlReset = s.ctrlReset ∧ (s.goFailed n r).por = s.por ∧ (s.goFailed n r).pending = s.pending := by
  unfold State.goFailed
  simp

@[simp] theorem State.failAttempt_leaves (s : State) (n : SlotNo) (r : FailReason) :
    (s.failAttempt n r).supply = s.supply ∧ (s.failAttempt n r).watching = s.watching ∧
    (s.failAttempt n r).notices = s.notices ∧ (s.failAttempt n r).lanes = s.lanes ∧
    (∀ m : LaneNo, (s.failAttempt n r).lane m = s.lane m) ∧ (s.failAttempt n r).links = s.links ∧
    (∀ m : SlotNo, (s.failAttempt n r).link m = s.link m) ∧ (s.failAttempt n r).circuits = s.circuits ∧
    (∀ m : EntryNo, (s.failAttempt n r).entry m = s.entry m) ∧ (s.failAttempt n r).restore = s.restore ∧
    (s.failAttempt n r).path = s.path ∧ (∀ m : SlotNo, (s.failAttempt n r).sl0 m = s.sl0 m) ∧
    (s.failAttempt n r).judging = s.judging ∧ (s.failAttempt n r).memory = s.memory ∧
    (s.failAttempt n r).ctrlReset = s.ctrlReset ∧ (s.failAttempt n r).por = s.por ∧
    (s.failAttempt n r).pending = s.pending := by
  unfold State.failAttempt
  dsimp only
  (repeat' split) <;> simp

@[simp] theorem State.endPulse_leaves (s : State) (n : SlotNo) :
    (s.endPulse n).supply = s.supply ∧ (s.endPulse n).watching = s.watching ∧ (s.endPulse n).notices = s.notices ∧
    (s.endPulse n).lanes = s.lanes ∧ (∀ m : LaneNo, (s.endPulse n).lane m = s.lane m) ∧
    (s.endPulse n).circuits = s.circuits ∧ (∀ m : EntryNo, (s.endPulse n).entry m = s.entry m) ∧
    (s.endPulse n).restore = s.restore ∧ (s.endPulse n).journal = s.journal ∧ (s.endPulse n).path = s.path ∧
    (∀ m : SlotNo, (s.endPulse n).sl0 m = s.sl0 m) ∧ (s.endPulse n).judging = s.judging ∧
    (s.endPulse n).memory = s.memory ∧ (s.endPulse n).ctrlReset = s.ctrlReset ∧ (s.endPulse n).por = s.por ∧
    (s.endPulse n).pending = s.pending := by
  unfold State.endPulse
  dsimp only
  (repeat' split) <;> simp

@[simp] theorem State.alive_leaves (s : State) (n : SlotNo) :
    (s.alive n).supply = s.supply ∧ (s.alive n).watching = s.watching ∧ (s.alive n).circuits = s.circuits ∧
    (∀ m : EntryNo, (s.alive n).entry m = s.entry m) ∧ (s.alive n).restore = s.restore ∧
    (s.alive n).journal = s.journal ∧ (s.alive n).path = s.path ∧ (∀ m : SlotNo, (s.alive n).sl0 m = s.sl0 m) ∧
    (s.alive n).judging = s.judging ∧ (s.alive n).memory = s.memory ∧ (s.alive n).ctrlReset = s.ctrlReset ∧
    (s.alive n).por = s.por ∧ (s.alive n).pending = s.pending ∧ (s.alive n).notices.slots = s.notices.slots ∧
    (s.alive n).notices.circuits = s.notices.circuits ∧ (s.alive n).notices.restore = s.notices.restore := by
  unfold State.alive
  simp

@[simp] theorem State.goMismatch_leaves (s : State) (n : SlotNo) :
    (s.goMismatch n).supply = s.supply ∧ (s.goMismatch n).watching = s.watching ∧
    (s.goMismatch n).notices = s.notices ∧ (s.goMismatch n).lanes = s.lanes ∧
    (∀ m : LaneNo, (s.goMismatch n).lane m = s.lane m) ∧ (s.goMismatch n).links = s.links ∧
    (∀ m : SlotNo, (s.goMismatch n).link m = s.link m) ∧ (s.goMismatch n).circuits = s.circuits ∧
    (∀ m : EntryNo, (s.goMismatch n).entry m = s.entry m) ∧ (s.goMismatch n).restore = s.restore ∧
    (s.goMismatch n).path = s.path ∧ (∀ m : SlotNo, (s.goMismatch n).sl0 m = s.sl0 m) ∧
    (s.goMismatch n).judging = s.judging ∧ (s.goMismatch n).memory = s.memory ∧
    (s.goMismatch n).ctrlReset = s.ctrlReset ∧ (s.goMismatch n).por = s.por ∧ (s.goMismatch n).pending = s.pending := by
  unfold State.goMismatch
  simp

@[simp] theorem State.recordIdentity_leaves (s : State) (n : SlotNo) (a b : BitVec 16) :
    (s.recordIdentity n a b).supply = s.supply ∧ (s.recordIdentity n a b).watching = s.watching ∧
    (s.recordIdentity n a b).notices = s.notices ∧ (s.recordIdentity n a b).lanes = s.lanes ∧
    (∀ m : LaneNo, (s.recordIdentity n a b).lane m = s.lane m) ∧ (s.recordIdentity n a b).links = s.links ∧
    (∀ m : SlotNo, (s.recordIdentity n a b).link m = s.link m) ∧ (s.recordIdentity n a b).circuits = s.circuits ∧
    (∀ m : EntryNo, (s.recordIdentity n a b).entry m = s.entry m) ∧ (s.recordIdentity n a b).restore = s.restore ∧
    (s.recordIdentity n a b).journal = s.journal ∧ (s.recordIdentity n a b).path = s.path ∧
    (∀ m : SlotNo, (s.recordIdentity n a b).sl0 m = s.sl0 m) ∧ (s.recordIdentity n a b).judging = s.judging ∧
    (s.recordIdentity n a b).memory = s.memory ∧ (s.recordIdentity n a b).ctrlReset = s.ctrlReset ∧
    (s.recordIdentity n a b).por = s.por ∧ (s.recordIdentity n a b).pending = s.pending := by
  unfold State.recordIdentity
  simp

@[simp] theorem State.identified_leaves (s : State) (n : SlotNo) (a b : BitVec 16) :
    (s.identified n a b).supply = s.supply ∧ (s.identified n a b).watching = s.watching ∧
    (s.identified n a b).notices = s.notices ∧ (s.identified n a b).lanes = s.lanes ∧
    (∀ m : LaneNo, (s.identified n a b).lane m = s.lane m) ∧ (s.identified n a b).circuits = s.circuits ∧
    (∀ m : EntryNo, (s.identified n a b).entry m = s.entry m) ∧ (s.identified n a b).restore = s.restore ∧
    (s.identified n a b).path = s.path ∧ (∀ m : SlotNo, (s.identified n a b).sl0 m = s.sl0 m) ∧
    (s.identified n a b).judging = s.judging ∧ (s.identified n a b).memory = s.memory ∧
    (s.identified n a b).ctrlReset = s.ctrlReset ∧ (s.identified n a b).por = s.por ∧
    (s.identified n a b).pending = s.pending := by
  unfold State.identified
  dsimp only
  (repeat' split) <;> simp

@[simp] theorem State.takeLoss_leaves (s : State) (n : SlotNo) :
    (s.takeLoss n).supply = s.supply ∧ (s.takeLoss n).watching = s.watching ∧
    (s.takeLoss n).circuits = s.circuits ∧ (∀ m : EntryNo, (s.takeLoss n).entry m = s.entry m) ∧
    (s.takeLoss n).restore = s.restore ∧ (s.takeLoss n).path = s.path ∧
    (∀ m : SlotNo, (s.takeLoss n).sl0 m = s.sl0 m) ∧ (s.takeLoss n).judging = s.judging ∧
    (s.takeLoss n).memory = s.memory ∧ (s.takeLoss n).ctrlReset = s.ctrlReset ∧ (s.takeLoss n).por = s.por ∧
    (s.takeLoss n).pending = s.pending ∧ (s.takeLoss n).notices.slots = s.notices.slots ∧
    (s.takeLoss n).notices.circuits = s.notices.circuits ∧ (s.takeLoss n).notices.restore = s.notices.restore := by
  unfold State.takeLoss
  simp

@[simp] theorem State.takeSlotsNotice_leaves (s : State) (w : Bool) :
    (s.takeSlotsNotice w).supply = s.supply ∧ (s.takeSlotsNotice w).slots = s.slots ∧
    (∀ m : SlotNo, (s.takeSlotsNotice w).slot m = s.slot m) ∧ (s.takeSlotsNotice w).lanes = s.lanes ∧
    (∀ m : LaneNo, (s.takeSlotsNotice w).lane m = s.lane m) ∧ (s.takeSlotsNotice w).links = s.links ∧
    (∀ m : SlotNo, (s.takeSlotsNotice w).link m = s.link m) ∧ (s.takeSlotsNotice w).circuits = s.circuits ∧
    (∀ m : EntryNo, (s.takeSlotsNotice w).entry m = s.entry m) ∧ (s.takeSlotsNotice w).restore = s.restore ∧
    (s.takeSlotsNotice w).journal = s.journal ∧ (s.takeSlotsNotice w).path = s.path ∧
    (∀ m : SlotNo, (s.takeSlotsNotice w).sl0 m = s.sl0 m) ∧ (s.takeSlotsNotice w).judging = s.judging ∧
    (s.takeSlotsNotice w).memory = s.memory ∧ (s.takeSlotsNotice w).ctrlReset = s.ctrlReset ∧
    (s.takeSlotsNotice w).por = s.por ∧ (s.takeSlotsNotice w).pending = s.pending := by
  unfold State.takeSlotsNotice
  simp

@[simp] theorem State.holdSlot_leaves (s : State) (n : SlotNo) :
    (s.holdSlot n).supply = s.supply ∧ (s.holdSlot n).watching = s.watching ∧
    (s.holdSlot n).circuits = s.circuits ∧ (∀ m : EntryNo, (s.holdSlot n).entry m = s.entry m) ∧
    (s.holdSlot n).restore = s.restore ∧ (s.holdSlot n).journal = s.journal ∧ (s.holdSlot n).path = s.path ∧
    (∀ m : SlotNo, (s.holdSlot n).sl0 m = s.sl0 m) ∧ (s.holdSlot n).judging = s.judging ∧
    (s.holdSlot n).memory = s.memory ∧ (s.holdSlot n).ctrlReset = s.ctrlReset ∧ (s.holdSlot n).por = s.por ∧
    (s.holdSlot n).pending = s.pending ∧ (s.holdSlot n).notices.slots = s.notices.slots ∧
    (s.holdSlot n).notices.circuits = s.notices.circuits ∧ (s.holdSlot n).notices.restore = s.notices.restore := by
  unfold State.holdSlot
  (repeat' split) <;> simp

@[simp] theorem State.clearForce_leaves (s : State) (n : SlotNo) :
    (s.clearForce n).supply = s.supply ∧ (s.clearForce n).watching = s.watching ∧
    (s.clearForce n).notices = s.notices ∧ (s.clearForce n).lanes = s.lanes ∧
    (∀ m : LaneNo, (s.clearForce n).lane m = s.lane m) ∧ (s.clearForce n).links = s.links ∧
    (∀ m : SlotNo, (s.clearForce n).link m = s.link m) ∧ (s.clearForce n).circuits = s.circuits ∧
    (∀ m : EntryNo, (s.clearForce n).entry m = s.entry m) ∧ (s.clearForce n).restore = s.restore ∧
    (s.clearForce n).journal = s.journal ∧ (s.clearForce n).path = s.path ∧
    (∀ m : SlotNo, (s.clearForce n).sl0 m = s.sl0 m) ∧ (s.clearForce n).judging = s.judging ∧
    (s.clearForce n).memory = s.memory ∧ (s.clearForce n).ctrlReset = s.ctrlReset ∧ (s.clearForce n).por = s.por ∧
    (s.clearForce n).pending = s.pending := by
  unfold State.clearForce
  simp

@[simp] theorem State.recoverSlot_leaves (s : State) (x : Classification) (n : SlotNo) :
    (State.recoverSlot x s n).supply = s.supply ∧ (State.recoverSlot x s n).watching = s.watching ∧
    (State.recoverSlot x s n).notices = s.notices ∧ (State.recoverSlot x s n).lanes = s.lanes ∧
    (∀ m : LaneNo, (State.recoverSlot x s n).lane m = s.lane m) ∧ (State.recoverSlot x s n).links = s.links ∧
    (∀ m : SlotNo, (State.recoverSlot x s n).link m = s.link m) ∧
    (State.recoverSlot x s n).circuits = s.circuits ∧
    (∀ m : EntryNo, (State.recoverSlot x s n).entry m = s.entry m) ∧
    (State.recoverSlot x s n).restore = s.restore ∧ (State.recoverSlot x s n).journal = s.journal ∧
    (State.recoverSlot x s n).path = s.path ∧ (∀ m : SlotNo, (State.recoverSlot x s n).sl0 m = s.sl0 m) ∧
    (State.recoverSlot x s n).judging = s.judging ∧ (State.recoverSlot x s n).memory = s.memory ∧
    (State.recoverSlot x s n).ctrlReset = s.ctrlReset ∧ (State.recoverSlot x s n).por = s.por ∧
    (State.recoverSlot x s n).pending = s.pending := by
  unfold State.recoverSlot
  (repeat' split) <;> simp

@[simp] theorem State.holdSlots_leaves (s : State) :
    (s.holdSlots).supply = s.supply ∧ (s.holdSlots).circuits = s.circuits ∧
    (∀ m : EntryNo, (s.holdSlots).entry m = s.entry m) ∧ (s.holdSlots).restore = s.restore ∧
    (s.holdSlots).journal = s.journal ∧ (s.holdSlots).path = s.path ∧ (∀ m : SlotNo, (s.holdSlots).sl0 m = s.sl0 m) ∧
    (s.holdSlots).judging = s.judging ∧ (s.holdSlots).memory = s.memory ∧ (s.holdSlots).ctrlReset = s.ctrlReset ∧
    (s.holdSlots).por = s.por ∧ (s.holdSlots).pending = s.pending := by
  have h0 := fun (l : List _) (s : State) => foldl_leaves (fun t : State => t.supply)
      (f := State.holdSlot) (fun _ _ => by simp) l s
  have h1 := fun (l : List _) (s : State) => foldl_leaves (fun t : State => t.circuits)
      (f := State.holdSlot) (fun _ _ => by simp) l s
  have h2 := fun (l : List _) (s : State) (m : _) => foldl_leaves (fun t : State => t.entry m)
      (f := State.holdSlot) (fun _ _ => by simp) l s
  have h3 := fun (l : List _) (s : State) => foldl_leaves (fun t : State => t.restore)
      (f := State.holdSlot) (fun _ _ => by simp) l s
  have h4 := fun (l : List _) (s : State) => foldl_leaves (fun t : State => t.journal)
      (f := State.holdSlot) (fun _ _ => by simp) l s
  have h5 := fun (l : List _) (s : State) => foldl_leaves (fun t : State => t.path)
      (f := State.holdSlot) (fun _ _ => by simp) l s
  have h6 := fun (l : List _) (s : State) (m : _) => foldl_leaves (fun t : State => t.sl0 m)
      (f := State.holdSlot) (fun _ _ => by simp) l s
  have h7 := fun (l : List _) (s : State) => foldl_leaves (fun t : State => t.judging)
      (f := State.holdSlot) (fun _ _ => by simp) l s
  have h8 := fun (l : List _) (s : State) => foldl_leaves (fun t : State => t.memory)
      (f := State.holdSlot) (fun _ _ => by simp) l s
  have h9 := fun (l : List _) (s : State) => foldl_leaves (fun t : State => t.ctrlReset)
      (f := State.holdSlot) (fun _ _ => by simp) l s
  have h10 := fun (l : List _) (s : State) => foldl_leaves (fun t : State => t.por)
      (f := State.holdSlot) (fun _ _ => by simp) l s
  have h11 := fun (l : List _) (s : State) => foldl_leaves (fun t : State => t.pending)
      (f := State.holdSlot) (fun _ _ => by simp) l s
  unfold State.holdSlots
  simp [h0, h1, h2, h3, h4, h5, h6, h7, h8, h9, h10, h11]

@[simp] theorem State.judgeOnce_leaves (s : State) :
    (s.judgeOnce).supply = s.supply ∧ (s.judgeOnce).watching = s.watching ∧ (s.judgeOnce).slots = s.slots ∧
    (∀ m : SlotNo, (s.judgeOnce).slot m = s.slot m) ∧ (s.judgeOnce).notices = s.notices ∧
    (s.judgeOnce).lanes = s.lanes ∧ (∀ m : LaneNo, (s.judgeOnce).lane m = s.lane m) ∧
    (s.judgeOnce).links = s.links ∧ (∀ m : SlotNo, (s.judgeOnce).link m = s.link m) ∧
    (s.judgeOnce).circuits = s.circuits ∧ (∀ m : EntryNo, (s.judgeOnce).entry m = s.entry m) ∧
    (s.judgeOnce).restore = s.restore ∧ (s.judgeOnce).journal = s.journal ∧ (s.judgeOnce).path = s.path ∧
    (∀ m : SlotNo, (s.judgeOnce).sl0 m = s.sl0 m) ∧ (s.judgeOnce).memory = s.memory ∧
    (s.judgeOnce).ctrlReset = s.ctrlReset ∧ (s.judgeOnce).por = s.por ∧ (s.judgeOnce).pending = s.pending := by
  unfold State.judgeOnce
  simp

@[simp] theorem State.recoverSlots_leaves (s : State) (x : Classification) :
    (s.recoverSlots x).supply = s.supply ∧ (s.recoverSlots x).lanes = s.lanes ∧
    (∀ m : LaneNo, (s.recoverSlots x).lane m = s.lane m) ∧ (s.recoverSlots x).links = s.links ∧
    (∀ m : SlotNo, (s.recoverSlots x).link m = s.link m) ∧ (s.recoverSlots x).circuits = s.circuits ∧
    (∀ m : EntryNo, (s.recoverSlots x).entry m = s.entry m) ∧ (s.recoverSlots x).restore = s.restore ∧
    (s.recoverSlots x).journal = s.journal ∧ (s.recoverSlots x).path = s.path ∧
    (∀ m : SlotNo, (s.recoverSlots x).sl0 m = s.sl0 m) ∧ (s.recoverSlots x).memory = s.memory ∧
    (s.recoverSlots x).ctrlReset = s.ctrlReset ∧ (s.recoverSlots x).por = s.por ∧
    (s.recoverSlots x).pending = s.pending := by
  have h0 := fun (l : List _) (s : State) => foldl_leaves (fun t : State => t.supply)
      (f := (State.recoverSlot x)) (fun _ _ => by simp) l s
  have h1 := fun (l : List _) (s : State) => foldl_leaves (fun t : State => t.lanes)
      (f := (State.recoverSlot x)) (fun _ _ => by simp) l s
  have h2 := fun (l : List _) (s : State) (m : _) => foldl_leaves (fun t : State => t.lane m)
      (f := (State.recoverSlot x)) (fun _ _ => by simp) l s
  have h3 := fun (l : List _) (s : State) => foldl_leaves (fun t : State => t.links)
      (f := (State.recoverSlot x)) (fun _ _ => by simp) l s
  have h4 := fun (l : List _) (s : State) (m : _) => foldl_leaves (fun t : State => t.link m)
      (f := (State.recoverSlot x)) (fun _ _ => by simp) l s
  have h5 := fun (l : List _) (s : State) => foldl_leaves (fun t : State => t.circuits)
      (f := (State.recoverSlot x)) (fun _ _ => by simp) l s
  have h6 := fun (l : List _) (s : State) (m : _) => foldl_leaves (fun t : State => t.entry m)
      (f := (State.recoverSlot x)) (fun _ _ => by simp) l s
  have h7 := fun (l : List _) (s : State) => foldl_leaves (fun t : State => t.restore)
      (f := (State.recoverSlot x)) (fun _ _ => by simp) l s
  have h8 := fun (l : List _) (s : State) => foldl_leaves (fun t : State => t.journal)
      (f := (State.recoverSlot x)) (fun _ _ => by simp) l s
  have h9 := fun (l : List _) (s : State) => foldl_leaves (fun t : State => t.path)
      (f := (State.recoverSlot x)) (fun _ _ => by simp) l s
  have h10 := fun (l : List _) (s : State) (m : _) => foldl_leaves (fun t : State => t.sl0 m)
      (f := (State.recoverSlot x)) (fun _ _ => by simp) l s
  have h11 := fun (l : List _) (s : State) => foldl_leaves (fun t : State => t.memory)
      (f := (State.recoverSlot x)) (fun _ _ => by simp) l s
  have h12 := fun (l : List _) (s : State) => foldl_leaves (fun t : State => t.ctrlReset)
      (f := (State.recoverSlot x)) (fun _ _ => by simp) l s
  have h13 := fun (l : List _) (s : State) => foldl_leaves (fun t : State => t.por)
      (f := (State.recoverSlot x)) (fun _ _ => by simp) l s
  have h14 := fun (l : List _) (s : State) => foldl_leaves (fun t : State => t.pending)
      (f := (State.recoverSlot x)) (fun _ _ => by simp) l s
  unfold State.recoverSlots
  simp [h0, h1, h2, h3, h4, h5, h6, h7, h8, h9, h10, h11, h12, h13, h14]

@[simp] theorem State.recordCardGood_leaves (s : State) (n : SlotNo) (l : Level) :
    (s.recordCardGood n l).supply = s.supply ∧ (s.recordCardGood n l).watching = s.watching ∧
    (s.recordCardGood n l).notices = s.notices ∧ (s.recordCardGood n l).lanes = s.lanes ∧
    (∀ m : LaneNo, (s.recordCardGood n l).lane m = s.lane m) ∧ (s.recordCardGood n l).links = s.links ∧
    (∀ m : SlotNo, (s.recordCardGood n l).link m = s.link m) ∧ (s.recordCardGood n l).circuits = s.circuits ∧
    (∀ m : EntryNo, (s.recordCardGood n l).entry m = s.entry m) ∧ (s.recordCardGood n l).restore = s.restore ∧
    (s.recordCardGood n l).journal = s.journal ∧ (s.recordCardGood n l).path = s.path ∧
    (∀ m : SlotNo, (s.recordCardGood n l).sl0 m = s.sl0 m) ∧ (s.recordCardGood n l).judging = s.judging ∧
    (s.recordCardGood n l).memory = s.memory ∧ (s.recordCardGood n l).ctrlReset = s.ctrlReset ∧
    (s.recordCardGood n l).por = s.por ∧ (s.recordCardGood n l).pending = s.pending := by
  unfold State.recordCardGood
  simp

@[simp] theorem State.cardArrives_leaves (s : State) (n : SlotNo) :
    (s.cardArrives n).supply = s.supply ∧ (s.cardArrives n).watching = s.watching ∧
    (s.cardArrives n).notices = s.notices ∧ (s.cardArrives n).lanes = s.lanes ∧
    (∀ m : LaneNo, (s.cardArrives n).lane m = s.lane m) ∧ (s.cardArrives n).circuits = s.circuits ∧
    (∀ m : EntryNo, (s.cardArrives n).entry m = s.entry m) ∧ (s.cardArrives n).restore = s.restore ∧
    (s.cardArrives n).journal = s.journal ∧ (s.cardArrives n).path = s.path ∧
    (∀ m : SlotNo, (s.cardArrives n).sl0 m = s.sl0 m) ∧ (s.cardArrives n).judging = s.judging ∧
    (s.cardArrives n).memory = s.memory ∧ (s.cardArrives n).ctrlReset = s.ctrlReset ∧
    (s.cardArrives n).por = s.por ∧ (s.cardArrives n).pending = s.pending := by
  unfold State.cardArrives
  dsimp only
  (repeat' split) <;> simp

@[simp] theorem State.goEmpty_leaves (s : State) (n : SlotNo) :
    (s.goEmpty n).supply = s.supply ∧ (s.goEmpty n).watching = s.watching ∧ (s.goEmpty n).notices = s.notices ∧
    (s.goEmpty n).lanes = s.lanes ∧ (∀ m : LaneNo, (s.goEmpty n).lane m = s.lane m) ∧
    (s.goEmpty n).links = s.links ∧ (∀ m : SlotNo, (s.goEmpty n).link m = s.link m) ∧
    (s.goEmpty n).circuits = s.circuits ∧ (∀ m : EntryNo, (s.goEmpty n).entry m = s.entry m) ∧
    (s.goEmpty n).restore = s.restore ∧ (s.goEmpty n).journal = s.journal ∧ (s.goEmpty n).path = s.path ∧
    (∀ m : SlotNo, (s.goEmpty n).sl0 m = s.sl0 m) ∧ (s.goEmpty n).judging = s.judging ∧
    (s.goEmpty n).memory = s.memory ∧ (s.goEmpty n).ctrlReset = s.ctrlReset ∧ (s.goEmpty n).por = s.por ∧
    (s.goEmpty n).pending = s.pending := by
  unfold State.goEmpty
  simp

@[simp] theorem State.raiseLost_leaves (s : State) (n : SlotNo) :
    (s.raiseLost n).supply = s.supply ∧ (s.raiseLost n).watching = s.watching ∧ (s.raiseLost n).slots = s.slots ∧
    (∀ m : SlotNo, (s.raiseLost n).slot m = s.slot m) ∧ (s.raiseLost n).notices = s.notices ∧
    (s.raiseLost n).lanes = s.lanes ∧ (∀ m : LaneNo, (s.raiseLost n).lane m = s.lane m) ∧
    (s.raiseLost n).links = s.links ∧ (∀ m : SlotNo, (s.raiseLost n).link m = s.link m) ∧
    (s.raiseLost n).circuits = s.circuits ∧ (∀ m : EntryNo, (s.raiseLost n).entry m = s.entry m) ∧
    (s.raiseLost n).restore = s.restore ∧ (s.raiseLost n).path = s.path ∧
    (∀ m : SlotNo, (s.raiseLost n).sl0 m = s.sl0 m) ∧ (s.raiseLost n).judging = s.judging ∧
    (s.raiseLost n).memory = s.memory ∧ (s.raiseLost n).ctrlReset = s.ctrlReset ∧ (s.raiseLost n).por = s.por ∧
    (s.raiseLost n).pending = s.pending := by
  unfold State.raiseLost
  (repeat' split) <;> simp

@[simp] theorem State.cardLeaves_leaves (s : State) (n : SlotNo) :
    (s.cardLeaves n).supply = s.supply ∧ (s.cardLeaves n).watching = s.watching ∧
    (s.cardLeaves n).circuits = s.circuits ∧ (∀ m : EntryNo, (s.cardLeaves n).entry m = s.entry m) ∧
    (s.cardLeaves n).restore = s.restore ∧ (s.cardLeaves n).path = s.path ∧
    (∀ m : SlotNo, (s.cardLeaves n).sl0 m = s.sl0 m) ∧ (s.cardLeaves n).judging = s.judging ∧
    (s.cardLeaves n).memory = s.memory ∧ (s.cardLeaves n).ctrlReset = s.ctrlReset ∧ (s.cardLeaves n).por = s.por ∧
    (s.cardLeaves n).pending = s.pending ∧ (s.cardLeaves n).notices.slots = s.notices.slots ∧
    (s.cardLeaves n).notices.circuits = s.notices.circuits ∧ (s.cardLeaves n).notices.restore = s.notices.restore := by
  unfold State.cardLeaves
  dsimp only
  (repeat' split) <;> simp

@[simp] theorem State.resetNow_leaves (s : State) (n : SlotNo) :
    (s.resetNow n).supply = s.supply ∧ (s.resetNow n).watching = s.watching ∧
    (s.resetNow n).circuits = s.circuits ∧ (∀ m : EntryNo, (s.resetNow n).entry m = s.entry m) ∧
    (s.resetNow n).restore = s.restore ∧ (s.resetNow n).journal = s.journal ∧ (s.resetNow n).path = s.path ∧
    (∀ m : SlotNo, (s.resetNow n).sl0 m = s.sl0 m) ∧ (s.resetNow n).judging = s.judging ∧
    (s.resetNow n).memory = s.memory ∧ (s.resetNow n).ctrlReset = s.ctrlReset ∧ (s.resetNow n).por = s.por ∧
    (s.resetNow n).pending = s.pending ∧ (s.resetNow n).notices.slots = s.notices.slots ∧
    (s.resetNow n).notices.circuits = s.notices.circuits ∧ (s.resetNow n).notices.restore = s.notices.restore := by
  unfold State.resetNow
  (repeat' split) <;> simp

@[simp] theorem State.resetResting_leaves (s : State) (n : SlotNo) :
    (s.resetResting n).supply = s.supply ∧ (s.resetResting n).watching = s.watching ∧
    (s.resetResting n).notices = s.notices ∧ (s.resetResting n).lanes = s.lanes ∧
    (∀ m : LaneNo, (s.resetResting n).lane m = s.lane m) ∧ (s.resetResting n).links = s.links ∧
    (∀ m : SlotNo, (s.resetResting n).link m = s.link m) ∧ (s.resetResting n).circuits = s.circuits ∧
    (∀ m : EntryNo, (s.resetResting n).entry m = s.entry m) ∧ (s.resetResting n).restore = s.restore ∧
    (s.resetResting n).journal = s.journal ∧ (s.resetResting n).path = s.path ∧
    (∀ m : SlotNo, (s.resetResting n).sl0 m = s.sl0 m) ∧ (s.resetResting n).judging = s.judging ∧
    (s.resetResting n).memory = s.memory ∧ (s.resetResting n).ctrlReset = s.ctrlReset ∧
    (s.resetResting n).por = s.por ∧ (s.resetResting n).pending = s.pending := by
  unfold State.resetResting
  (repeat' split) <;> simp

@[simp] theorem State.goOffline_leaves (s : State) (n : SlotNo) :
    (s.goOffline n).supply = s.supply ∧ (s.goOffline n).watching = s.watching ∧
    (s.goOffline n).notices = s.notices ∧ (s.goOffline n).lanes = s.lanes ∧
    (∀ m : LaneNo, (s.goOffline n).lane m = s.lane m) ∧ (s.goOffline n).links = s.links ∧
    (∀ m : SlotNo, (s.goOffline n).link m = s.link m) ∧ (s.goOffline n).circuits = s.circuits ∧
    (∀ m : EntryNo, (s.goOffline n).entry m = s.entry m) ∧ (s.goOffline n).restore = s.restore ∧
    (s.goOffline n).journal = s.journal ∧ (s.goOffline n).path = s.path ∧
    (∀ m : SlotNo, (s.goOffline n).sl0 m = s.sl0 m) ∧ (s.goOffline n).judging = s.judging ∧
    (s.goOffline n).memory = s.memory ∧ (s.goOffline n).ctrlReset = s.ctrlReset ∧ (s.goOffline n).por = s.por ∧
    (s.goOffline n).pending = s.pending := by
  unfold State.goOffline
  simp

@[simp] theorem State.releaseReset_leaves (s : State) (n : SlotNo) :
    (s.releaseReset n).supply = s.supply ∧ (s.releaseReset n).watching = s.watching ∧
    (s.releaseReset n).notices = s.notices ∧ (s.releaseReset n).lanes = s.lanes ∧
    (∀ m : LaneNo, (s.releaseReset n).lane m = s.lane m) ∧ (s.releaseReset n).links = s.links ∧
    (∀ m : SlotNo, (s.releaseReset n).link m = s.link m) ∧ (s.releaseReset n).circuits = s.circuits ∧
    (∀ m : EntryNo, (s.releaseReset n).entry m = s.entry m) ∧ (s.releaseReset n).restore = s.restore ∧
    (s.releaseReset n).journal = s.journal ∧ (s.releaseReset n).path = s.path ∧
    (∀ m : SlotNo, (s.releaseReset n).sl0 m = s.sl0 m) ∧ (s.releaseReset n).judging = s.judging ∧
    (s.releaseReset n).memory = s.memory ∧ (s.releaseReset n).ctrlReset = s.ctrlReset ∧
    (s.releaseReset n).por = s.por ∧ (s.releaseReset n).pending = s.pending := by
  unfold State.releaseReset
  simp

@[simp] theorem State.takeRelink_leaves (s : State) (n : SlotNo) :
    (s.takeRelink n).supply = s.supply ∧ (s.takeRelink n).watching = s.watching ∧
    (s.takeRelink n).circuits = s.circuits ∧ (∀ m : EntryNo, (s.takeRelink n).entry m = s.entry m) ∧
    (s.takeRelink n).restore = s.restore ∧ (s.takeRelink n).journal = s.journal ∧ (s.takeRelink n).path = s.path ∧
    (∀ m : SlotNo, (s.takeRelink n).sl0 m = s.sl0 m) ∧ (s.takeRelink n).judging = s.judging ∧
    (s.takeRelink n).memory = s.memory ∧ (s.takeRelink n).ctrlReset = s.ctrlReset ∧ (s.takeRelink n).por = s.por ∧
    (s.takeRelink n).pending = s.pending ∧ (s.takeRelink n).notices.slots = s.notices.slots ∧
    (s.takeRelink n).notices.circuits = s.notices.circuits ∧ (s.takeRelink n).notices.restore = s.notices.restore := by
  unfold State.takeRelink
  (repeat' split) <;> simp

@[simp] theorem State.takeRelinkReset_leaves (s : State) (n : SlotNo) :
    (s.takeRelinkReset n).supply = s.supply ∧ (s.takeRelinkReset n).watching = s.watching ∧
    (s.takeRelinkReset n).circuits = s.circuits ∧ (∀ m : EntryNo, (s.takeRelinkReset n).entry m = s.entry m) ∧
    (s.takeRelinkReset n).restore = s.restore ∧ (s.takeRelinkReset n).journal = s.journal ∧
    (s.takeRelinkReset n).path = s.path ∧ (∀ m : SlotNo, (s.takeRelinkReset n).sl0 m = s.sl0 m) ∧
    (s.takeRelinkReset n).judging = s.judging ∧ (s.takeRelinkReset n).memory = s.memory ∧
    (s.takeRelinkReset n).ctrlReset = s.ctrlReset ∧ (s.takeRelinkReset n).por = s.por ∧
    (s.takeRelinkReset n).pending = s.pending ∧ (s.takeRelinkReset n).notices.slots = s.notices.slots ∧
    (s.takeRelinkReset n).notices.circuits = s.notices.circuits ∧
    (s.takeRelinkReset n).notices.restore = s.notices.restore := by
  unfold State.takeRelinkReset
  (repeat' split) <;> simp

@[simp] theorem State.takeQuiesce_leaves (s : State) (n : SlotNo) :
    (s.takeQuiesce n).supply = s.supply ∧ (s.takeQuiesce n).watching = s.watching ∧
    (s.takeQuiesce n).circuits = s.circuits ∧ (∀ m : EntryNo, (s.takeQuiesce n).entry m = s.entry m) ∧
    (s.takeQuiesce n).restore = s.restore ∧ (s.takeQuiesce n).journal = s.journal ∧
    (s.takeQuiesce n).path = s.path ∧ (∀ m : SlotNo, (s.takeQuiesce n).sl0 m = s.sl0 m) ∧
    (s.takeQuiesce n).judging = s.judging ∧ (s.takeQuiesce n).memory = s.memory ∧
    (s.takeQuiesce n).ctrlReset = s.ctrlReset ∧ (s.takeQuiesce n).por = s.por ∧
    (s.takeQuiesce n).pending = s.pending ∧ (s.takeQuiesce n).notices.slots = s.notices.slots ∧
    (s.takeQuiesce n).notices.circuits = s.notices.circuits ∧
    (s.takeQuiesce n).notices.restore = s.notices.restore := by
  unfold State.takeQuiesce
  (repeat' split) <;> simp

@[simp] theorem State.takeResume_leaves (s : State) (n : SlotNo) :
    (s.takeResume n).supply = s.supply ∧ (s.takeResume n).watching = s.watching ∧
    (s.takeResume n).notices = s.notices ∧ (s.takeResume n).lanes = s.lanes ∧
    (∀ m : LaneNo, (s.takeResume n).lane m = s.lane m) ∧ (s.takeResume n).circuits = s.circuits ∧
    (∀ m : EntryNo, (s.takeResume n).entry m = s.entry m) ∧ (s.takeResume n).restore = s.restore ∧
    (s.takeResume n).journal = s.journal ∧ (s.takeResume n).path = s.path ∧
    (∀ m : SlotNo, (s.takeResume n).sl0 m = s.sl0 m) ∧ (s.takeResume n).judging = s.judging ∧
    (s.takeResume n).memory = s.memory ∧ (s.takeResume n).ctrlReset = s.ctrlReset ∧ (s.takeResume n).por = s.por ∧
    (s.takeResume n).pending = s.pending := by
  unfold State.takeResume
  (repeat' split) <;> simp

@[simp] theorem State.slotRequest_leaves (s : State) (n : SlotNo) (b : Byte) :
    (s.slotRequest n b).supply = s.supply ∧ (s.slotRequest n b).watching = s.watching ∧
    (s.slotRequest n b).circuits = s.circuits ∧ (∀ m : EntryNo, (s.slotRequest n b).entry m = s.entry m) ∧
    (s.slotRequest n b).restore = s.restore ∧ (s.slotRequest n b).journal = s.journal ∧
    (s.slotRequest n b).path = s.path ∧ (∀ m : SlotNo, (s.slotRequest n b).sl0 m = s.sl0 m) ∧
    (s.slotRequest n b).judging = s.judging ∧ (s.slotRequest n b).memory = s.memory ∧
    (s.slotRequest n b).ctrlReset = s.ctrlReset ∧ (s.slotRequest n b).por = s.por ∧
    (s.slotRequest n b).pending = s.pending ∧ (s.slotRequest n b).notices.slots = s.notices.slots ∧
    (s.slotRequest n b).notices.circuits = s.notices.circuits ∧
    (s.slotRequest n b).notices.restore = s.notices.restore := by
  unfold State.slotRequest
  (repeat' split) <;> simp

/-! ## Link training -/

@[simp] theorem State.sendProbe_leaves (s : State) (n : SlotNo) (w : Sweep) :
    (s.sendProbe n w).supply = s.supply ∧ (s.sendProbe n w).watching = s.watching ∧
    (s.sendProbe n w).slots = s.slots ∧ (∀ m : SlotNo, (s.sendProbe n w).slot m = s.slot m) ∧
    (s.sendProbe n w).notices = s.notices ∧ (s.sendProbe n w).lanes = s.lanes ∧
    (∀ m : LaneNo, (s.sendProbe n w).lane m = s.lane m) ∧ (s.sendProbe n w).circuits = s.circuits ∧
    (∀ m : EntryNo, (s.sendProbe n w).entry m = s.entry m) ∧ (s.sendProbe n w).restore = s.restore ∧
    (s.sendProbe n w).journal = s.journal ∧ (s.sendProbe n w).path = s.path ∧
    (∀ m : SlotNo, (s.sendProbe n w).sl0 m = s.sl0 m) ∧ (s.sendProbe n w).judging = s.judging ∧
    (s.sendProbe n w).memory = s.memory ∧ (s.sendProbe n w).ctrlReset = s.ctrlReset ∧
    (s.sendProbe n w).por = s.por ∧ (s.sendProbe n w).pending = s.pending := by
  unfold State.sendProbe
  simp

@[simp] theorem State.continueSweep_leaves (s : State) (l : LaneNo) (n : SlotNo) (w : Sweep) :
    (s.continueSweep l n w).supply = s.supply ∧ (s.continueSweep l n w).watching = s.watching ∧
    (s.continueSweep l n w).slots = s.slots ∧ (∀ m : SlotNo, (s.continueSweep l n w).slot m = s.slot m) ∧
    (s.continueSweep l n w).notices = s.notices ∧ (s.continueSweep l n w).circuits = s.circuits ∧
    (∀ m : EntryNo, (s.continueSweep l n w).entry m = s.entry m) ∧ (s.continueSweep l n w).restore = s.restore ∧
    (s.continueSweep l n w).journal = s.journal ∧ (s.continueSweep l n w).path = s.path ∧
    (∀ m : SlotNo, (s.continueSweep l n w).sl0 m = s.sl0 m) ∧ (s.continueSweep l n w).judging = s.judging ∧
    (s.continueSweep l n w).memory = s.memory ∧ (s.continueSweep l n w).ctrlReset = s.ctrlReset ∧
    (s.continueSweep l n w).por = s.por ∧ (s.continueSweep l n w).pending = s.pending := by
  unfold State.continueSweep
  simp

@[simp] theorem State.beginSweep_leaves (s : State) (l : LaneNo) (n : SlotNo) (md : Mode) :
    (s.beginSweep l n md).supply = s.supply ∧ (s.beginSweep l n md).watching = s.watching ∧
    (s.beginSweep l n md).slots = s.slots ∧ (∀ m : SlotNo, (s.beginSweep l n md).slot m = s.slot m) ∧
    (s.beginSweep l n md).notices = s.notices ∧ (s.beginSweep l n md).circuits = s.circuits ∧
    (∀ m : EntryNo, (s.beginSweep l n md).entry m = s.entry m) ∧ (s.beginSweep l n md).restore = s.restore ∧
    (s.beginSweep l n md).journal = s.journal ∧ (s.beginSweep l n md).path = s.path ∧
    (∀ m : SlotNo, (s.beginSweep l n md).sl0 m = s.sl0 m) ∧ (s.beginSweep l n md).judging = s.judging ∧
    (s.beginSweep l n md).memory = s.memory ∧ (s.beginSweep l n md).ctrlReset = s.ctrlReset ∧
    (s.beginSweep l n md).por = s.por ∧ (s.beginSweep l n md).pending = s.pending := by
  unfold State.beginSweep
  (repeat' split) <;> simp

@[simp] theorem State.failVerify_leaves (s : State) (l : LaneNo) (n : SlotNo) (r : FailReason) :
    (s.failVerify l n r).supply = s.supply ∧ (s.failVerify l n r).watching = s.watching ∧
    (s.failVerify l n r).notices = s.notices ∧ (s.failVerify l n r).circuits = s.circuits ∧
    (∀ m : EntryNo, (s.failVerify l n r).entry m = s.entry m) ∧ (s.failVerify l n r).restore = s.restore ∧
    (s.failVerify l n r).journal = s.journal ∧ (s.failVerify l n r).path = s.path ∧
    (∀ m : SlotNo, (s.failVerify l n r).sl0 m = s.sl0 m) ∧ (s.failVerify l n r).judging = s.judging ∧
    (s.failVerify l n r).memory = s.memory ∧ (s.failVerify l n r).ctrlReset = s.ctrlReset ∧
    (s.failVerify l n r).por = s.por ∧ (s.failVerify l n r).pending = s.pending := by
  unfold State.failVerify
  simp

@[simp] theorem State.startSweep_leaves (s : State) (l : LaneNo) (n : SlotNo) :
    (s.startSweep l n).supply = s.supply ∧ (s.startSweep l n).watching = s.watching ∧
    (s.startSweep l n).notices = s.notices ∧ (s.startSweep l n).circuits = s.circuits ∧
    (∀ m : EntryNo, (s.startSweep l n).entry m = s.entry m) ∧ (s.startSweep l n).restore = s.restore ∧
    (s.startSweep l n).journal = s.journal ∧ (s.startSweep l n).path = s.path ∧
    (∀ m : SlotNo, (s.startSweep l n).sl0 m = s.sl0 m) ∧ (s.startSweep l n).judging = s.judging ∧
    (s.startSweep l n).memory = s.memory ∧ (s.startSweep l n).ctrlReset = s.ctrlReset ∧
    (s.startSweep l n).por = s.por ∧ (s.startSweep l n).pending = s.pending := by
  unfold State.startSweep
  (repeat' split) <;> simp

@[simp] theorem State.failSweep_leaves (s : State) (l : LaneNo) (n : SlotNo) (md : Mode) (r : FailReason) :
    (s.failSweep l n md r).supply = s.supply ∧ (s.failSweep l n md r).watching = s.watching ∧
    (s.failSweep l n md r).notices = s.notices ∧ (s.failSweep l n md r).circuits = s.circuits ∧
    (∀ m : EntryNo, (s.failSweep l n md r).entry m = s.entry m) ∧ (s.failSweep l n md r).restore = s.restore ∧
    (s.failSweep l n md r).path = s.path ∧ (∀ m : SlotNo, (s.failSweep l n md r).sl0 m = s.sl0 m) ∧
    (s.failSweep l n md r).judging = s.judging ∧ (s.failSweep l n md r).memory = s.memory ∧
    (s.failSweep l n md r).ctrlReset = s.ctrlReset ∧ (s.failSweep l n md r).por = s.por ∧
    (s.failSweep l n md r).pending = s.pending := by
  unfold State.failSweep
  (repeat' split) <;> simp

@[simp] theorem State.raiseDrift_leaves (s : State) (n : SlotNo) (md : Mode) (k : LockResults) :
    (s.raiseDrift n md k).supply = s.supply ∧ (s.raiseDrift n md k).watching = s.watching ∧
    (s.raiseDrift n md k).slots = s.slots ∧ (∀ m : SlotNo, (s.raiseDrift n md k).slot m = s.slot m) ∧
    (s.raiseDrift n md k).notices = s.notices ∧ (s.raiseDrift n md k).lanes = s.lanes ∧
    (∀ m : LaneNo, (s.raiseDrift n md k).lane m = s.lane m) ∧ (s.raiseDrift n md k).links = s.links ∧
    (∀ m : SlotNo, (s.raiseDrift n md k).link m = s.link m) ∧ (s.raiseDrift n md k).circuits = s.circuits ∧
    (∀ m : EntryNo, (s.raiseDrift n md k).entry m = s.entry m) ∧ (s.raiseDrift n md k).restore = s.restore ∧
    (s.raiseDrift n md k).path = s.path ∧ (∀ m : SlotNo, (s.raiseDrift n md k).sl0 m = s.sl0 m) ∧
    (s.raiseDrift n md k).judging = s.judging ∧ (s.raiseDrift n md k).memory = s.memory ∧
    (s.raiseDrift n md k).ctrlReset = s.ctrlReset ∧ (s.raiseDrift n md k).por = s.por ∧
    (s.raiseDrift n md k).pending = s.pending := by
  unfold State.raiseDrift
  (repeat' split) <;> simp

@[simp] theorem State.enterIdentify_leaves (s : State) (n : SlotNo) (k : LockResults) :
    (s.enterIdentify n k).supply = s.supply ∧ (s.enterIdentify n k).watching = s.watching ∧
    (s.enterIdentify n k).notices = s.notices ∧ (s.enterIdentify n k).lanes = s.lanes ∧
    (∀ m : LaneNo, (s.enterIdentify n k).lane m = s.lane m) ∧ (s.enterIdentify n k).circuits = s.circuits ∧
    (∀ m : EntryNo, (s.enterIdentify n k).entry m = s.entry m) ∧ (s.enterIdentify n k).restore = s.restore ∧
    (s.enterIdentify n k).journal = s.journal ∧ (s.enterIdentify n k).path = s.path ∧
    (∀ m : SlotNo, (s.enterIdentify n k).sl0 m = s.sl0 m) ∧ (s.enterIdentify n k).judging = s.judging ∧
    (s.enterIdentify n k).memory = s.memory ∧ (s.enterIdentify n k).ctrlReset = s.ctrlReset ∧
    (s.enterIdentify n k).por = s.por ∧ (s.enterIdentify n k).pending = s.pending := by
  unfold State.enterIdentify
  simp

@[simp] theorem State.lockSweep_leaves (s : State) (n : SlotNo) (w : Sweep) (a b : Tap) :
    (s.lockSweep n w a b).supply = s.supply ∧ (s.lockSweep n w a b).watching = s.watching ∧
    (s.lockSweep n w a b).notices = s.notices ∧ (s.lockSweep n w a b).circuits = s.circuits ∧
    (∀ m : EntryNo, (s.lockSweep n w a b).entry m = s.entry m) ∧ (s.lockSweep n w a b).restore = s.restore ∧
    (s.lockSweep n w a b).path = s.path ∧ (∀ m : SlotNo, (s.lockSweep n w a b).sl0 m = s.sl0 m) ∧
    (s.lockSweep n w a b).judging = s.judging ∧ (s.lockSweep n w a b).memory = s.memory ∧
    (s.lockSweep n w a b).ctrlReset = s.ctrlReset ∧ (s.lockSweep n w a b).por = s.por ∧
    (s.lockSweep n w a b).pending = s.pending := by
  unfold State.lockSweep
  simp

@[simp] theorem State.concludeSweep_leaves (s : State) (l : LaneNo) (n : SlotNo) (w : Sweep) :
    (s.concludeSweep l n w).supply = s.supply ∧ (s.concludeSweep l n w).watching = s.watching ∧
    (s.concludeSweep l n w).notices = s.notices ∧ (s.concludeSweep l n w).circuits = s.circuits ∧
    (∀ m : EntryNo, (s.concludeSweep l n w).entry m = s.entry m) ∧ (s.concludeSweep l n w).restore = s.restore ∧
    (s.concludeSweep l n w).path = s.path ∧ (∀ m : SlotNo, (s.concludeSweep l n w).sl0 m = s.sl0 m) ∧
    (s.concludeSweep l n w).judging = s.judging ∧ (s.concludeSweep l n w).memory = s.memory ∧
    (s.concludeSweep l n w).ctrlReset = s.ctrlReset ∧ (s.concludeSweep l n w).por = s.por ∧
    (s.concludeSweep l n w).pending = s.pending := by
  unfold State.concludeSweep
  (repeat' split) <;> simp

@[simp] theorem State.sampled_leaves (s : State) (l : LaneNo) (n : SlotNo) (w : Sweep) :
    (s.sampled l n w).supply = s.supply ∧ (s.sampled l n w).watching = s.watching ∧
    (s.sampled l n w).notices = s.notices ∧ (s.sampled l n w).circuits = s.circuits ∧
    (∀ m : EntryNo, (s.sampled l n w).entry m = s.entry m) ∧ (s.sampled l n w).restore = s.restore ∧
    (s.sampled l n w).path = s.path ∧ (∀ m : SlotNo, (s.sampled l n w).sl0 m = s.sl0 m) ∧
    (s.sampled l n w).judging = s.judging ∧ (s.sampled l n w).memory = s.memory ∧
    (s.sampled l n w).ctrlReset = s.ctrlReset ∧ (s.sampled l n w).por = s.por ∧
    (s.sampled l n w).pending = s.pending := by
  unfold State.sampled
  (repeat' split) <;> simp

@[simp] theorem State.endProbe_leaves (s : State) (n : SlotNo) (b : Bool) :
    (s.endProbe n b).supply = s.supply ∧ (s.endProbe n b).watching = s.watching ∧
    (s.endProbe n b).notices = s.notices ∧ (s.endProbe n b).circuits = s.circuits ∧
    (∀ m : EntryNo, (s.endProbe n b).entry m = s.entry m) ∧ (s.endProbe n b).restore = s.restore ∧
    (s.endProbe n b).path = s.path ∧ (∀ m : SlotNo, (s.endProbe n b).sl0 m = s.sl0 m) ∧
    (s.endProbe n b).judging = s.judging ∧ (s.endProbe n b).memory = s.memory ∧
    (s.endProbe n b).ctrlReset = s.ctrlReset ∧ (s.endProbe n b).por = s.por ∧ (s.endProbe n b).pending = s.pending := by
  unfold State.endProbe
  (repeat' split) <;> simp

@[simp] theorem State.bindLane_leaves (s : State) (n : SlotNo) (l : LaneNo)  :
    (s.bindLane n l).supply = s.supply ∧ (s.bindLane n l).watching = s.watching ∧
    (s.bindLane n l).notices = s.notices ∧ (s.bindLane n l).circuits = s.circuits ∧
    (∀ m : EntryNo, (s.bindLane n l).entry m = s.entry m) ∧ (s.bindLane n l).restore = s.restore ∧
    (s.bindLane n l).journal = s.journal ∧ (s.bindLane n l).path = s.path ∧
    (∀ m : SlotNo, (s.bindLane n l).sl0 m = s.sl0 m) ∧ (s.bindLane n l).judging = s.judging ∧
    (s.bindLane n l).memory = s.memory ∧ (s.bindLane n l).ctrlReset = s.ctrlReset ∧ (s.bindLane n l).por = s.por ∧
    (s.bindLane n l).pending = s.pending := by
  unfold State.bindLane
  simp

/-! ## Circuit Table -/

@[simp] theorem State.becomeIdle_leaves (s : State) (i : EntryNo) :
    (s.becomeIdle i).supply = s.supply ∧ (s.becomeIdle i).watching = s.watching ∧
    (s.becomeIdle i).slots = s.slots ∧ (∀ m : SlotNo, (s.becomeIdle i).slot m = s.slot m) ∧
    (s.becomeIdle i).notices = s.notices ∧ (s.becomeIdle i).lanes = s.lanes ∧
    (∀ m : LaneNo, (s.becomeIdle i).lane m = s.lane m) ∧ (s.becomeIdle i).links = s.links ∧
    (∀ m : SlotNo, (s.becomeIdle i).link m = s.link m) ∧ (s.becomeIdle i).journal = s.journal ∧
    (s.becomeIdle i).path = s.path ∧ (∀ m : SlotNo, (s.becomeIdle i).sl0 m = s.sl0 m) ∧
    (s.becomeIdle i).judging = s.judging ∧ (s.becomeIdle i).memory = s.memory ∧
    (s.becomeIdle i).ctrlReset = s.ctrlReset ∧ (s.becomeIdle i).por = s.por ∧
    (s.becomeIdle i).pending = s.pending ∧ (s.becomeIdle i).restore.phase = s.restore.phase ∧
    (s.becomeIdle i).restore.lowestClosed = s.restore.lowestClosed ∧
    (s.becomeIdle i).restore.timer = s.restore.timer ∧
    (s.becomeIdle i).circuits.admissions = s.circuits.admissions := by
  unfold State.becomeIdle
  simp

@[simp] theorem State.settleReleasing_leaves (s : State) (i : EntryNo) :
    (s.settleReleasing i).supply = s.supply ∧ (s.settleReleasing i).watching = s.watching ∧
    (s.settleReleasing i).slots = s.slots ∧ (∀ m : SlotNo, (s.settleReleasing i).slot m = s.slot m) ∧
    (s.settleReleasing i).notices = s.notices ∧ (s.settleReleasing i).lanes = s.lanes ∧
    (∀ m : LaneNo, (s.settleReleasing i).lane m = s.lane m) ∧ (s.settleReleasing i).links = s.links ∧
    (∀ m : SlotNo, (s.settleReleasing i).link m = s.link m) ∧ (s.settleReleasing i).journal = s.journal ∧
    (s.settleReleasing i).path = s.path ∧ (∀ m : SlotNo, (s.settleReleasing i).sl0 m = s.sl0 m) ∧
    (s.settleReleasing i).judging = s.judging ∧ (s.settleReleasing i).memory = s.memory ∧
    (s.settleReleasing i).ctrlReset = s.ctrlReset ∧ (s.settleReleasing i).por = s.por ∧
    (s.settleReleasing i).pending = s.pending ∧ (s.settleReleasing i).restore.phase = s.restore.phase ∧
    (s.settleReleasing i).restore.lowestClosed = s.restore.lowestClosed ∧
    (s.settleReleasing i).restore.timer = s.restore.timer ∧
    (s.settleReleasing i).circuits.admissions = s.circuits.admissions := by
  unfold State.settleReleasing
  (repeat' split) <;> simp

@[simp] theorem State.releaseEnded_leaves (s : State) (i : EntryNo) (d : Ends) :
    (s.releaseEnded i d).supply = s.supply ∧ (s.releaseEnded i d).watching = s.watching ∧
    (s.releaseEnded i d).slots = s.slots ∧ (∀ m : SlotNo, (s.releaseEnded i d).slot m = s.slot m) ∧
    (s.releaseEnded i d).notices = s.notices ∧ (s.releaseEnded i d).lanes = s.lanes ∧
    (∀ m : LaneNo, (s.releaseEnded i d).lane m = s.lane m) ∧ (s.releaseEnded i d).links = s.links ∧
    (∀ m : SlotNo, (s.releaseEnded i d).link m = s.link m) ∧ (s.releaseEnded i d).journal = s.journal ∧
    (s.releaseEnded i d).path = s.path ∧ (∀ m : SlotNo, (s.releaseEnded i d).sl0 m = s.sl0 m) ∧
    (s.releaseEnded i d).judging = s.judging ∧ (s.releaseEnded i d).memory = s.memory ∧
    (s.releaseEnded i d).ctrlReset = s.ctrlReset ∧ (s.releaseEnded i d).por = s.por ∧
    (s.releaseEnded i d).pending = s.pending ∧ (s.releaseEnded i d).restore.phase = s.restore.phase ∧
    (s.releaseEnded i d).restore.lowestClosed = s.restore.lowestClosed ∧
    (s.releaseEnded i d).restore.timer = s.restore.timer ∧
    (s.releaseEnded i d).circuits.admissions = s.circuits.admissions := by
  unfold State.releaseEnded
  (repeat' split) <;> simp

@[simp] theorem State.connectDropped_leaves (s : State) (i : EntryNo) (d : Ends) :
    (s.connectDropped i d).supply = s.supply ∧ (s.connectDropped i d).watching = s.watching ∧
    (s.connectDropped i d).slots = s.slots ∧ (∀ m : SlotNo, (s.connectDropped i d).slot m = s.slot m) ∧
    (s.connectDropped i d).notices = s.notices ∧ (s.connectDropped i d).lanes = s.lanes ∧
    (∀ m : LaneNo, (s.connectDropped i d).lane m = s.lane m) ∧ (s.connectDropped i d).links = s.links ∧
    (∀ m : SlotNo, (s.connectDropped i d).link m = s.link m) ∧ (s.connectDropped i d).journal = s.journal ∧
    (s.connectDropped i d).path = s.path ∧ (∀ m : SlotNo, (s.connectDropped i d).sl0 m = s.sl0 m) ∧
    (s.connectDropped i d).judging = s.judging ∧ (s.connectDropped i d).memory = s.memory ∧
    (s.connectDropped i d).ctrlReset = s.ctrlReset ∧ (s.connectDropped i d).por = s.por ∧
    (s.connectDropped i d).pending = s.pending ∧ (s.connectDropped i d).restore.phase = s.restore.phase ∧
    (s.connectDropped i d).restore.lowestClosed = s.restore.lowestClosed ∧
    (s.connectDropped i d).restore.timer = s.restore.timer ∧
    (s.connectDropped i d).circuits.admissions = s.circuits.admissions := by
  unfold State.connectDropped
  (repeat' split) <;> simp

@[simp] theorem State.handBack_leaves (s : State) (n : SlotNo) (o : Order) :
    (State.handBack n s o).supply = s.supply ∧ (State.handBack n s o).watching = s.watching ∧
    (State.handBack n s o).slots = s.slots ∧ (∀ m : SlotNo, (State.handBack n s o).slot m = s.slot m) ∧
    (State.handBack n s o).notices = s.notices ∧ (State.handBack n s o).lanes = s.lanes ∧
    (∀ m : LaneNo, (State.handBack n s o).lane m = s.lane m) ∧ (State.handBack n s o).links = s.links ∧
    (∀ m : SlotNo, (State.handBack n s o).link m = s.link m) ∧ (State.handBack n s o).journal = s.journal ∧
    (State.handBack n s o).path = s.path ∧ (∀ m : SlotNo, (State.handBack n s o).sl0 m = s.sl0 m) ∧
    (State.handBack n s o).judging = s.judging ∧ (State.handBack n s o).memory = s.memory ∧
    (State.handBack n s o).ctrlReset = s.ctrlReset ∧ (State.handBack n s o).por = s.por ∧
    (State.handBack n s o).pending = s.pending ∧ (State.handBack n s o).restore.phase = s.restore.phase ∧
    (State.handBack n s o).restore.lowestClosed = s.restore.lowestClosed ∧
    (State.handBack n s o).restore.timer = s.restore.timer ∧
    (State.handBack n s o).circuits.admissions = s.circuits.admissions := by
  unfold State.handBack
  (repeat' split) <;> simp

@[simp] theorem State.appendTo_leaves (s : State) (n : SlotNo) (o : Order) :
    (s.appendTo n o).supply = s.supply ∧ (s.appendTo n o).watching = s.watching ∧
    (s.appendTo n o).slots = s.slots ∧ (∀ m : SlotNo, (s.appendTo n o).slot m = s.slot m) ∧
    (s.appendTo n o).notices = s.notices ∧ (s.appendTo n o).lanes = s.lanes ∧
    (∀ m : LaneNo, (s.appendTo n o).lane m = s.lane m) ∧ (s.appendTo n o).journal = s.journal ∧
    (s.appendTo n o).path = s.path ∧ (∀ m : SlotNo, (s.appendTo n o).sl0 m = s.sl0 m) ∧
    (s.appendTo n o).judging = s.judging ∧ (s.appendTo n o).memory = s.memory ∧
    (s.appendTo n o).ctrlReset = s.ctrlReset ∧ (s.appendTo n o).por = s.por ∧
    (s.appendTo n o).pending = s.pending ∧ (s.appendTo n o).restore.phase = s.restore.phase ∧
    (s.appendTo n o).restore.lowestClosed = s.restore.lowestClosed ∧
    (s.appendTo n o).restore.timer = s.restore.timer ∧
    (s.appendTo n o).circuits.admissions = s.circuits.admissions := by
  unfold State.appendTo
  (repeat' split) <;> simp

@[simp] theorem State.appendOrder_leaves (s : State) (i : EntryNo) (k : OrderKind) (d : Ends) :
    (s.appendOrder i k d).supply = s.supply ∧ (s.appendOrder i k d).watching = s.watching ∧
    (s.appendOrder i k d).slots = s.slots ∧ (∀ m : SlotNo, (s.appendOrder i k d).slot m = s.slot m) ∧
    (s.appendOrder i k d).notices = s.notices ∧ (s.appendOrder i k d).lanes = s.lanes ∧
    (∀ m : LaneNo, (s.appendOrder i k d).lane m = s.lane m) ∧ (s.appendOrder i k d).journal = s.journal ∧
    (s.appendOrder i k d).path = s.path ∧ (∀ m : SlotNo, (s.appendOrder i k d).sl0 m = s.sl0 m) ∧
    (s.appendOrder i k d).judging = s.judging ∧ (s.appendOrder i k d).memory = s.memory ∧
    (s.appendOrder i k d).ctrlReset = s.ctrlReset ∧ (s.appendOrder i k d).por = s.por ∧
    (s.appendOrder i k d).pending = s.pending ∧ (s.appendOrder i k d).restore.phase = s.restore.phase ∧
    (s.appendOrder i k d).restore.lowestClosed = s.restore.lowestClosed ∧
    (s.appendOrder i k d).restore.timer = s.restore.timer ∧
    (s.appendOrder i k d).circuits.admissions = s.circuits.admissions := by
  unfold State.appendOrder
  (repeat' split) <;> simp

@[simp] theorem State.appendBoth_leaves (s : State) (i : EntryNo) (k : OrderKind) :
    (s.appendBoth i k).supply = s.supply ∧ (s.appendBoth i k).watching = s.watching ∧
    (s.appendBoth i k).slots = s.slots ∧ (∀ m : SlotNo, (s.appendBoth i k).slot m = s.slot m) ∧
    (s.appendBoth i k).notices = s.notices ∧ (s.appendBoth i k).lanes = s.lanes ∧
    (∀ m : LaneNo, (s.appendBoth i k).lane m = s.lane m) ∧ (s.appendBoth i k).journal = s.journal ∧
    (s.appendBoth i k).path = s.path ∧ (∀ m : SlotNo, (s.appendBoth i k).sl0 m = s.sl0 m) ∧
    (s.appendBoth i k).judging = s.judging ∧ (s.appendBoth i k).memory = s.memory ∧
    (s.appendBoth i k).ctrlReset = s.ctrlReset ∧ (s.appendBoth i k).por = s.por ∧
    (s.appendBoth i k).pending = s.pending ∧ (s.appendBoth i k).restore.phase = s.restore.phase ∧
    (s.appendBoth i k).restore.lowestClosed = s.restore.lowestClosed ∧
    (s.appendBoth i k).restore.timer = s.restore.timer ∧
    (s.appendBoth i k).circuits.admissions = s.circuits.admissions := by
  unfold State.appendBoth
  (repeat' split) <;> simp

@[simp] theorem State.releaseBoth_leaves (s : State) (i : EntryNo) (e : Entry) :
    (s.releaseBoth i e).supply = s.supply ∧ (s.releaseBoth i e).watching = s.watching ∧
    (s.releaseBoth i e).slots = s.slots ∧ (∀ m : SlotNo, (s.releaseBoth i e).slot m = s.slot m) ∧
    (s.releaseBoth i e).notices = s.notices ∧ (s.releaseBoth i e).lanes = s.lanes ∧
    (∀ m : LaneNo, (s.releaseBoth i e).lane m = s.lane m) ∧ (s.releaseBoth i e).journal = s.journal ∧
    (s.releaseBoth i e).path = s.path ∧ (∀ m : SlotNo, (s.releaseBoth i e).sl0 m = s.sl0 m) ∧
    (s.releaseBoth i e).judging = s.judging ∧ (s.releaseBoth i e).memory = s.memory ∧
    (s.releaseBoth i e).ctrlReset = s.ctrlReset ∧ (s.releaseBoth i e).por = s.por ∧
    (s.releaseBoth i e).pending = s.pending ∧ (s.releaseBoth i e).restore.phase = s.restore.phase ∧
    (s.releaseBoth i e).restore.lowestClosed = s.restore.lowestClosed ∧
    (s.releaseBoth i e).restore.timer = s.restore.timer ∧
    (s.releaseBoth i e).circuits.admissions = s.circuits.admissions := by
  unfold State.releaseBoth
  simp

@[simp] theorem State.withdrawOrder_leaves (s : State) (i : EntryNo) (d : Ends) :
    (s.withdrawOrder i d).supply = s.supply ∧ (s.withdrawOrder i d).watching = s.watching ∧
    (s.withdrawOrder i d).slots = s.slots ∧ (∀ m : SlotNo, (s.withdrawOrder i d).slot m = s.slot m) ∧
    (s.withdrawOrder i d).notices = s.notices ∧ (s.withdrawOrder i d).lanes = s.lanes ∧
    (∀ m : LaneNo, (s.withdrawOrder i d).lane m = s.lane m) ∧ (s.withdrawOrder i d).circuits = s.circuits ∧
    (∀ m : EntryNo, (s.withdrawOrder i d).entry m = s.entry m) ∧ (s.withdrawOrder i d).restore = s.restore ∧
    (s.withdrawOrder i d).journal = s.journal ∧ (s.withdrawOrder i d).path = s.path ∧
    (∀ m : SlotNo, (s.withdrawOrder i d).sl0 m = s.sl0 m) ∧ (s.withdrawOrder i d).judging = s.judging ∧
    (s.withdrawOrder i d).memory = s.memory ∧ (s.withdrawOrder i d).ctrlReset = s.ctrlReset ∧
    (s.withdrawOrder i d).por = s.por ∧ (s.withdrawOrder i d).pending = s.pending := by
  unfold State.withdrawOrder
  (repeat' split) <;> simp

@[simp] theorem State.withdrawConnect_leaves (s : State) (i : EntryNo) (d : Ends) (k : Mark) :
    (s.withdrawConnect i d k).supply = s.supply ∧ (s.withdrawConnect i d k).watching = s.watching ∧
    (s.withdrawConnect i d k).slots = s.slots ∧ (∀ m : SlotNo, (s.withdrawConnect i d k).slot m = s.slot m) ∧
    (s.withdrawConnect i d k).notices = s.notices ∧ (s.withdrawConnect i d k).lanes = s.lanes ∧
    (∀ m : LaneNo, (s.withdrawConnect i d k).lane m = s.lane m) ∧ (s.withdrawConnect i d k).journal = s.journal ∧
    (s.withdrawConnect i d k).path = s.path ∧ (∀ m : SlotNo, (s.withdrawConnect i d k).sl0 m = s.sl0 m) ∧
    (s.withdrawConnect i d k).judging = s.judging ∧ (s.withdrawConnect i d k).memory = s.memory ∧
    (s.withdrawConnect i d k).ctrlReset = s.ctrlReset ∧ (s.withdrawConnect i d k).por = s.por ∧
    (s.withdrawConnect i d k).pending = s.pending ∧ (s.withdrawConnect i d k).restore.phase = s.restore.phase ∧
    (s.withdrawConnect i d k).restore.lowestClosed = s.restore.lowestClosed ∧
    (s.withdrawConnect i d k).restore.timer = s.restore.timer ∧
    (s.withdrawConnect i d k).circuits.admissions = s.circuits.admissions := by
  unfold State.withdrawConnect
  simp

@[simp] theorem State.undoJoin_leaves (s : State) (i : EntryNo) (x : Side) :
    (s.undoJoin i x).supply = s.supply ∧ (s.undoJoin i x).watching = s.watching ∧
    (s.undoJoin i x).slots = s.slots ∧ (∀ m : SlotNo, (s.undoJoin i x).slot m = s.slot m) ∧
    (s.undoJoin i x).notices = s.notices ∧ (s.undoJoin i x).lanes = s.lanes ∧
    (∀ m : LaneNo, (s.undoJoin i x).lane m = s.lane m) ∧ (s.undoJoin i x).journal = s.journal ∧
    (s.undoJoin i x).path = s.path ∧ (∀ m : SlotNo, (s.undoJoin i x).sl0 m = s.sl0 m) ∧
    (s.undoJoin i x).judging = s.judging ∧ (s.undoJoin i x).memory = s.memory ∧
    (s.undoJoin i x).ctrlReset = s.ctrlReset ∧ (s.undoJoin i x).por = s.por ∧
    (s.undoJoin i x).pending = s.pending ∧ (s.undoJoin i x).restore.phase = s.restore.phase ∧
    (s.undoJoin i x).restore.lowestClosed = s.restore.lowestClosed ∧
    (s.undoJoin i x).restore.timer = s.restore.timer ∧
    (s.undoJoin i x).circuits.admissions = s.circuits.admissions := by
  unfold State.undoJoin
  simp

@[simp] theorem State.parkOther_leaves (s : State) (i : EntryNo) (x : Side) :
    (s.parkOther i x).supply = s.supply ∧ (s.parkOther i x).watching = s.watching ∧
    (s.parkOther i x).slots = s.slots ∧ (∀ m : SlotNo, (s.parkOther i x).slot m = s.slot m) ∧
    (s.parkOther i x).notices = s.notices ∧ (s.parkOther i x).lanes = s.lanes ∧
    (∀ m : LaneNo, (s.parkOther i x).lane m = s.lane m) ∧ (s.parkOther i x).journal = s.journal ∧
    (s.parkOther i x).path = s.path ∧ (∀ m : SlotNo, (s.parkOther i x).sl0 m = s.sl0 m) ∧
    (s.parkOther i x).judging = s.judging ∧ (s.parkOther i x).memory = s.memory ∧
    (s.parkOther i x).ctrlReset = s.ctrlReset ∧ (s.parkOther i x).por = s.por ∧
    (s.parkOther i x).pending = s.pending ∧ (s.parkOther i x).restore.phase = s.restore.phase ∧
    (s.parkOther i x).restore.lowestClosed = s.restore.lowestClosed ∧
    (s.parkOther i x).restore.timer = s.restore.timer ∧
    (s.parkOther i x).circuits.admissions = s.circuits.admissions := by
  unfold State.parkOther
  (repeat' split) <;> simp

@[simp] theorem State.parkReleased_leaves (s : State) (i : EntryNo) (x : Side) :
    (s.parkReleased i x).supply = s.supply ∧ (s.parkReleased i x).watching = s.watching ∧
    (s.parkReleased i x).slots = s.slots ∧ (∀ m : SlotNo, (s.parkReleased i x).slot m = s.slot m) ∧
    (s.parkReleased i x).notices = s.notices ∧ (s.parkReleased i x).lanes = s.lanes ∧
    (∀ m : LaneNo, (s.parkReleased i x).lane m = s.lane m) ∧ (s.parkReleased i x).journal = s.journal ∧
    (s.parkReleased i x).path = s.path ∧ (∀ m : SlotNo, (s.parkReleased i x).sl0 m = s.sl0 m) ∧
    (s.parkReleased i x).judging = s.judging ∧ (s.parkReleased i x).memory = s.memory ∧
    (s.parkReleased i x).ctrlReset = s.ctrlReset ∧ (s.parkReleased i x).por = s.por ∧
    (s.parkReleased i x).pending = s.pending ∧ (s.parkReleased i x).restore.phase = s.restore.phase ∧
    (s.parkReleased i x).restore.lowestClosed = s.restore.lowestClosed ∧
    (s.parkReleased i x).restore.timer = s.restore.timer ∧
    (s.parkReleased i x).circuits.admissions = s.circuits.admissions := by
  unfold State.parkReleased
  dsimp only
  (repeat' split) <;> simp

@[simp] theorem State.parkResolve_leaves (s : State) (i : EntryNo) (x : Side) :
    (s.parkResolve i x).supply = s.supply ∧ (s.parkResolve i x).watching = s.watching ∧
    (s.parkResolve i x).slots = s.slots ∧ (∀ m : SlotNo, (s.parkResolve i x).slot m = s.slot m) ∧
    (s.parkResolve i x).notices = s.notices ∧ (s.parkResolve i x).lanes = s.lanes ∧
    (∀ m : LaneNo, (s.parkResolve i x).lane m = s.lane m) ∧ (s.parkResolve i x).journal = s.journal ∧
    (s.parkResolve i x).path = s.path ∧ (∀ m : SlotNo, (s.parkResolve i x).sl0 m = s.sl0 m) ∧
    (s.parkResolve i x).judging = s.judging ∧ (s.parkResolve i x).memory = s.memory ∧
    (s.parkResolve i x).ctrlReset = s.ctrlReset ∧ (s.parkResolve i x).por = s.por ∧
    (s.parkResolve i x).pending = s.pending ∧ (s.parkResolve i x).restore.phase = s.restore.phase ∧
    (s.parkResolve i x).restore.lowestClosed = s.restore.lowestClosed ∧
    (s.parkResolve i x).restore.timer = s.restore.timer ∧
    (s.parkResolve i x).circuits.admissions = s.circuits.admissions := by
  unfold State.parkResolve
  (repeat' split) <;> simp

@[simp] theorem State.parkRestoring_leaves (s : State) (n : SlotNo) (i : EntryNo) :
    (s.parkRestoring n i).supply = s.supply ∧ (s.parkRestoring n i).watching = s.watching ∧
    (s.parkRestoring n i).slots = s.slots ∧ (∀ m : SlotNo, (s.parkRestoring n i).slot m = s.slot m) ∧
    (s.parkRestoring n i).notices = s.notices ∧ (s.parkRestoring n i).lanes = s.lanes ∧
    (∀ m : LaneNo, (s.parkRestoring n i).lane m = s.lane m) ∧ (s.parkRestoring n i).journal = s.journal ∧
    (s.parkRestoring n i).path = s.path ∧ (∀ m : SlotNo, (s.parkRestoring n i).sl0 m = s.sl0 m) ∧
    (s.parkRestoring n i).judging = s.judging ∧ (s.parkRestoring n i).memory = s.memory ∧
    (s.parkRestoring n i).ctrlReset = s.ctrlReset ∧ (s.parkRestoring n i).por = s.por ∧
    (s.parkRestoring n i).pending = s.pending ∧ (s.parkRestoring n i).restore.phase = s.restore.phase ∧
    (s.parkRestoring n i).restore.lowestClosed = s.restore.lowestClosed ∧
    (s.parkRestoring n i).restore.timer = s.restore.timer ∧
    (s.parkRestoring n i).circuits.admissions = s.circuits.admissions := by
  unfold State.parkRestoring
  dsimp only
  (repeat' split) <;> simp

@[simp] theorem State.parkEntry_leaves (s : State) (n : SlotNo) (i : EntryNo) :
    (State.parkEntry n s i).supply = s.supply ∧ (State.parkEntry n s i).watching = s.watching ∧
    (State.parkEntry n s i).slots = s.slots ∧ (∀ m : SlotNo, (State.parkEntry n s i).slot m = s.slot m) ∧
    (State.parkEntry n s i).notices = s.notices ∧ (State.parkEntry n s i).lanes = s.lanes ∧
    (∀ m : LaneNo, (State.parkEntry n s i).lane m = s.lane m) ∧ (State.parkEntry n s i).journal = s.journal ∧
    (State.parkEntry n s i).path = s.path ∧ (∀ m : SlotNo, (State.parkEntry n s i).sl0 m = s.sl0 m) ∧
    (State.parkEntry n s i).judging = s.judging ∧ (State.parkEntry n s i).memory = s.memory ∧
    (State.parkEntry n s i).ctrlReset = s.ctrlReset ∧ (State.parkEntry n s i).por = s.por ∧
    (State.parkEntry n s i).pending = s.pending ∧ (State.parkEntry n s i).restore.phase = s.restore.phase ∧
    (State.parkEntry n s i).restore.lowestClosed = s.restore.lowestClosed ∧
    (State.parkEntry n s i).restore.timer = s.restore.timer ∧
    (State.parkEntry n s i).circuits.admissions = s.circuits.admissions := by
  unfold State.parkEntry
  dsimp only
  (repeat' split) <;> simp

@[simp] theorem State.parkSlot_leaves (s : State) (n : SlotNo) :
    (s.parkSlot n).supply = s.supply ∧ (s.parkSlot n).watching = s.watching ∧ (s.parkSlot n).slots = s.slots ∧
    (∀ m : SlotNo, (s.parkSlot n).slot m = s.slot m) ∧ (s.parkSlot n).lanes = s.lanes ∧
    (∀ m : LaneNo, (s.parkSlot n).lane m = s.lane m) ∧ (s.parkSlot n).journal = s.journal ∧
    (s.parkSlot n).path = s.path ∧ (∀ m : SlotNo, (s.parkSlot n).sl0 m = s.sl0 m) ∧
    (s.parkSlot n).judging = s.judging ∧ (s.parkSlot n).memory = s.memory ∧
    (s.parkSlot n).ctrlReset = s.ctrlReset ∧ (s.parkSlot n).por = s.por ∧ (s.parkSlot n).pending = s.pending ∧
    (s.parkSlot n).restore.phase = s.restore.phase ∧
    (s.parkSlot n).restore.lowestClosed = s.restore.lowestClosed ∧
    (s.parkSlot n).restore.timer = s.restore.timer ∧ (s.parkSlot n).circuits.admissions = s.circuits.admissions ∧
    (s.parkSlot n).notices.slots = s.notices.slots ∧ (s.parkSlot n).notices.circuits = s.notices.circuits ∧
    (s.parkSlot n).notices.restore = s.notices.restore ∧ (s.parkSlot n).notices.departLink = s.notices.departLink := by
  have h0 := fun (l : List _) (s : State) => foldl_leaves (fun t : State => t.supply)
      (f := (State.parkEntry n)) (fun _ _ => by simp) l s
  have h1 := fun (l : List _) (s : State) => foldl_leaves (fun t : State => t.watching)
      (f := (State.parkEntry n)) (fun _ _ => by simp) l s
  have h2 := fun (l : List _) (s : State) => foldl_leaves (fun t : State => t.slots)
      (f := (State.parkEntry n)) (fun _ _ => by simp) l s
  have h3 := fun (l : List _) (s : State) (m : _) => foldl_leaves (fun t : State => t.slot m)
      (f := (State.parkEntry n)) (fun _ _ => by simp) l s
  have h4 := fun (l : List _) (s : State) => foldl_leaves (fun t : State => t.lanes)
      (f := (State.parkEntry n)) (fun _ _ => by simp) l s
  have h5 := fun (l : List _) (s : State) (m : _) => foldl_leaves (fun t : State => t.lane m)
      (f := (State.parkEntry n)) (fun _ _ => by simp) l s
  have h6 := fun (l : List _) (s : State) => foldl_leaves (fun t : State => t.journal)
      (f := (State.parkEntry n)) (fun _ _ => by simp) l s
  have h7 := fun (l : List _) (s : State) => foldl_leaves (fun t : State => t.path)
      (f := (State.parkEntry n)) (fun _ _ => by simp) l s
  have h8 := fun (l : List _) (s : State) (m : _) => foldl_leaves (fun t : State => t.sl0 m)
      (f := (State.parkEntry n)) (fun _ _ => by simp) l s
  have h9 := fun (l : List _) (s : State) => foldl_leaves (fun t : State => t.judging)
      (f := (State.parkEntry n)) (fun _ _ => by simp) l s
  have h10 := fun (l : List _) (s : State) => foldl_leaves (fun t : State => t.memory)
      (f := (State.parkEntry n)) (fun _ _ => by simp) l s
  have h11 := fun (l : List _) (s : State) => foldl_leaves (fun t : State => t.ctrlReset)
      (f := (State.parkEntry n)) (fun _ _ => by simp) l s
  have h12 := fun (l : List _) (s : State) => foldl_leaves (fun t : State => t.por)
      (f := (State.parkEntry n)) (fun _ _ => by simp) l s
  have h13 := fun (l : List _) (s : State) => foldl_leaves (fun t : State => t.pending)
      (f := (State.parkEntry n)) (fun _ _ => by simp) l s
  have h14 := fun (l : List _) (s : State) => foldl_leaves (fun t : State => t.restore.phase)
      (f := (State.parkEntry n)) (fun _ _ => by simp) l s
  have h15 := fun (l : List _) (s : State) => foldl_leaves (fun t : State => t.restore.lowestClosed)
      (f := (State.parkEntry n)) (fun _ _ => by simp) l s
  have h16 := fun (l : List _) (s : State) => foldl_leaves (fun t : State => t.restore.timer)
      (f := (State.parkEntry n)) (fun _ _ => by simp) l s
  have h17 := fun (l : List _) (s : State) => foldl_leaves (fun t : State => t.circuits.admissions)
      (f := (State.parkEntry n)) (fun _ _ => by simp) l s
  have h18 := fun (l : List _) (s : State) => foldl_leaves (fun t : State => t.notices)
      (f := (State.parkEntry n)) (fun _ _ => by simp) l s
  unfold State.parkSlot
  simp [h0, h1, h2, h3, h4, h5, h6, h7, h8, h9, h10, h11, h12, h13, h14, h15, h16, h17, h18]

@[simp] theorem State.reachEntry_leaves (s : State) (i : EntryNo) :
    (s.reachEntry i).supply = s.supply ∧ (s.reachEntry i).watching = s.watching ∧
    (s.reachEntry i).slots = s.slots ∧ (∀ m : SlotNo, (s.reachEntry i).slot m = s.slot m) ∧
    (s.reachEntry i).lanes = s.lanes ∧ (∀ m : LaneNo, (s.reachEntry i).lane m = s.lane m) ∧
    (s.reachEntry i).journal = s.journal ∧ (s.reachEntry i).path = s.path ∧
    (∀ m : SlotNo, (s.reachEntry i).sl0 m = s.sl0 m) ∧ (s.reachEntry i).judging = s.judging ∧
    (s.reachEntry i).memory = s.memory ∧ (s.reachEntry i).ctrlReset = s.ctrlReset ∧ (s.reachEntry i).por = s.por ∧
    (s.reachEntry i).pending = s.pending ∧ (s.reachEntry i).restore.phase = s.restore.phase ∧
    (s.reachEntry i).restore.lowestClosed = s.restore.lowestClosed ∧
    (s.reachEntry i).restore.timer = s.restore.timer ∧
    (s.reachEntry i).circuits.admissions = s.circuits.admissions ∧
    (s.reachEntry i).notices.slots = s.notices.slots ∧ (s.reachEntry i).notices.circuits = s.notices.circuits ∧
    (s.reachEntry i).notices.restore = s.notices.restore ∧
    (s.reachEntry i).notices.departLink = s.notices.departLink := by
  unfold State.reachEntry
  (repeat' split) <;> simp

@[simp] theorem State.reachAll_leaves (s : State) :
    (s.reachAll).supply = s.supply ∧ (s.reachAll).watching = s.watching ∧ (s.reachAll).slots = s.slots ∧
    (∀ m : SlotNo, (s.reachAll).slot m = s.slot m) ∧ (s.reachAll).lanes = s.lanes ∧
    (∀ m : LaneNo, (s.reachAll).lane m = s.lane m) ∧ (s.reachAll).journal = s.journal ∧
    (s.reachAll).path = s.path ∧ (∀ m : SlotNo, (s.reachAll).sl0 m = s.sl0 m) ∧ (s.reachAll).judging = s.judging ∧
    (s.reachAll).memory = s.memory ∧ (s.reachAll).ctrlReset = s.ctrlReset ∧ (s.reachAll).por = s.por ∧
    (s.reachAll).pending = s.pending ∧ (s.reachAll).restore.phase = s.restore.phase ∧
    (s.reachAll).restore.lowestClosed = s.restore.lowestClosed ∧ (s.reachAll).restore.timer = s.restore.timer ∧
    (s.reachAll).circuits.admissions = s.circuits.admissions ∧ (s.reachAll).notices.slots = s.notices.slots ∧
    (s.reachAll).notices.circuits = s.notices.circuits ∧ (s.reachAll).notices.restore = s.notices.restore ∧
    (s.reachAll).notices.departLink = s.notices.departLink := by
  have h0 := fun (l : List _) (s : State) => foldl_leaves (fun t : State => t.supply)
      (f := State.reachEntry) (fun _ _ => by simp) l s
  have h1 := fun (l : List _) (s : State) => foldl_leaves (fun t : State => t.watching)
      (f := State.reachEntry) (fun _ _ => by simp) l s
  have h2 := fun (l : List _) (s : State) => foldl_leaves (fun t : State => t.slots)
      (f := State.reachEntry) (fun _ _ => by simp) l s
  have h3 := fun (l : List _) (s : State) (m : _) => foldl_leaves (fun t : State => t.slot m)
      (f := State.reachEntry) (fun _ _ => by simp) l s
  have h4 := fun (l : List _) (s : State) => foldl_leaves (fun t : State => t.lanes)
      (f := State.reachEntry) (fun _ _ => by simp) l s
  have h5 := fun (l : List _) (s : State) (m : _) => foldl_leaves (fun t : State => t.lane m)
      (f := State.reachEntry) (fun _ _ => by simp) l s
  have h6 := fun (l : List _) (s : State) => foldl_leaves (fun t : State => t.journal)
      (f := State.reachEntry) (fun _ _ => by simp) l s
  have h7 := fun (l : List _) (s : State) => foldl_leaves (fun t : State => t.path)
      (f := State.reachEntry) (fun _ _ => by simp) l s
  have h8 := fun (l : List _) (s : State) (m : _) => foldl_leaves (fun t : State => t.sl0 m)
      (f := State.reachEntry) (fun _ _ => by simp) l s
  have h9 := fun (l : List _) (s : State) => foldl_leaves (fun t : State => t.judging)
      (f := State.reachEntry) (fun _ _ => by simp) l s
  have h10 := fun (l : List _) (s : State) => foldl_leaves (fun t : State => t.memory)
      (f := State.reachEntry) (fun _ _ => by simp) l s
  have h11 := fun (l : List _) (s : State) => foldl_leaves (fun t : State => t.ctrlReset)
      (f := State.reachEntry) (fun _ _ => by simp) l s
  have h12 := fun (l : List _) (s : State) => foldl_leaves (fun t : State => t.por)
      (f := State.reachEntry) (fun _ _ => by simp) l s
  have h13 := fun (l : List _) (s : State) => foldl_leaves (fun t : State => t.pending)
      (f := State.reachEntry) (fun _ _ => by simp) l s
  have h14 := fun (l : List _) (s : State) => foldl_leaves (fun t : State => t.restore.phase)
      (f := State.reachEntry) (fun _ _ => by simp) l s
  have h15 := fun (l : List _) (s : State) => foldl_leaves (fun t : State => t.restore.lowestClosed)
      (f := State.reachEntry) (fun _ _ => by simp) l s
  have h16 := fun (l : List _) (s : State) => foldl_leaves (fun t : State => t.restore.timer)
      (f := State.reachEntry) (fun _ _ => by simp) l s
  have h17 := fun (l : List _) (s : State) => foldl_leaves (fun t : State => t.circuits.admissions)
      (f := State.reachEntry) (fun _ _ => by simp) l s
  have h18 := fun (l : List _) (s : State) => foldl_leaves (fun t : State => t.notices.slots)
      (f := State.reachEntry) (fun _ _ => by simp) l s
  have h19 := fun (l : List _) (s : State) => foldl_leaves (fun t : State => t.notices.circuits)
      (f := State.reachEntry) (fun _ _ => by simp) l s
  have h20 := fun (l : List _) (s : State) => foldl_leaves (fun t : State => t.notices.restore)
      (f := State.reachEntry) (fun _ _ => by simp) l s
  have h21 := fun (l : List _) (s : State) => foldl_leaves (fun t : State => t.notices.departLink)
      (f := State.reachEntry) (fun _ _ => by simp) l s
  unfold State.reachAll
  simp [h0, h1, h2, h3, h4, h5, h6, h7, h8, h9, h10, h11, h12, h13, h14, h15, h16, h17, h18, h19, h20, h21]

@[simp] theorem State.setOutcome_leaves (s : State) (i : EntryNo) (o : ReqOutcome) :
    (s.setOutcome i o).supply = s.supply ∧ (s.setOutcome i o).watching = s.watching ∧
    (s.setOutcome i o).slots = s.slots ∧ (∀ m : SlotNo, (s.setOutcome i o).slot m = s.slot m) ∧
    (s.setOutcome i o).notices = s.notices ∧ (s.setOutcome i o).lanes = s.lanes ∧
    (∀ m : LaneNo, (s.setOutcome i o).lane m = s.lane m) ∧ (s.setOutcome i o).links = s.links ∧
    (∀ m : SlotNo, (s.setOutcome i o).link m = s.link m) ∧ (s.setOutcome i o).journal = s.journal ∧
    (s.setOutcome i o).path = s.path ∧ (∀ m : SlotNo, (s.setOutcome i o).sl0 m = s.sl0 m) ∧
    (s.setOutcome i o).judging = s.judging ∧ (s.setOutcome i o).memory = s.memory ∧
    (s.setOutcome i o).ctrlReset = s.ctrlReset ∧ (s.setOutcome i o).por = s.por ∧
    (s.setOutcome i o).pending = s.pending ∧ (s.setOutcome i o).restore.phase = s.restore.phase ∧
    (s.setOutcome i o).restore.lowestClosed = s.restore.lowestClosed ∧
    (s.setOutcome i o).restore.timer = s.restore.timer ∧
    (s.setOutcome i o).circuits.admissions = s.circuits.admissions := by
  unfold State.setOutcome
  simp

@[simp] theorem State.acceptConnect_leaves (s : State) (i : EntryNo) (f : RequestFields) :
    (s.acceptConnect i f).supply = s.supply ∧ (s.acceptConnect i f).watching = s.watching ∧
    (s.acceptConnect i f).slots = s.slots ∧ (∀ m : SlotNo, (s.acceptConnect i f).slot m = s.slot m) ∧
    (s.acceptConnect i f).notices = s.notices ∧ (s.acceptConnect i f).lanes = s.lanes ∧
    (∀ m : LaneNo, (s.acceptConnect i f).lane m = s.lane m) ∧ (s.acceptConnect i f).links = s.links ∧
    (∀ m : SlotNo, (s.acceptConnect i f).link m = s.link m) ∧ (s.acceptConnect i f).journal = s.journal ∧
    (s.acceptConnect i f).path = s.path ∧ (∀ m : SlotNo, (s.acceptConnect i f).sl0 m = s.sl0 m) ∧
    (s.acceptConnect i f).judging = s.judging ∧ (s.acceptConnect i f).memory = s.memory ∧
    (s.acceptConnect i f).ctrlReset = s.ctrlReset ∧ (s.acceptConnect i f).por = s.por ∧
    (s.acceptConnect i f).pending = s.pending ∧ (s.acceptConnect i f).restore.phase = s.restore.phase ∧
    (s.acceptConnect i f).restore.lowestClosed = s.restore.lowestClosed ∧
    (s.acceptConnect i f).restore.timer = s.restore.timer := by
  unfold State.acceptConnect
  simp

@[simp] theorem State.connectIdle_leaves (s : State) (i : EntryNo) (f : RequestFields) :
    (s.connectIdle i f).supply = s.supply ∧ (s.connectIdle i f).watching = s.watching ∧
    (s.connectIdle i f).slots = s.slots ∧ (∀ m : SlotNo, (s.connectIdle i f).slot m = s.slot m) ∧
    (s.connectIdle i f).notices = s.notices ∧ (s.connectIdle i f).lanes = s.lanes ∧
    (∀ m : LaneNo, (s.connectIdle i f).lane m = s.lane m) ∧ (s.connectIdle i f).links = s.links ∧
    (∀ m : SlotNo, (s.connectIdle i f).link m = s.link m) ∧ (s.connectIdle i f).journal = s.journal ∧
    (s.connectIdle i f).path = s.path ∧ (∀ m : SlotNo, (s.connectIdle i f).sl0 m = s.sl0 m) ∧
    (s.connectIdle i f).judging = s.judging ∧ (s.connectIdle i f).memory = s.memory ∧
    (s.connectIdle i f).ctrlReset = s.ctrlReset ∧ (s.connectIdle i f).por = s.por ∧
    (s.connectIdle i f).pending = s.pending ∧ (s.connectIdle i f).restore.phase = s.restore.phase ∧
    (s.connectIdle i f).restore.lowestClosed = s.restore.lowestClosed ∧
    (s.connectIdle i f).restore.timer = s.restore.timer := by
  unfold State.connectIdle
  (repeat' split) <;> simp

@[simp] theorem State.applyRelease_leaves (s : State) (i : EntryNo) :
    (s.applyRelease i).supply = s.supply ∧ (s.applyRelease i).watching = s.watching ∧
    (s.applyRelease i).slots = s.slots ∧ (∀ m : SlotNo, (s.applyRelease i).slot m = s.slot m) ∧
    (s.applyRelease i).notices = s.notices ∧ (s.applyRelease i).lanes = s.lanes ∧
    (∀ m : LaneNo, (s.applyRelease i).lane m = s.lane m) ∧ (s.applyRelease i).journal = s.journal ∧
    (s.applyRelease i).path = s.path ∧ (∀ m : SlotNo, (s.applyRelease i).sl0 m = s.sl0 m) ∧
    (s.applyRelease i).judging = s.judging ∧ (s.applyRelease i).memory = s.memory ∧
    (s.applyRelease i).ctrlReset = s.ctrlReset ∧ (s.applyRelease i).por = s.por ∧
    (s.applyRelease i).pending = s.pending ∧ (s.applyRelease i).restore.phase = s.restore.phase ∧
    (s.applyRelease i).restore.lowestClosed = s.restore.lowestClosed ∧
    (s.applyRelease i).restore.timer = s.restore.timer ∧
    (s.applyRelease i).circuits.admissions = s.circuits.admissions := by
  unfold State.applyRelease
  dsimp only
  (repeat' split) <;> simp

@[simp] theorem State.captureCode_leaves (s : State) (i : EntryNo) (c : RequestCode) :
    (s.captureCode i c).supply = s.supply ∧ (s.captureCode i c).watching = s.watching ∧
    (s.captureCode i c).slots = s.slots ∧ (∀ m : SlotNo, (s.captureCode i c).slot m = s.slot m) ∧
    (s.captureCode i c).notices = s.notices ∧ (s.captureCode i c).lanes = s.lanes ∧
    (∀ m : LaneNo, (s.captureCode i c).lane m = s.lane m) ∧ (s.captureCode i c).links = s.links ∧
    (∀ m : SlotNo, (s.captureCode i c).link m = s.link m) ∧ (s.captureCode i c).journal = s.journal ∧
    (s.captureCode i c).path = s.path ∧ (∀ m : SlotNo, (s.captureCode i c).sl0 m = s.sl0 m) ∧
    (s.captureCode i c).judging = s.judging ∧ (s.captureCode i c).memory = s.memory ∧
    (s.captureCode i c).ctrlReset = s.ctrlReset ∧ (s.captureCode i c).por = s.por ∧
    (s.captureCode i c).pending = s.pending ∧ (s.captureCode i c).restore.phase = s.restore.phase ∧
    (s.captureCode i c).restore.lowestClosed = s.restore.lowestClosed ∧
    (s.captureCode i c).restore.timer = s.restore.timer ∧
    (s.captureCode i c).circuits.admissions = s.circuits.admissions := by
  unfold State.captureCode
  simp

@[simp] theorem State.writeIdle_leaves (s : State) (i : EntryNo) (c : RequestCode) (f : RequestFields) :
    (s.writeIdle i c f).supply = s.supply ∧ (s.writeIdle i c f).watching = s.watching ∧
    (s.writeIdle i c f).slots = s.slots ∧ (∀ m : SlotNo, (s.writeIdle i c f).slot m = s.slot m) ∧
    (s.writeIdle i c f).notices = s.notices ∧ (s.writeIdle i c f).lanes = s.lanes ∧
    (∀ m : LaneNo, (s.writeIdle i c f).lane m = s.lane m) ∧ (s.writeIdle i c f).links = s.links ∧
    (∀ m : SlotNo, (s.writeIdle i c f).link m = s.link m) ∧ (s.writeIdle i c f).journal = s.journal ∧
    (s.writeIdle i c f).path = s.path ∧ (∀ m : SlotNo, (s.writeIdle i c f).sl0 m = s.sl0 m) ∧
    (s.writeIdle i c f).judging = s.judging ∧ (s.writeIdle i c f).memory = s.memory ∧
    (s.writeIdle i c f).ctrlReset = s.ctrlReset ∧ (s.writeIdle i c f).por = s.por ∧
    (s.writeIdle i c f).pending = s.pending ∧ (s.writeIdle i c f).restore.phase = s.restore.phase ∧
    (s.writeIdle i c f).restore.lowestClosed = s.restore.lowestClosed ∧
    (s.writeIdle i c f).restore.timer = s.restore.timer := by
  unfold State.writeIdle
  (repeat' split) <;> simp

@[simp] theorem State.writeBusy_leaves (s : State) (i : EntryNo) (c : RequestCode) (f : RequestFields) :
    (s.writeBusy i c f).supply = s.supply ∧ (s.writeBusy i c f).watching = s.watching ∧
    (s.writeBusy i c f).slots = s.slots ∧ (∀ m : SlotNo, (s.writeBusy i c f).slot m = s.slot m) ∧
    (s.writeBusy i c f).notices = s.notices ∧ (s.writeBusy i c f).lanes = s.lanes ∧
    (∀ m : LaneNo, (s.writeBusy i c f).lane m = s.lane m) ∧ (s.writeBusy i c f).journal = s.journal ∧
    (s.writeBusy i c f).path = s.path ∧ (∀ m : SlotNo, (s.writeBusy i c f).sl0 m = s.sl0 m) ∧
    (s.writeBusy i c f).judging = s.judging ∧ (s.writeBusy i c f).memory = s.memory ∧
    (s.writeBusy i c f).ctrlReset = s.ctrlReset ∧ (s.writeBusy i c f).por = s.por ∧
    (s.writeBusy i c f).pending = s.pending ∧ (s.writeBusy i c f).restore.phase = s.restore.phase ∧
    (s.writeBusy i c f).restore.lowestClosed = s.restore.lowestClosed ∧
    (s.writeBusy i c f).restore.timer = s.restore.timer ∧
    (s.writeBusy i c f).circuits.admissions = s.circuits.admissions := by
  unfold State.writeBusy
  (repeat' split) <;> simp

@[simp] theorem State.writeRequest_leaves (s : State) (i : EntryNo) (c : RequestCode) (f : RequestFields)
    (b : ByteEnables) :
    (s.writeRequest i c f b).supply = s.supply ∧ (s.writeRequest i c f b).watching = s.watching ∧
    (s.writeRequest i c f b).slots = s.slots ∧ (∀ m : SlotNo, (s.writeRequest i c f b).slot m = s.slot m) ∧
    (s.writeRequest i c f b).notices = s.notices ∧ (s.writeRequest i c f b).lanes = s.lanes ∧
    (∀ m : LaneNo, (s.writeRequest i c f b).lane m = s.lane m) ∧ (s.writeRequest i c f b).journal = s.journal ∧
    (s.writeRequest i c f b).path = s.path ∧ (∀ m : SlotNo, (s.writeRequest i c f b).sl0 m = s.sl0 m) ∧
    (s.writeRequest i c f b).judging = s.judging ∧ (s.writeRequest i c f b).memory = s.memory ∧
    (s.writeRequest i c f b).ctrlReset = s.ctrlReset ∧ (s.writeRequest i c f b).por = s.por ∧
    (s.writeRequest i c f b).pending = s.pending ∧ (s.writeRequest i c f b).restore.phase = s.restore.phase ∧
    (s.writeRequest i c f b).restore.lowestClosed = s.restore.lowestClosed ∧
    (s.writeRequest i c f b).restore.timer = s.restore.timer := by
  unfold State.writeRequest
  (repeat' split) <;> simp

@[simp] theorem State.writeBad_leaves (s : State) (i : EntryNo) (b : ByteEnables) :
    (s.writeBad i b).supply = s.supply ∧ (s.writeBad i b).watching = s.watching ∧
    (s.writeBad i b).slots = s.slots ∧ (∀ m : SlotNo, (s.writeBad i b).slot m = s.slot m) ∧
    (s.writeBad i b).notices = s.notices ∧ (s.writeBad i b).lanes = s.lanes ∧
    (∀ m : LaneNo, (s.writeBad i b).lane m = s.lane m) ∧ (s.writeBad i b).links = s.links ∧
    (∀ m : SlotNo, (s.writeBad i b).link m = s.link m) ∧ (s.writeBad i b).journal = s.journal ∧
    (s.writeBad i b).path = s.path ∧ (∀ m : SlotNo, (s.writeBad i b).sl0 m = s.sl0 m) ∧
    (s.writeBad i b).judging = s.judging ∧ (s.writeBad i b).memory = s.memory ∧
    (s.writeBad i b).ctrlReset = s.ctrlReset ∧ (s.writeBad i b).por = s.por ∧
    (s.writeBad i b).pending = s.pending ∧ (s.writeBad i b).restore.phase = s.restore.phase ∧
    (s.writeBad i b).restore.lowestClosed = s.restore.lowestClosed ∧
    (s.writeBad i b).restore.timer = s.restore.timer ∧
    (s.writeBad i b).circuits.admissions = s.circuits.admissions := by
  unfold State.writeBad
  (repeat' split) <;> simp

@[simp] theorem State.releaseOne_leaves (s : State) (i : EntryNo) :
    (s.releaseOne i).supply = s.supply ∧ (s.releaseOne i).watching = s.watching ∧
    (s.releaseOne i).slots = s.slots ∧ (∀ m : SlotNo, (s.releaseOne i).slot m = s.slot m) ∧
    (s.releaseOne i).notices = s.notices ∧ (s.releaseOne i).lanes = s.lanes ∧
    (∀ m : LaneNo, (s.releaseOne i).lane m = s.lane m) ∧ (s.releaseOne i).journal = s.journal ∧
    (s.releaseOne i).path = s.path ∧ (∀ m : SlotNo, (s.releaseOne i).sl0 m = s.sl0 m) ∧
    (s.releaseOne i).judging = s.judging ∧ (s.releaseOne i).memory = s.memory ∧
    (s.releaseOne i).ctrlReset = s.ctrlReset ∧ (s.releaseOne i).por = s.por ∧
    (s.releaseOne i).pending = s.pending ∧ (s.releaseOne i).restore.phase = s.restore.phase ∧
    (s.releaseOne i).restore.lowestClosed = s.restore.lowestClosed ∧
    (s.releaseOne i).restore.timer = s.restore.timer ∧
    (s.releaseOne i).circuits.admissions = s.circuits.admissions := by
  unfold State.releaseOne
  simp

@[simp] theorem State.releaseWalk_leaves (s : State) :
    (s.releaseWalk).supply = s.supply ∧ (s.releaseWalk).watching = s.watching ∧ (s.releaseWalk).slots = s.slots ∧
    (∀ m : SlotNo, (s.releaseWalk).slot m = s.slot m) ∧ (s.releaseWalk).notices = s.notices ∧
    (s.releaseWalk).lanes = s.lanes ∧ (∀ m : LaneNo, (s.releaseWalk).lane m = s.lane m) ∧
    (s.releaseWalk).journal = s.journal ∧ (s.releaseWalk).path = s.path ∧
    (∀ m : SlotNo, (s.releaseWalk).sl0 m = s.sl0 m) ∧ (s.releaseWalk).judging = s.judging ∧
    (s.releaseWalk).memory = s.memory ∧ (s.releaseWalk).ctrlReset = s.ctrlReset ∧ (s.releaseWalk).por = s.por ∧
    (s.releaseWalk).pending = s.pending ∧ (s.releaseWalk).restore.phase = s.restore.phase ∧
    (s.releaseWalk).restore.lowestClosed = s.restore.lowestClosed ∧
    (s.releaseWalk).restore.timer = s.restore.timer ∧ (s.releaseWalk).circuits.admissions = s.circuits.admissions := by
  have h0 := fun (l : List _) (s : State) => foldl_leaves (fun t : State => t.supply)
      (f := State.releaseOne) (fun _ _ => by simp) l s
  have h1 := fun (l : List _) (s : State) => foldl_leaves (fun t : State => t.watching)
      (f := State.releaseOne) (fun _ _ => by simp) l s
  have h2 := fun (l : List _) (s : State) => foldl_leaves (fun t : State => t.slots)
      (f := State.releaseOne) (fun _ _ => by simp) l s
  have h3 := fun (l : List _) (s : State) (m : _) => foldl_leaves (fun t : State => t.slot m)
      (f := State.releaseOne) (fun _ _ => by simp) l s
  have h4 := fun (l : List _) (s : State) => foldl_leaves (fun t : State => t.notices)
      (f := State.releaseOne) (fun _ _ => by simp) l s
  have h5 := fun (l : List _) (s : State) => foldl_leaves (fun t : State => t.lanes)
      (f := State.releaseOne) (fun _ _ => by simp) l s
  have h6 := fun (l : List _) (s : State) (m : _) => foldl_leaves (fun t : State => t.lane m)
      (f := State.releaseOne) (fun _ _ => by simp) l s
  have h7 := fun (l : List _) (s : State) => foldl_leaves (fun t : State => t.journal)
      (f := State.releaseOne) (fun _ _ => by simp) l s
  have h8 := fun (l : List _) (s : State) => foldl_leaves (fun t : State => t.path)
      (f := State.releaseOne) (fun _ _ => by simp) l s
  have h9 := fun (l : List _) (s : State) (m : _) => foldl_leaves (fun t : State => t.sl0 m)
      (f := State.releaseOne) (fun _ _ => by simp) l s
  have h10 := fun (l : List _) (s : State) => foldl_leaves (fun t : State => t.judging)
      (f := State.releaseOne) (fun _ _ => by simp) l s
  have h11 := fun (l : List _) (s : State) => foldl_leaves (fun t : State => t.memory)
      (f := State.releaseOne) (fun _ _ => by simp) l s
  have h12 := fun (l : List _) (s : State) => foldl_leaves (fun t : State => t.ctrlReset)
      (f := State.releaseOne) (fun _ _ => by simp) l s
  have h13 := fun (l : List _) (s : State) => foldl_leaves (fun t : State => t.por)
      (f := State.releaseOne) (fun _ _ => by simp) l s
  have h14 := fun (l : List _) (s : State) => foldl_leaves (fun t : State => t.pending)
      (f := State.releaseOne) (fun _ _ => by simp) l s
  have h15 := fun (l : List _) (s : State) => foldl_leaves (fun t : State => t.restore.phase)
      (f := State.releaseOne) (fun _ _ => by simp) l s
  have h16 := fun (l : List _) (s : State) => foldl_leaves (fun t : State => t.restore.lowestClosed)
      (f := State.releaseOne) (fun _ _ => by simp) l s
  have h17 := fun (l : List _) (s : State) => foldl_leaves (fun t : State => t.restore.timer)
      (f := State.releaseOne) (fun _ _ => by simp) l s
  have h18 := fun (l : List _) (s : State) => foldl_leaves (fun t : State => t.circuits.admissions)
      (f := State.releaseOne) (fun _ _ => by simp) l s
  unfold State.releaseWalk
  simp [h0, h1, h2, h3, h4, h5, h6, h7, h8, h9, h10, h11, h12, h13, h14, h15, h16, h17, h18]

@[simp] theorem State.takeReleaseAll_leaves (s : State) :
    (s.takeReleaseAll).supply = s.supply ∧ (s.takeReleaseAll).watching = s.watching ∧
    (s.takeReleaseAll).slots = s.slots ∧ (∀ m : SlotNo, (s.takeReleaseAll).slot m = s.slot m) ∧
    (s.takeReleaseAll).lanes = s.lanes ∧ (∀ m : LaneNo, (s.takeReleaseAll).lane m = s.lane m) ∧
    (s.takeReleaseAll).journal = s.journal ∧ (s.takeReleaseAll).path = s.path ∧
    (∀ m : SlotNo, (s.takeReleaseAll).sl0 m = s.sl0 m) ∧ (s.takeReleaseAll).judging = s.judging ∧
    (s.takeReleaseAll).memory = s.memory ∧ (s.takeReleaseAll).ctrlReset = s.ctrlReset ∧
    (s.takeReleaseAll).por = s.por ∧ (s.takeReleaseAll).pending = s.pending ∧
    (s.takeReleaseAll).restore.phase = s.restore.phase ∧
    (s.takeReleaseAll).restore.lowestClosed = s.restore.lowestClosed ∧
    (s.takeReleaseAll).restore.timer = s.restore.timer ∧
    (s.takeReleaseAll).circuits.admissions = s.circuits.admissions ∧
    (s.takeReleaseAll).notices.slots = s.notices.slots ∧
    (s.takeReleaseAll).notices.circuits = s.notices.circuits ∧
    (s.takeReleaseAll).notices.restore = s.notices.restore ∧
    (s.takeReleaseAll).notices.departLink = s.notices.departLink := by
  unfold State.takeReleaseAll
  simp

@[simp] theorem State.joined_leaves (s : State) (i : EntryNo) (e : Entry) :
    (s.joined i e).supply = s.supply ∧ (s.joined i e).watching = s.watching ∧ (s.joined i e).slots = s.slots ∧
    (∀ m : SlotNo, (s.joined i e).slot m = s.slot m) ∧ (s.joined i e).notices = s.notices ∧
    (s.joined i e).lanes = s.lanes ∧ (∀ m : LaneNo, (s.joined i e).lane m = s.lane m) ∧
    (s.joined i e).journal = s.journal ∧ (s.joined i e).path = s.path ∧
    (∀ m : SlotNo, (s.joined i e).sl0 m = s.sl0 m) ∧ (s.joined i e).judging = s.judging ∧
    (s.joined i e).memory = s.memory ∧ (s.joined i e).ctrlReset = s.ctrlReset ∧ (s.joined i e).por = s.por ∧
    (s.joined i e).pending = s.pending ∧ (s.joined i e).restore.phase = s.restore.phase ∧
    (s.joined i e).restore.lowestClosed = s.restore.lowestClosed ∧
    (s.joined i e).restore.timer = s.restore.timer ∧ (s.joined i e).circuits.admissions = s.circuits.admissions := by
  unfold State.joined
  (repeat' split) <;> simp

@[simp] theorem State.connectCompleted_leaves (s : State) (i : EntryNo) (d : Ends) :
    (s.connectCompleted i d).supply = s.supply ∧ (s.connectCompleted i d).watching = s.watching ∧
    (s.connectCompleted i d).slots = s.slots ∧ (∀ m : SlotNo, (s.connectCompleted i d).slot m = s.slot m) ∧
    (s.connectCompleted i d).notices = s.notices ∧ (s.connectCompleted i d).lanes = s.lanes ∧
    (∀ m : LaneNo, (s.connectCompleted i d).lane m = s.lane m) ∧ (s.connectCompleted i d).journal = s.journal ∧
    (s.connectCompleted i d).path = s.path ∧ (∀ m : SlotNo, (s.connectCompleted i d).sl0 m = s.sl0 m) ∧
    (s.connectCompleted i d).judging = s.judging ∧ (s.connectCompleted i d).memory = s.memory ∧
    (s.connectCompleted i d).ctrlReset = s.ctrlReset ∧ (s.connectCompleted i d).por = s.por ∧
    (s.connectCompleted i d).pending = s.pending ∧ (s.connectCompleted i d).restore.phase = s.restore.phase ∧
    (s.connectCompleted i d).restore.lowestClosed = s.restore.lowestClosed ∧
    (s.connectCompleted i d).restore.timer = s.restore.timer ∧
    (s.connectCompleted i d).circuits.admissions = s.circuits.admissions := by
  unfold State.connectCompleted
  dsimp only
  (repeat' split) <;> simp

@[simp] theorem State.connectDone_leaves (s : State) (i : EntryNo) (d : Ends) :
    (s.connectDone i d).supply = s.supply ∧ (s.connectDone i d).watching = s.watching ∧
    (s.connectDone i d).slots = s.slots ∧ (∀ m : SlotNo, (s.connectDone i d).slot m = s.slot m) ∧
    (s.connectDone i d).notices = s.notices ∧ (s.connectDone i d).lanes = s.lanes ∧
    (∀ m : LaneNo, (s.connectDone i d).lane m = s.lane m) ∧ (s.connectDone i d).journal = s.journal ∧
    (s.connectDone i d).path = s.path ∧ (∀ m : SlotNo, (s.connectDone i d).sl0 m = s.sl0 m) ∧
    (s.connectDone i d).judging = s.judging ∧ (s.connectDone i d).memory = s.memory ∧
    (s.connectDone i d).ctrlReset = s.ctrlReset ∧ (s.connectDone i d).por = s.por ∧
    (s.connectDone i d).pending = s.pending ∧ (s.connectDone i d).restore.phase = s.restore.phase ∧
    (s.connectDone i d).restore.lowestClosed = s.restore.lowestClosed ∧
    (s.connectDone i d).restore.timer = s.restore.timer ∧
    (s.connectDone i d).circuits.admissions = s.circuits.admissions := by
  unfold State.connectDone
  (repeat' split) <;> simp

@[simp] theorem State.takeConnectDone_leaves (s : State) (n : SlotNo) (o : Order) :
    (s.takeConnectDone n o).supply = s.supply ∧ (s.takeConnectDone n o).watching = s.watching ∧
    (s.takeConnectDone n o).slots = s.slots ∧ (∀ m : SlotNo, (s.takeConnectDone n o).slot m = s.slot m) ∧
    (s.takeConnectDone n o).notices = s.notices ∧ (s.takeConnectDone n o).lanes = s.lanes ∧
    (∀ m : LaneNo, (s.takeConnectDone n o).lane m = s.lane m) ∧ (s.takeConnectDone n o).journal = s.journal ∧
    (s.takeConnectDone n o).path = s.path ∧ (∀ m : SlotNo, (s.takeConnectDone n o).sl0 m = s.sl0 m) ∧
    (s.takeConnectDone n o).judging = s.judging ∧ (s.takeConnectDone n o).memory = s.memory ∧
    (s.takeConnectDone n o).ctrlReset = s.ctrlReset ∧ (s.takeConnectDone n o).por = s.por ∧
    (s.takeConnectDone n o).pending = s.pending ∧ (s.takeConnectDone n o).restore.phase = s.restore.phase ∧
    (s.takeConnectDone n o).restore.lowestClosed = s.restore.lowestClosed ∧
    (s.takeConnectDone n o).restore.timer = s.restore.timer ∧
    (s.takeConnectDone n o).circuits.admissions = s.circuits.admissions := by
  unfold State.takeConnectDone
  (repeat' split) <;> simp

@[simp] theorem State.dealOther_leaves (s : State) (i : EntryNo) (x : Side) :
    (s.dealOther i x).supply = s.supply ∧ (s.dealOther i x).watching = s.watching ∧
    (s.dealOther i x).slots = s.slots ∧ (∀ m : SlotNo, (s.dealOther i x).slot m = s.slot m) ∧
    (s.dealOther i x).notices = s.notices ∧ (s.dealOther i x).lanes = s.lanes ∧
    (∀ m : LaneNo, (s.dealOther i x).lane m = s.lane m) ∧ (s.dealOther i x).journal = s.journal ∧
    (s.dealOther i x).path = s.path ∧ (∀ m : SlotNo, (s.dealOther i x).sl0 m = s.sl0 m) ∧
    (s.dealOther i x).judging = s.judging ∧ (s.dealOther i x).memory = s.memory ∧
    (s.dealOther i x).ctrlReset = s.ctrlReset ∧ (s.dealOther i x).por = s.por ∧
    (s.dealOther i x).pending = s.pending ∧ (s.dealOther i x).restore.phase = s.restore.phase ∧
    (s.dealOther i x).restore.lowestClosed = s.restore.lowestClosed ∧
    (s.dealOther i x).restore.timer = s.restore.timer ∧
    (s.dealOther i x).circuits.admissions = s.circuits.admissions := by
  unfold State.dealOther
  (repeat' split) <;> simp

@[simp] theorem State.resolveFaulted_leaves (s : State) (i : EntryNo) (b : Bool) :
    (s.resolveFaulted i b).supply = s.supply ∧ (s.resolveFaulted i b).watching = s.watching ∧
    (s.resolveFaulted i b).slots = s.slots ∧ (∀ m : SlotNo, (s.resolveFaulted i b).slot m = s.slot m) ∧
    (s.resolveFaulted i b).notices = s.notices ∧ (s.resolveFaulted i b).lanes = s.lanes ∧
    (∀ m : LaneNo, (s.resolveFaulted i b).lane m = s.lane m) ∧ (s.resolveFaulted i b).journal = s.journal ∧
    (s.resolveFaulted i b).path = s.path ∧ (∀ m : SlotNo, (s.resolveFaulted i b).sl0 m = s.sl0 m) ∧
    (s.resolveFaulted i b).judging = s.judging ∧ (s.resolveFaulted i b).memory = s.memory ∧
    (s.resolveFaulted i b).ctrlReset = s.ctrlReset ∧ (s.resolveFaulted i b).por = s.por ∧
    (s.resolveFaulted i b).pending = s.pending ∧ (s.resolveFaulted i b).restore.phase = s.restore.phase ∧
    (s.resolveFaulted i b).restore.lowestClosed = s.restore.lowestClosed ∧
    (s.resolveFaulted i b).restore.timer = s.restore.timer ∧
    (s.resolveFaulted i b).circuits.admissions = s.circuits.admissions := by
  unfold State.resolveFaulted
  (repeat' split) <;> simp

@[simp] theorem State.entryRefused_leaves (s : State) (n : SlotNo) (i : EntryNo) (d : Ends) (r : RefusalReason) :
    (s.entryRefused n i d r).supply = s.supply ∧ (s.entryRefused n i d r).watching = s.watching ∧
    (s.entryRefused n i d r).slots = s.slots ∧ (∀ m : SlotNo, (s.entryRefused n i d r).slot m = s.slot m) ∧
    (s.entryRefused n i d r).notices = s.notices ∧ (s.entryRefused n i d r).lanes = s.lanes ∧
    (∀ m : LaneNo, (s.entryRefused n i d r).lane m = s.lane m) ∧ (s.entryRefused n i d r).path = s.path ∧
    (∀ m : SlotNo, (s.entryRefused n i d r).sl0 m = s.sl0 m) ∧ (s.entryRefused n i d r).judging = s.judging ∧
    (s.entryRefused n i d r).memory = s.memory ∧ (s.entryRefused n i d r).ctrlReset = s.ctrlReset ∧
    (s.entryRefused n i d r).por = s.por ∧ (s.entryRefused n i d r).pending = s.pending ∧
    (s.entryRefused n i d r).restore.phase = s.restore.phase ∧
    (s.entryRefused n i d r).restore.lowestClosed = s.restore.lowestClosed ∧
    (s.entryRefused n i d r).restore.timer = s.restore.timer ∧
    (s.entryRefused n i d r).circuits.admissions = s.circuits.admissions := by
  unfold State.entryRefused
  cases d <;> simp [Ends.others]

@[simp] theorem State.connectRefused_leaves (s : State) (n : SlotNo) (i : EntryNo) (d : Ends) (r : RefusalReason) :
    (s.connectRefused n i d r).supply = s.supply ∧ (s.connectRefused n i d r).watching = s.watching ∧
    (s.connectRefused n i d r).slots = s.slots ∧ (∀ m : SlotNo, (s.connectRefused n i d r).slot m = s.slot m) ∧
    (s.connectRefused n i d r).notices = s.notices ∧ (s.connectRefused n i d r).lanes = s.lanes ∧
    (∀ m : LaneNo, (s.connectRefused n i d r).lane m = s.lane m) ∧ (s.connectRefused n i d r).path = s.path ∧
    (∀ m : SlotNo, (s.connectRefused n i d r).sl0 m = s.sl0 m) ∧ (s.connectRefused n i d r).judging = s.judging ∧
    (s.connectRefused n i d r).memory = s.memory ∧ (s.connectRefused n i d r).ctrlReset = s.ctrlReset ∧
    (s.connectRefused n i d r).por = s.por ∧ (s.connectRefused n i d r).pending = s.pending ∧
    (s.connectRefused n i d r).restore.phase = s.restore.phase ∧
    (s.connectRefused n i d r).restore.lowestClosed = s.restore.lowestClosed ∧
    (s.connectRefused n i d r).restore.timer = s.restore.timer ∧
    (s.connectRefused n i d r).circuits.admissions = s.circuits.admissions := by
  unfold State.connectRefused
  (repeat' split) <;> simp

@[simp] theorem State.takeConnectRefusal_leaves (s : State) (n : SlotNo) (o : Order) (r : RefusalReason) :
    (s.takeConnectRefusal n o r).supply = s.supply ∧ (s.takeConnectRefusal n o r).watching = s.watching ∧
    (s.takeConnectRefusal n o r).slots = s.slots ∧
    (∀ m : SlotNo, (s.takeConnectRefusal n o r).slot m = s.slot m) ∧
    (s.takeConnectRefusal n o r).notices = s.notices ∧ (s.takeConnectRefusal n o r).lanes = s.lanes ∧
    (∀ m : LaneNo, (s.takeConnectRefusal n o r).lane m = s.lane m) ∧ (s.takeConnectRefusal n o r).path = s.path ∧
    (∀ m : SlotNo, (s.takeConnectRefusal n o r).sl0 m = s.sl0 m) ∧
    (s.takeConnectRefusal n o r).judging = s.judging ∧ (s.takeConnectRefusal n o r).memory = s.memory ∧
    (s.takeConnectRefusal n o r).ctrlReset = s.ctrlReset ∧ (s.takeConnectRefusal n o r).por = s.por ∧
    (s.takeConnectRefusal n o r).pending = s.pending ∧
    (s.takeConnectRefusal n o r).restore.phase = s.restore.phase ∧
    (s.takeConnectRefusal n o r).restore.lowestClosed = s.restore.lowestClosed ∧
    (s.takeConnectRefusal n o r).restore.timer = s.restore.timer ∧
    (s.takeConnectRefusal n o r).circuits.admissions = s.circuits.admissions := by
  unfold State.takeConnectRefusal
  (repeat' split) <;> simp

@[simp] theorem State.takeReleaseEnd_leaves (s : State) (n : SlotNo) (o : Order) :
    (s.takeReleaseEnd n o).supply = s.supply ∧ (s.takeReleaseEnd n o).watching = s.watching ∧
    (s.takeReleaseEnd n o).slots = s.slots ∧ (∀ m : SlotNo, (s.takeReleaseEnd n o).slot m = s.slot m) ∧
    (s.takeReleaseEnd n o).notices = s.notices ∧ (s.takeReleaseEnd n o).lanes = s.lanes ∧
    (∀ m : LaneNo, (s.takeReleaseEnd n o).lane m = s.lane m) ∧ (s.takeReleaseEnd n o).links = s.links ∧
    (∀ m : SlotNo, (s.takeReleaseEnd n o).link m = s.link m) ∧ (s.takeReleaseEnd n o).journal = s.journal ∧
    (s.takeReleaseEnd n o).path = s.path ∧ (∀ m : SlotNo, (s.takeReleaseEnd n o).sl0 m = s.sl0 m) ∧
    (s.takeReleaseEnd n o).judging = s.judging ∧ (s.takeReleaseEnd n o).memory = s.memory ∧
    (s.takeReleaseEnd n o).ctrlReset = s.ctrlReset ∧ (s.takeReleaseEnd n o).por = s.por ∧
    (s.takeReleaseEnd n o).pending = s.pending ∧ (s.takeReleaseEnd n o).restore.phase = s.restore.phase ∧
    (s.takeReleaseEnd n o).restore.lowestClosed = s.restore.lowestClosed ∧
    (s.takeReleaseEnd n o).restore.timer = s.restore.timer ∧
    (s.takeReleaseEnd n o).circuits.admissions = s.circuits.admissions := by
  unfold State.takeReleaseEnd
  (repeat' split) <;> simp

@[simp] theorem State.sagWithdraw_leaves (s : State) (i : EntryNo) (d : Ends) :
    (State.sagWithdraw i s d).supply = s.supply ∧ (State.sagWithdraw i s d).watching = s.watching ∧
    (State.sagWithdraw i s d).slots = s.slots ∧ (∀ m : SlotNo, (State.sagWithdraw i s d).slot m = s.slot m) ∧
    (State.sagWithdraw i s d).notices = s.notices ∧ (State.sagWithdraw i s d).lanes = s.lanes ∧
    (∀ m : LaneNo, (State.sagWithdraw i s d).lane m = s.lane m) ∧ (State.sagWithdraw i s d).journal = s.journal ∧
    (State.sagWithdraw i s d).path = s.path ∧ (∀ m : SlotNo, (State.sagWithdraw i s d).sl0 m = s.sl0 m) ∧
    (State.sagWithdraw i s d).judging = s.judging ∧ (State.sagWithdraw i s d).memory = s.memory ∧
    (State.sagWithdraw i s d).ctrlReset = s.ctrlReset ∧ (State.sagWithdraw i s d).por = s.por ∧
    (State.sagWithdraw i s d).pending = s.pending ∧ (State.sagWithdraw i s d).restore.phase = s.restore.phase ∧
    (State.sagWithdraw i s d).restore.lowestClosed = s.restore.lowestClosed ∧
    (State.sagWithdraw i s d).restore.timer = s.restore.timer ∧
    (State.sagWithdraw i s d).circuits.admissions = s.circuits.admissions := by
  unfold State.sagWithdraw
  (repeat' split) <;> simp

@[simp] theorem State.sagResolve_leaves (s : State) (i : EntryNo) :
    (s.sagResolve i).supply = s.supply ∧ (s.sagResolve i).watching = s.watching ∧
    (s.sagResolve i).slots = s.slots ∧ (∀ m : SlotNo, (s.sagResolve i).slot m = s.slot m) ∧
    (s.sagResolve i).notices = s.notices ∧ (s.sagResolve i).lanes = s.lanes ∧
    (∀ m : LaneNo, (s.sagResolve i).lane m = s.lane m) ∧ (s.sagResolve i).journal = s.journal ∧
    (s.sagResolve i).path = s.path ∧ (∀ m : SlotNo, (s.sagResolve i).sl0 m = s.sl0 m) ∧
    (s.sagResolve i).judging = s.judging ∧ (s.sagResolve i).memory = s.memory ∧
    (s.sagResolve i).ctrlReset = s.ctrlReset ∧ (s.sagResolve i).por = s.por ∧
    (s.sagResolve i).pending = s.pending ∧ (s.sagResolve i).restore.phase = s.restore.phase ∧
    (s.sagResolve i).restore.lowestClosed = s.restore.lowestClosed ∧
    (s.sagResolve i).restore.timer = s.restore.timer ∧
    (s.sagResolve i).circuits.admissions = s.circuits.admissions := by
  unfold State.sagResolve
  dsimp only
  (repeat' split) <;> simp

@[simp] theorem State.sagEntry_leaves (s : State) (i : EntryNo) :
    (s.sagEntry i).supply = s.supply ∧ (s.sagEntry i).watching = s.watching ∧ (s.sagEntry i).slots = s.slots ∧
    (∀ m : SlotNo, (s.sagEntry i).slot m = s.slot m) ∧ (s.sagEntry i).notices = s.notices ∧
    (s.sagEntry i).lanes = s.lanes ∧ (∀ m : LaneNo, (s.sagEntry i).lane m = s.lane m) ∧
    (s.sagEntry i).journal = s.journal ∧ (s.sagEntry i).path = s.path ∧
    (∀ m : SlotNo, (s.sagEntry i).sl0 m = s.sl0 m) ∧ (s.sagEntry i).judging = s.judging ∧
    (s.sagEntry i).memory = s.memory ∧ (s.sagEntry i).ctrlReset = s.ctrlReset ∧ (s.sagEntry i).por = s.por ∧
    (s.sagEntry i).pending = s.pending ∧ (s.sagEntry i).restore.phase = s.restore.phase ∧
    (s.sagEntry i).restore.lowestClosed = s.restore.lowestClosed ∧
    (s.sagEntry i).restore.timer = s.restore.timer ∧ (s.sagEntry i).circuits.admissions = s.circuits.admissions := by
  unfold State.sagEntry
  dsimp only
  split <;> simp [Entry.orderEnds]
  split <;> simp

@[simp] theorem State.takeDepartures_leaves (s : State) :
    (s.takeDepartures).supply = s.supply ∧ (s.takeDepartures).watching = s.watching ∧ (s.takeDepartures).slots = s.slots ∧
    (∀ m : SlotNo, (s.takeDepartures).slot m = s.slot m) ∧ (s.takeDepartures).lanes = s.lanes ∧
    (∀ m : LaneNo, (s.takeDepartures).lane m = s.lane m) ∧ (s.takeDepartures).journal = s.journal ∧
    (s.takeDepartures).path = s.path ∧ (∀ m : SlotNo, (s.takeDepartures).sl0 m = s.sl0 m) ∧ (s.takeDepartures).judging = s.judging ∧
    (s.takeDepartures).memory = s.memory ∧ (s.takeDepartures).ctrlReset = s.ctrlReset ∧ (s.takeDepartures).por = s.por ∧
    (s.takeDepartures).pending = s.pending ∧ (s.takeDepartures).restore.phase = s.restore.phase ∧
    (s.takeDepartures).restore.lowestClosed = s.restore.lowestClosed ∧ (s.takeDepartures).restore.timer = s.restore.timer ∧
    (s.takeDepartures).circuits.admissions = s.circuits.admissions ∧ (s.takeDepartures).notices.slots = s.notices.slots ∧
    (s.takeDepartures).notices.circuits = s.notices.circuits ∧ (s.takeDepartures).notices.restore = s.notices.restore ∧
    (s.takeDepartures).notices.departLink = s.notices.departLink := by
  have h0 := fun (l : List _) (s : State) => foldl_leaves (fun t : State => t.supply)
      (f := State.parkSlot) (fun _ _ => by simp) l s
  have h1 := fun (l : List _) (s : State) => foldl_leaves (fun t : State => t.watching)
      (f := State.parkSlot) (fun _ _ => by simp) l s
  have h2 := fun (l : List _) (s : State) => foldl_leaves (fun t : State => t.slots)
      (f := State.parkSlot) (fun _ _ => by simp) l s
  have h3 := fun (l : List _) (s : State) (m : _) => foldl_leaves (fun t : State => t.slot m)
      (f := State.parkSlot) (fun _ _ => by simp) l s
  have h4 := fun (l : List _) (s : State) => foldl_leaves (fun t : State => t.lanes)
      (f := State.parkSlot) (fun _ _ => by simp) l s
  have h5 := fun (l : List _) (s : State) (m : _) => foldl_leaves (fun t : State => t.lane m)
      (f := State.parkSlot) (fun _ _ => by simp) l s
  have h6 := fun (l : List _) (s : State) => foldl_leaves (fun t : State => t.journal)
      (f := State.parkSlot) (fun _ _ => by simp) l s
  have h7 := fun (l : List _) (s : State) => foldl_leaves (fun t : State => t.path)
      (f := State.parkSlot) (fun _ _ => by simp) l s
  have h8 := fun (l : List _) (s : State) (m : _) => foldl_leaves (fun t : State => t.sl0 m)
      (f := State.parkSlot) (fun _ _ => by simp) l s
  have h9 := fun (l : List _) (s : State) => foldl_leaves (fun t : State => t.judging)
      (f := State.parkSlot) (fun _ _ => by simp) l s
  have h10 := fun (l : List _) (s : State) => foldl_leaves (fun t : State => t.memory)
      (f := State.parkSlot) (fun _ _ => by simp) l s
  have h11 := fun (l : List _) (s : State) => foldl_leaves (fun t : State => t.ctrlReset)
      (f := State.parkSlot) (fun _ _ => by simp) l s
  have h12 := fun (l : List _) (s : State) => foldl_leaves (fun t : State => t.por)
      (f := State.parkSlot) (fun _ _ => by simp) l s
  have h13 := fun (l : List _) (s : State) => foldl_leaves (fun t : State => t.pending)
      (f := State.parkSlot) (fun _ _ => by simp) l s
  have h14 := fun (l : List _) (s : State) => foldl_leaves (fun t : State => t.restore.phase)
      (f := State.parkSlot) (fun _ _ => by simp) l s
  have h15 := fun (l : List _) (s : State) => foldl_leaves (fun t : State => t.restore.lowestClosed)
      (f := State.parkSlot) (fun _ _ => by simp) l s
  have h16 := fun (l : List _) (s : State) => foldl_leaves (fun t : State => t.restore.timer)
      (f := State.parkSlot) (fun _ _ => by simp) l s
  have h17 := fun (l : List _) (s : State) => foldl_leaves (fun t : State => t.circuits.admissions)
      (f := State.parkSlot) (fun _ _ => by simp) l s
  have h18 := fun (l : List _) (s : State) => foldl_leaves (fun t : State => t.notices.slots)
      (f := State.parkSlot) (fun _ _ => by simp) l s
  have h19 := fun (l : List _) (s : State) => foldl_leaves (fun t : State => t.notices.circuits)
      (f := State.parkSlot) (fun _ _ => by simp) l s
  have h20 := fun (l : List _) (s : State) => foldl_leaves (fun t : State => t.notices.restore)
      (f := State.parkSlot) (fun _ _ => by simp) l s
  have h21 := fun (l : List _) (s : State) => foldl_leaves (fun t : State => t.notices.departLink)
      (f := State.parkSlot) (fun _ _ => by simp) l s
  unfold State.takeDepartures
  simp [h0, h1, h2, h3, h4, h5, h6, h7, h8, h9, h10, h11, h12, h13, h14, h15, h16, h17, h18, h19, h20, h21]

@[simp] theorem State.reachSag_leaves (s : State) :
    (s.reachSag).supply = s.supply ∧ (s.reachSag).watching = s.watching ∧ (s.reachSag).slots = s.slots ∧
    (∀ m : SlotNo, (s.reachSag).slot m = s.slot m) ∧ (s.reachSag).lanes = s.lanes ∧
    (∀ m : LaneNo, (s.reachSag).lane m = s.lane m) ∧ (s.reachSag).journal = s.journal ∧
    (s.reachSag).path = s.path ∧ (∀ m : SlotNo, (s.reachSag).sl0 m = s.sl0 m) ∧ (s.reachSag).judging = s.judging ∧
    (s.reachSag).memory = s.memory ∧ (s.reachSag).ctrlReset = s.ctrlReset ∧ (s.reachSag).por = s.por ∧
    (s.reachSag).pending = s.pending ∧ (s.reachSag).restore.phase = s.restore.phase ∧
    (s.reachSag).restore.lowestClosed = s.restore.lowestClosed ∧ (s.reachSag).restore.timer = s.restore.timer ∧
    (s.reachSag).circuits.admissions = s.circuits.admissions ∧ (s.reachSag).notices.slots = s.notices.slots ∧
    (s.reachSag).notices.circuits = s.notices.circuits ∧ (s.reachSag).notices.restore = s.notices.restore ∧
    (s.reachSag).notices.departLink = s.notices.departLink := by
  unfold State.reachSag
  split <;> simp

@[simp] theorem State.sagSlots_leaves (s : State) :
    s.sagSlots.supply = s.supply ∧ s.sagSlots.journal = s.journal ∧ s.sagSlots.path = s.path ∧
    (∀ m : SlotNo, s.sagSlots.sl0 m = s.sl0 m) ∧ s.sagSlots.judging = s.judging ∧ s.sagSlots.memory = s.memory ∧
    s.sagSlots.ctrlReset = s.ctrlReset ∧ s.sagSlots.por = s.por ∧ s.sagSlots.pending = s.pending ∧
    s.sagSlots.restore.phase = s.restore.phase ∧ s.sagSlots.restore.lowestClosed = s.restore.lowestClosed ∧
    s.sagSlots.restore.timer = s.restore.timer ∧ s.sagSlots.circuits.admissions = s.circuits.admissions := by
  unfold State.sagSlots
  simp

@[simp] theorem State.sagCircuits_leaves (s : State) :
    (s.sagCircuits).supply = s.supply ∧ (s.sagCircuits).watching = s.watching ∧ (s.sagCircuits).slots = s.slots ∧
    (∀ m : SlotNo, (s.sagCircuits).slot m = s.slot m) ∧ (s.sagCircuits).lanes = s.lanes ∧
    (∀ m : LaneNo, (s.sagCircuits).lane m = s.lane m) ∧ (s.sagCircuits).journal = s.journal ∧
    (s.sagCircuits).path = s.path ∧ (∀ m : SlotNo, (s.sagCircuits).sl0 m = s.sl0 m) ∧
    (s.sagCircuits).judging = s.judging ∧ (s.sagCircuits).memory = s.memory ∧
    (s.sagCircuits).ctrlReset = s.ctrlReset ∧ (s.sagCircuits).por = s.por ∧ (s.sagCircuits).pending = s.pending ∧
    (s.sagCircuits).restore.phase = s.restore.phase ∧
    (s.sagCircuits).restore.lowestClosed = s.restore.lowestClosed ∧
    (s.sagCircuits).restore.timer = s.restore.timer ∧ (s.sagCircuits).circuits.admissions = s.circuits.admissions ∧
    (s.sagCircuits).notices = { s.notices with circuits := s.notices.circuits - 1 } := by
  have h0 := fun (l : List _) (s : State) => foldl_leaves (fun t : State => t.supply)
      (f := State.sagEntry) (fun _ _ => by simp) l s
  have h1 := fun (l : List _) (s : State) => foldl_leaves (fun t : State => t.watching)
      (f := State.sagEntry) (fun _ _ => by simp) l s
  have h2 := fun (l : List _) (s : State) => foldl_leaves (fun t : State => t.slots)
      (f := State.sagEntry) (fun _ _ => by simp) l s
  have h3 := fun (l : List _) (s : State) (m : _) => foldl_leaves (fun t : State => t.slot m)
      (f := State.sagEntry) (fun _ _ => by simp) l s
  have h4 := fun (l : List _) (s : State) => foldl_leaves (fun t : State => t.lanes)
      (f := State.sagEntry) (fun _ _ => by simp) l s
  have h5 := fun (l : List _) (s : State) (m : _) => foldl_leaves (fun t : State => t.lane m)
      (f := State.sagEntry) (fun _ _ => by simp) l s
  have h6 := fun (l : List _) (s : State) => foldl_leaves (fun t : State => t.journal)
      (f := State.sagEntry) (fun _ _ => by simp) l s
  have h7 := fun (l : List _) (s : State) => foldl_leaves (fun t : State => t.path)
      (f := State.sagEntry) (fun _ _ => by simp) l s
  have h8 := fun (l : List _) (s : State) (m : _) => foldl_leaves (fun t : State => t.sl0 m)
      (f := State.sagEntry) (fun _ _ => by simp) l s
  have h9 := fun (l : List _) (s : State) => foldl_leaves (fun t : State => t.judging)
      (f := State.sagEntry) (fun _ _ => by simp) l s
  have h10 := fun (l : List _) (s : State) => foldl_leaves (fun t : State => t.memory)
      (f := State.sagEntry) (fun _ _ => by simp) l s
  have h11 := fun (l : List _) (s : State) => foldl_leaves (fun t : State => t.ctrlReset)
      (f := State.sagEntry) (fun _ _ => by simp) l s
  have h12 := fun (l : List _) (s : State) => foldl_leaves (fun t : State => t.por)
      (f := State.sagEntry) (fun _ _ => by simp) l s
  have h13 := fun (l : List _) (s : State) => foldl_leaves (fun t : State => t.pending)
      (f := State.sagEntry) (fun _ _ => by simp) l s
  have h14 := fun (l : List _) (s : State) => foldl_leaves (fun t : State => t.restore.phase)
      (f := State.sagEntry) (fun _ _ => by simp) l s
  have h15 := fun (l : List _) (s : State) => foldl_leaves (fun t : State => t.restore.lowestClosed)
      (f := State.sagEntry) (fun _ _ => by simp) l s
  have h16 := fun (l : List _) (s : State) => foldl_leaves (fun t : State => t.restore.timer)
      (f := State.sagEntry) (fun _ _ => by simp) l s
  have h17 := fun (l : List _) (s : State) => foldl_leaves (fun t : State => t.circuits.admissions)
      (f := State.sagEntry) (fun _ _ => by simp) l s
  have h18 := fun (l : List _) (s : State) => foldl_leaves (fun t : State => t.notices)
      (f := State.sagEntry) (fun _ _ => by simp) l s
  unfold State.sagCircuits
  simp [h0, h1, h2, h3, h4, h5, h6, h7, h8, h9, h10, h11, h12, h13, h14, h15, h16, h17, h18]

@[simp] theorem State.takeSagCircuits_leaves (s : State) :
    s.takeSagCircuits.supply = s.supply ∧ s.takeSagCircuits.watching = s.watching ∧
    s.takeSagCircuits.slots = s.slots ∧ (∀ m : SlotNo, s.takeSagCircuits.slot m = s.slot m) ∧
    s.takeSagCircuits.lanes = s.lanes ∧ (∀ m : LaneNo, s.takeSagCircuits.lane m = s.lane m) ∧
    s.takeSagCircuits.journal = s.journal ∧ s.takeSagCircuits.path = s.path ∧
    (∀ m : SlotNo, s.takeSagCircuits.sl0 m = s.sl0 m) ∧ s.takeSagCircuits.judging = s.judging ∧
    s.takeSagCircuits.memory = s.memory ∧ s.takeSagCircuits.ctrlReset = s.ctrlReset ∧ s.takeSagCircuits.por = s.por ∧
    s.takeSagCircuits.pending = s.pending ∧ s.takeSagCircuits.restore.phase = s.restore.phase ∧
    s.takeSagCircuits.restore.lowestClosed = s.restore.lowestClosed ∧
    s.takeSagCircuits.restore.timer = s.restore.timer ∧
    s.takeSagCircuits.circuits.admissions = s.circuits.admissions ∧
    s.takeSagCircuits.notices.slots = s.notices.slots ∧ s.takeSagCircuits.notices.restore = s.notices.restore ∧
    s.takeSagCircuits.notices.departLink = s.notices.departLink ∧
    s.takeSagCircuits.notices.circuits = s.notices.circuits - 1 := by
  unfold State.takeSagCircuits
  simp

/-! ## Restore Engine -/

@[simp] theorem State.appendConnect_leaves (s : State) (i : EntryNo) (d : Ends) (k : Mark) :
    (s.appendConnect i d k).supply = s.supply ∧ (s.appendConnect i d k).watching = s.watching ∧
    (s.appendConnect i d k).slots = s.slots ∧ (∀ m : SlotNo, (s.appendConnect i d k).slot m = s.slot m) ∧
    (s.appendConnect i d k).notices = s.notices ∧ (s.appendConnect i d k).lanes = s.lanes ∧
    (∀ m : LaneNo, (s.appendConnect i d k).lane m = s.lane m) ∧ (s.appendConnect i d k).journal = s.journal ∧
    (s.appendConnect i d k).path = s.path ∧ (∀ m : SlotNo, (s.appendConnect i d k).sl0 m = s.sl0 m) ∧
    (s.appendConnect i d k).judging = s.judging ∧ (s.appendConnect i d k).memory = s.memory ∧
    (s.appendConnect i d k).ctrlReset = s.ctrlReset ∧ (s.appendConnect i d k).por = s.por ∧
    (s.appendConnect i d k).pending = s.pending ∧ (s.appendConnect i d k).restore.phase = s.restore.phase ∧
    (s.appendConnect i d k).restore.lowestClosed = s.restore.lowestClosed ∧
    (s.appendConnect i d k).restore.timer = s.restore.timer ∧
    (s.appendConnect i d k).circuits.admissions = s.circuits.admissions := by
  unfold State.appendConnect
  (repeat' split) <;> simp

@[simp] theorem State.issueEntry_leaves (s : State) (i : EntryNo) :
    (s.issueEntry i).supply = s.supply ∧ (s.issueEntry i).watching = s.watching ∧
    (s.issueEntry i).slots = s.slots ∧ (∀ m : SlotNo, (s.issueEntry i).slot m = s.slot m) ∧
    (s.issueEntry i).notices = s.notices ∧ (s.issueEntry i).lanes = s.lanes ∧
    (∀ m : LaneNo, (s.issueEntry i).lane m = s.lane m) ∧ (s.issueEntry i).journal = s.journal ∧
    (s.issueEntry i).path = s.path ∧ (∀ m : SlotNo, (s.issueEntry i).sl0 m = s.sl0 m) ∧
    (s.issueEntry i).judging = s.judging ∧ (s.issueEntry i).memory = s.memory ∧
    (s.issueEntry i).ctrlReset = s.ctrlReset ∧ (s.issueEntry i).por = s.por ∧
    (s.issueEntry i).pending = s.pending ∧ (s.issueEntry i).restore.phase = s.restore.phase ∧
    (s.issueEntry i).restore.lowestClosed = s.restore.lowestClosed ∧
    (s.issueEntry i).restore.timer = s.restore.timer ∧
    (s.issueEntry i).circuits.admissions = s.circuits.admissions := by
  unfold State.issueEntry
  dsimp only
  (repeat' split) <;> simp

@[simp] theorem State.openBarrier_leaves (s : State) (c : BitVec 8) :
    (s.openBarrier c).supply = s.supply ∧ (s.openBarrier c).watching = s.watching ∧
    (s.openBarrier c).slots = s.slots ∧ (∀ m : SlotNo, (s.openBarrier c).slot m = s.slot m) ∧
    (s.openBarrier c).notices = s.notices ∧ (s.openBarrier c).lanes = s.lanes ∧
    (∀ m : LaneNo, (s.openBarrier c).lane m = s.lane m) ∧ (s.openBarrier c).links = s.links ∧
    (∀ m : SlotNo, (s.openBarrier c).link m = s.link m) ∧ (s.openBarrier c).circuits = s.circuits ∧
    (∀ m : EntryNo, (s.openBarrier c).entry m = s.entry m) ∧ (s.openBarrier c).path = s.path ∧
    (∀ m : SlotNo, (s.openBarrier c).sl0 m = s.sl0 m) ∧ (s.openBarrier c).judging = s.judging ∧
    (s.openBarrier c).memory = s.memory ∧ (s.openBarrier c).ctrlReset = s.ctrlReset ∧
    (s.openBarrier c).por = s.por ∧ (s.openBarrier c).pending = s.pending := by
  unfold State.openBarrier
  dsimp only
  (repeat' split) <;> simp

@[simp] theorem State.takeRestoreNotice_leaves (s : State) :
    (s.takeRestoreNotice).supply = s.supply ∧ (s.takeRestoreNotice).watching = s.watching ∧
    (s.takeRestoreNotice).slots = s.slots ∧ (∀ m : SlotNo, (s.takeRestoreNotice).slot m = s.slot m) ∧
    (s.takeRestoreNotice).lanes = s.lanes ∧ (∀ m : LaneNo, (s.takeRestoreNotice).lane m = s.lane m) ∧
    (s.takeRestoreNotice).links = s.links ∧ (∀ m : SlotNo, (s.takeRestoreNotice).link m = s.link m) ∧
    (s.takeRestoreNotice).circuits = s.circuits ∧ (∀ m : EntryNo, (s.takeRestoreNotice).entry m = s.entry m) ∧
    (s.takeRestoreNotice).restore = s.restore ∧ (s.takeRestoreNotice).journal = s.journal ∧
    (s.takeRestoreNotice).path = s.path ∧ (∀ m : SlotNo, (s.takeRestoreNotice).sl0 m = s.sl0 m) ∧
    (s.takeRestoreNotice).judging = s.judging ∧ (s.takeRestoreNotice).memory = s.memory ∧
    (s.takeRestoreNotice).ctrlReset = s.ctrlReset ∧ (s.takeRestoreNotice).por = s.por ∧
    (s.takeRestoreNotice).pending = s.pending := by
  unfold State.takeRestoreNotice
  simp

@[simp] theorem State.sagRestore_leaves (s : State) :
    (s.sagRestore).supply = s.supply ∧ (s.sagRestore).watching = s.watching ∧ (s.sagRestore).slots = s.slots ∧
    (∀ m : SlotNo, (s.sagRestore).slot m = s.slot m) ∧ (s.sagRestore).lanes = s.lanes ∧
    (∀ m : LaneNo, (s.sagRestore).lane m = s.lane m) ∧ (s.sagRestore).links = s.links ∧
    (∀ m : SlotNo, (s.sagRestore).link m = s.link m) ∧ (s.sagRestore).circuits = s.circuits ∧
    (∀ m : EntryNo, (s.sagRestore).entry m = s.entry m) ∧ (s.sagRestore).journal = s.journal ∧
    (s.sagRestore).path = s.path ∧ (∀ m : SlotNo, (s.sagRestore).sl0 m = s.sl0 m) ∧
    (s.sagRestore).judging = s.judging ∧ (s.sagRestore).memory = s.memory ∧
    (s.sagRestore).ctrlReset = s.ctrlReset ∧ (s.sagRestore).por = s.por ∧ (s.sagRestore).pending = s.pending := by
  unfold State.sagRestore
  simp

@[simp] theorem State.recoverRestore_leaves (s : State) :
    (s.recoverRestore).supply = s.supply ∧ (s.recoverRestore).watching = s.watching ∧
    (s.recoverRestore).slots = s.slots ∧ (∀ m : SlotNo, (s.recoverRestore).slot m = s.slot m) ∧
    (s.recoverRestore).lanes = s.lanes ∧ (∀ m : LaneNo, (s.recoverRestore).lane m = s.lane m) ∧
    (s.recoverRestore).links = s.links ∧ (∀ m : SlotNo, (s.recoverRestore).link m = s.link m) ∧
    (s.recoverRestore).circuits = s.circuits ∧ (∀ m : EntryNo, (s.recoverRestore).entry m = s.entry m) ∧
    (s.recoverRestore).journal = s.journal ∧ (s.recoverRestore).path = s.path ∧
    (∀ m : SlotNo, (s.recoverRestore).sl0 m = s.sl0 m) ∧ (s.recoverRestore).judging = s.judging ∧
    (s.recoverRestore).memory = s.memory ∧ (s.recoverRestore).ctrlReset = s.ctrlReset ∧
    (s.recoverRestore).por = s.por ∧ (s.recoverRestore).pending = s.pending := by
  unfold State.recoverRestore
  (repeat' split) <;> simp

@[simp] theorem State.normalRestore_leaves (s : State) :
    (s.normalRestore).supply = s.supply ∧ (s.normalRestore).watching = s.watching ∧
    (s.normalRestore).slots = s.slots ∧ (∀ m : SlotNo, (s.normalRestore).slot m = s.slot m) ∧
    (s.normalRestore).lanes = s.lanes ∧ (∀ m : LaneNo, (s.normalRestore).lane m = s.lane m) ∧
    (s.normalRestore).links = s.links ∧ (∀ m : SlotNo, (s.normalRestore).link m = s.link m) ∧
    (s.normalRestore).circuits = s.circuits ∧ (∀ m : EntryNo, (s.normalRestore).entry m = s.entry m) ∧
    (s.normalRestore).journal = s.journal ∧ (s.normalRestore).path = s.path ∧
    (∀ m : SlotNo, (s.normalRestore).sl0 m = s.sl0 m) ∧ (s.normalRestore).judging = s.judging ∧
    (s.normalRestore).memory = s.memory ∧ (s.normalRestore).ctrlReset = s.ctrlReset ∧
    (s.normalRestore).por = s.por ∧ (s.normalRestore).pending = s.pending := by
  unfold State.normalRestore
  simp

/-! ## Supply Watch -/

@[simp] theorem State.advanceClock_leaves (s : State) :
    (s.advanceClock).watching = s.watching ∧ (s.advanceClock).slots = s.slots ∧
    (∀ m : SlotNo, (s.advanceClock).slot m = s.slot m) ∧ (s.advanceClock).notices = s.notices ∧
    (s.advanceClock).lanes = s.lanes ∧ (∀ m : LaneNo, (s.advanceClock).lane m = s.lane m) ∧
    (s.advanceClock).links = s.links ∧ (∀ m : SlotNo, (s.advanceClock).link m = s.link m) ∧
    (s.advanceClock).circuits = s.circuits ∧ (∀ m : EntryNo, (s.advanceClock).entry m = s.entry m) ∧
    (s.advanceClock).restore = s.restore ∧ (s.advanceClock).journal = s.journal ∧ (s.advanceClock).path = s.path ∧
    (∀ m : SlotNo, (s.advanceClock).sl0 m = s.sl0 m) ∧ (s.advanceClock).judging = s.judging ∧
    (s.advanceClock).memory = s.memory ∧ (s.advanceClock).ctrlReset = s.ctrlReset ∧ (s.advanceClock).por = s.por ∧
    (s.advanceClock).pending = s.pending := by
  unfold State.advanceClock
  simp

@[simp] theorem State.tick_leaves (s : State) :
    (s.tick).watching = s.watching ∧ (s.tick).slots = s.slots ∧ (∀ m : SlotNo, (s.tick).slot m = s.slot m) ∧
    (s.tick).notices = s.notices ∧ (s.tick).lanes = s.lanes ∧ (∀ m : LaneNo, (s.tick).lane m = s.lane m) ∧
    (s.tick).links = s.links ∧ (∀ m : SlotNo, (s.tick).link m = s.link m) ∧ (s.tick).circuits = s.circuits ∧
    (∀ m : EntryNo, (s.tick).entry m = s.entry m) ∧ (s.tick).restore = s.restore ∧ (s.tick).journal = s.journal ∧
    (s.tick).path = s.path ∧ (∀ m : SlotNo, (s.tick).sl0 m = s.sl0 m) ∧ (s.tick).judging = s.judging ∧
    (s.tick).memory = s.memory ∧ (s.tick).ctrlReset = s.ctrlReset ∧ (s.tick).por = s.por ∧
    (s.tick).pending = s.pending := by
  unfold State.tick
  (repeat' split) <;> simp

@[simp] theorem State.senseRail_leaves (s : State) (l : Level) :
    (s.senseRail l).watching = s.watching ∧ (s.senseRail l).slots = s.slots ∧
    (∀ m : SlotNo, (s.senseRail l).slot m = s.slot m) ∧ (s.senseRail l).notices = s.notices ∧
    (s.senseRail l).lanes = s.lanes ∧ (∀ m : LaneNo, (s.senseRail l).lane m = s.lane m) ∧
    (s.senseRail l).links = s.links ∧ (∀ m : SlotNo, (s.senseRail l).link m = s.link m) ∧
    (s.senseRail l).circuits = s.circuits ∧ (∀ m : EntryNo, (s.senseRail l).entry m = s.entry m) ∧
    (s.senseRail l).restore = s.restore ∧ (s.senseRail l).journal = s.journal ∧ (s.senseRail l).path = s.path ∧
    (∀ m : SlotNo, (s.senseRail l).sl0 m = s.sl0 m) ∧ (s.senseRail l).judging = s.judging ∧
    (s.senseRail l).memory = s.memory ∧ (s.senseRail l).ctrlReset = s.ctrlReset ∧ (s.senseRail l).por = s.por ∧
    (s.senseRail l).pending = s.pending := by
  unfold State.senseRail
  (repeat' split) <;> simp

@[simp] theorem State.senseCard_leaves (s : State) (n : SlotNo) (l : Level) :
    (s.senseCard n l).watching = s.watching ∧ (s.senseCard n l).slots = s.slots ∧
    (∀ m : SlotNo, (s.senseCard n l).slot m = s.slot m) ∧ (s.senseCard n l).notices = s.notices ∧
    (s.senseCard n l).lanes = s.lanes ∧ (∀ m : LaneNo, (s.senseCard n l).lane m = s.lane m) ∧
    (s.senseCard n l).links = s.links ∧ (∀ m : SlotNo, (s.senseCard n l).link m = s.link m) ∧
    (s.senseCard n l).circuits = s.circuits ∧ (∀ m : EntryNo, (s.senseCard n l).entry m = s.entry m) ∧
    (s.senseCard n l).restore = s.restore ∧ (s.senseCard n l).journal = s.journal ∧
    (s.senseCard n l).path = s.path ∧ (∀ m : SlotNo, (s.senseCard n l).sl0 m = s.sl0 m) ∧
    (s.senseCard n l).judging = s.judging ∧ (s.senseCard n l).memory = s.memory ∧
    (s.senseCard n l).ctrlReset = s.ctrlReset ∧ (s.senseCard n l).por = s.por ∧
    (s.senseCard n l).pending = s.pending := by
  unfold State.senseCard
  (repeat' split) <;> simp

@[simp] theorem State.declareCard_leaves (s : State) (n : SlotNo) (l : Level) :
    (s.declareCard n l).watching = s.watching ∧ (s.declareCard n l).slots = s.slots ∧
    (∀ m : SlotNo, (s.declareCard n l).slot m = s.slot m) ∧ (s.declareCard n l).notices = s.notices ∧
    (s.declareCard n l).lanes = s.lanes ∧ (∀ m : LaneNo, (s.declareCard n l).lane m = s.lane m) ∧
    (s.declareCard n l).links = s.links ∧ (∀ m : SlotNo, (s.declareCard n l).link m = s.link m) ∧
    (s.declareCard n l).circuits = s.circuits ∧ (∀ m : EntryNo, (s.declareCard n l).entry m = s.entry m) ∧
    (s.declareCard n l).restore = s.restore ∧ (s.declareCard n l).journal = s.journal ∧
    (s.declareCard n l).path = s.path ∧ (∀ m : SlotNo, (s.declareCard n l).sl0 m = s.sl0 m) ∧
    (s.declareCard n l).judging = s.judging ∧ (s.declareCard n l).memory = s.memory ∧
    (s.declareCard n l).ctrlReset = s.ctrlReset ∧ (s.declareCard n l).por = s.por ∧
    (s.declareCard n l).pending = s.pending := by
  unfold State.declareCard
  simp

@[simp] theorem State.declareRail_leaves (s : State) (l : Level) :
    (s.declareRail l).watching = s.watching ∧ (s.declareRail l).slots = s.slots ∧
    (∀ m : SlotNo, (s.declareRail l).slot m = s.slot m) ∧ (s.declareRail l).notices = s.notices ∧
    (s.declareRail l).lanes = s.lanes ∧ (∀ m : LaneNo, (s.declareRail l).lane m = s.lane m) ∧
    (s.declareRail l).links = s.links ∧ (∀ m : SlotNo, (s.declareRail l).link m = s.link m) ∧
    (s.declareRail l).circuits = s.circuits ∧ (∀ m : EntryNo, (s.declareRail l).entry m = s.entry m) ∧
    (s.declareRail l).restore = s.restore ∧ (s.declareRail l).journal = s.journal ∧
    (s.declareRail l).path = s.path ∧ (∀ m : SlotNo, (s.declareRail l).sl0 m = s.sl0 m) ∧
    (s.declareRail l).judging = s.judging ∧ (s.declareRail l).memory = s.memory ∧
    (s.declareRail l).ctrlReset = s.ctrlReset ∧ (s.declareRail l).por = s.por ∧
    (s.declareRail l).pending = s.pending := by
  unfold State.declareRail
  simp

@[simp] theorem State.openEpisode_leaves (s : State) (w : Word) :
    (s.openEpisode w).watching = s.watching ∧ (s.openEpisode w).notices = s.notices ∧
    (s.openEpisode w).lanes = s.lanes ∧ (∀ m : LaneNo, (s.openEpisode w).lane m = s.lane m) ∧
    (s.openEpisode w).links = s.links ∧ (∀ m : SlotNo, (s.openEpisode w).link m = s.link m) ∧
    (s.openEpisode w).circuits = s.circuits ∧ (∀ m : EntryNo, (s.openEpisode w).entry m = s.entry m) ∧
    (s.openEpisode w).restore = s.restore ∧ (s.openEpisode w).journal = s.journal ∧
    (s.openEpisode w).path = s.path ∧ (∀ m : SlotNo, (s.openEpisode w).sl0 m = s.sl0 m) ∧
    (s.openEpisode w).judging = s.judging ∧ (s.openEpisode w).memory = s.memory ∧
    (s.openEpisode w).ctrlReset = s.ctrlReset ∧ (s.openEpisode w).por = s.por ∧
    (s.openEpisode w).pending = s.pending := by
  unfold State.openEpisode
  simp

@[simp] theorem State.sendSag_leaves (s : State) :
    (s.sendSag).supply = s.supply ∧ (s.sendSag).watching = s.watching ∧ (s.sendSag).slots = s.slots ∧
    (∀ m : SlotNo, (s.sendSag).slot m = s.slot m) ∧ (s.sendSag).lanes = s.lanes ∧
    (∀ m : LaneNo, (s.sendSag).lane m = s.lane m) ∧ (s.sendSag).links = s.links ∧
    (∀ m : SlotNo, (s.sendSag).link m = s.link m) ∧ (s.sendSag).circuits = s.circuits ∧
    (∀ m : EntryNo, (s.sendSag).entry m = s.entry m) ∧ (s.sendSag).restore = s.restore ∧
    (s.sendSag).journal = s.journal ∧ (s.sendSag).path = s.path ∧ (∀ m : SlotNo, (s.sendSag).sl0 m = s.sl0 m) ∧
    (s.sendSag).judging = s.judging ∧ (s.sendSag).memory = s.memory ∧ (s.sendSag).ctrlReset = s.ctrlReset ∧
    (s.sendSag).por = s.por ∧ (s.sendSag).pending = s.pending := by
  unfold State.sendSag
  simp

@[simp] theorem State.sendRecover_leaves (s : State) (c : Classification) :
    (s.sendRecover c).supply = s.supply ∧ (s.sendRecover c).watching = s.watching ∧
    (s.sendRecover c).slots = s.slots ∧ (∀ m : SlotNo, (s.sendRecover c).slot m = s.slot m) ∧
    (s.sendRecover c).lanes = s.lanes ∧ (∀ m : LaneNo, (s.sendRecover c).lane m = s.lane m) ∧
    (s.sendRecover c).links = s.links ∧ (∀ m : SlotNo, (s.sendRecover c).link m = s.link m) ∧
    (s.sendRecover c).circuits = s.circuits ∧ (∀ m : EntryNo, (s.sendRecover c).entry m = s.entry m) ∧
    (s.sendRecover c).restore = s.restore ∧ (s.sendRecover c).journal = s.journal ∧
    (s.sendRecover c).path = s.path ∧ (∀ m : SlotNo, (s.sendRecover c).sl0 m = s.sl0 m) ∧
    (s.sendRecover c).judging = s.judging ∧ (s.sendRecover c).memory = s.memory ∧
    (s.sendRecover c).ctrlReset = s.ctrlReset ∧ (s.sendRecover c).por = s.por ∧
    (s.sendRecover c).pending = s.pending := by
  unfold State.sendRecover
  simp

@[simp] theorem State.sendNormal_leaves (s : State) :
    (s.sendNormal).supply = s.supply ∧ (s.sendNormal).watching = s.watching ∧ (s.sendNormal).slots = s.slots ∧
    (∀ m : SlotNo, (s.sendNormal).slot m = s.slot m) ∧ (s.sendNormal).lanes = s.lanes ∧
    (∀ m : LaneNo, (s.sendNormal).lane m = s.lane m) ∧ (s.sendNormal).links = s.links ∧
    (∀ m : SlotNo, (s.sendNormal).link m = s.link m) ∧ (s.sendNormal).circuits = s.circuits ∧
    (∀ m : EntryNo, (s.sendNormal).entry m = s.entry m) ∧ (s.sendNormal).restore = s.restore ∧
    (s.sendNormal).journal = s.journal ∧ (s.sendNormal).path = s.path ∧
    (∀ m : SlotNo, (s.sendNormal).sl0 m = s.sl0 m) ∧ (s.sendNormal).judging = s.judging ∧
    (s.sendNormal).memory = s.memory ∧ (s.sendNormal).ctrlReset = s.ctrlReset ∧ (s.sendNormal).por = s.por ∧
    (s.sendNormal).pending = s.pending := by
  unfold State.sendNormal
  simp

@[simp] theorem State.setShelf_leaves (s : State) (x : ShelfState) (t : Timer) :
    (s.setShelf x t).watching = s.watching ∧ (s.setShelf x t).slots = s.slots ∧
    (∀ m : SlotNo, (s.setShelf x t).slot m = s.slot m) ∧ (s.setShelf x t).notices = s.notices ∧
    (s.setShelf x t).lanes = s.lanes ∧ (∀ m : LaneNo, (s.setShelf x t).lane m = s.lane m) ∧
    (s.setShelf x t).links = s.links ∧ (∀ m : SlotNo, (s.setShelf x t).link m = s.link m) ∧
    (s.setShelf x t).circuits = s.circuits ∧ (∀ m : EntryNo, (s.setShelf x t).entry m = s.entry m) ∧
    (s.setShelf x t).restore = s.restore ∧ (s.setShelf x t).journal = s.journal ∧ (s.setShelf x t).path = s.path ∧
    (∀ m : SlotNo, (s.setShelf x t).sl0 m = s.sl0 m) ∧ (s.setShelf x t).judging = s.judging ∧
    (s.setShelf x t).memory = s.memory ∧ (s.setShelf x t).ctrlReset = s.ctrlReset ∧ (s.setShelf x t).por = s.por ∧
    (s.setShelf x t).pending = s.pending := by
  unfold State.setShelf
  simp

@[simp] theorem State.raiseSagBegin_leaves (s : State) (b : BitVec 8) :
    (s.raiseSagBegin b).supply = s.supply ∧ (s.raiseSagBegin b).watching = s.watching ∧
    (s.raiseSagBegin b).slots = s.slots ∧ (∀ m : SlotNo, (s.raiseSagBegin b).slot m = s.slot m) ∧
    (s.raiseSagBegin b).notices = s.notices ∧ (s.raiseSagBegin b).lanes = s.lanes ∧
    (∀ m : LaneNo, (s.raiseSagBegin b).lane m = s.lane m) ∧ (s.raiseSagBegin b).links = s.links ∧
    (∀ m : SlotNo, (s.raiseSagBegin b).link m = s.link m) ∧ (s.raiseSagBegin b).circuits = s.circuits ∧
    (∀ m : EntryNo, (s.raiseSagBegin b).entry m = s.entry m) ∧ (s.raiseSagBegin b).restore = s.restore ∧
    (s.raiseSagBegin b).path = s.path ∧ (∀ m : SlotNo, (s.raiseSagBegin b).sl0 m = s.sl0 m) ∧
    (s.raiseSagBegin b).judging = s.judging ∧ (s.raiseSagBegin b).memory = s.memory ∧
    (s.raiseSagBegin b).ctrlReset = s.ctrlReset ∧ (s.raiseSagBegin b).por = s.por ∧
    (s.raiseSagBegin b).pending = s.pending := by
  unfold State.raiseSagBegin
  simp

@[simp] theorem State.beginSag_leaves (s : State) :
    (s.beginSag).watching = s.watching ∧ (s.beginSag).lanes = s.lanes ∧
    (∀ m : LaneNo, (s.beginSag).lane m = s.lane m) ∧ (s.beginSag).links = s.links ∧
    (∀ m : SlotNo, (s.beginSag).link m = s.link m) ∧ (s.beginSag).circuits = s.circuits ∧
    (∀ m : EntryNo, (s.beginSag).entry m = s.entry m) ∧ (s.beginSag).restore = s.restore ∧
    (s.beginSag).path = s.path ∧ (∀ m : SlotNo, (s.beginSag).sl0 m = s.sl0 m) ∧ (s.beginSag).judging = s.judging ∧
    (s.beginSag).memory = s.memory ∧ (s.beginSag).ctrlReset = s.ctrlReset ∧ (s.beginSag).por = s.por ∧
    (s.beginSag).pending = s.pending := by
  unfold State.beginSag
  simp

@[simp] theorem State.railLow_leaves (s : State) :
    (s.railLow).watching = s.watching ∧ (s.railLow).lanes = s.lanes ∧
    (∀ m : LaneNo, (s.railLow).lane m = s.lane m) ∧ (s.railLow).links = s.links ∧
    (∀ m : SlotNo, (s.railLow).link m = s.link m) ∧ (s.railLow).circuits = s.circuits ∧
    (∀ m : EntryNo, (s.railLow).entry m = s.entry m) ∧ (s.railLow).restore = s.restore ∧
    (s.railLow).path = s.path ∧ (∀ m : SlotNo, (s.railLow).sl0 m = s.sl0 m) ∧ (s.railLow).judging = s.judging ∧
    (s.railLow).memory = s.memory ∧ (s.railLow).ctrlReset = s.ctrlReset ∧ (s.railLow).por = s.por ∧
    (s.railLow).pending = s.pending := by
  unfold State.railLow
  dsimp only
  (repeat' split) <;> simp

@[simp] theorem State.endSag_leaves (s : State) :
    (s.endSag).watching = s.watching ∧ (s.endSag).slots = s.slots ∧ (∀ m : SlotNo, (s.endSag).slot m = s.slot m) ∧
    (s.endSag).notices = s.notices ∧ (s.endSag).lanes = s.lanes ∧ (∀ m : LaneNo, (s.endSag).lane m = s.lane m) ∧
    (s.endSag).links = s.links ∧ (∀ m : SlotNo, (s.endSag).link m = s.link m) ∧ (s.endSag).circuits = s.circuits ∧
    (∀ m : EntryNo, (s.endSag).entry m = s.entry m) ∧ (s.endSag).restore = s.restore ∧ (s.endSag).path = s.path ∧
    (∀ m : SlotNo, (s.endSag).sl0 m = s.sl0 m) ∧ (s.endSag).judging = s.judging ∧ (s.endSag).memory = s.memory ∧
    (s.endSag).ctrlReset = s.ctrlReset ∧ (s.endSag).por = s.por ∧ (s.endSag).pending = s.pending := by
  unfold State.endSag
  simp

@[simp] theorem State.railGood_leaves (s : State) :
    (s.railGood).watching = s.watching ∧ (s.railGood).slots = s.slots ∧
    (∀ m : SlotNo, (s.railGood).slot m = s.slot m) ∧ (s.railGood).notices = s.notices ∧
    (s.railGood).lanes = s.lanes ∧ (∀ m : LaneNo, (s.railGood).lane m = s.lane m) ∧ (s.railGood).links = s.links ∧
    (∀ m : SlotNo, (s.railGood).link m = s.link m) ∧ (s.railGood).circuits = s.circuits ∧
    (∀ m : EntryNo, (s.railGood).entry m = s.entry m) ∧ (s.railGood).restore = s.restore ∧
    (s.railGood).path = s.path ∧ (∀ m : SlotNo, (s.railGood).sl0 m = s.sl0 m) ∧ (s.railGood).judging = s.judging ∧
    (s.railGood).memory = s.memory ∧ (s.railGood).ctrlReset = s.ctrlReset ∧ (s.railGood).por = s.por ∧
    (s.railGood).pending = s.pending := by
  unfold State.railGood
  dsimp only
  (repeat' split) <;> simp

@[simp] theorem State.enterRecover_leaves (s : State) (d : BitVec 16) (c : Classification) :
    (s.enterRecover d c).watching = s.watching ∧ (s.enterRecover d c).slots = s.slots ∧
    (∀ m : SlotNo, (s.enterRecover d c).slot m = s.slot m) ∧ (s.enterRecover d c).lanes = s.lanes ∧
    (∀ m : LaneNo, (s.enterRecover d c).lane m = s.lane m) ∧ (s.enterRecover d c).links = s.links ∧
    (∀ m : SlotNo, (s.enterRecover d c).link m = s.link m) ∧ (s.enterRecover d c).circuits = s.circuits ∧
    (∀ m : EntryNo, (s.enterRecover d c).entry m = s.entry m) ∧ (s.enterRecover d c).restore = s.restore ∧
    (s.enterRecover d c).path = s.path ∧ (∀ m : SlotNo, (s.enterRecover d c).sl0 m = s.sl0 m) ∧
    (s.enterRecover d c).judging = s.judging ∧ (s.enterRecover d c).memory = s.memory ∧
    (s.enterRecover d c).ctrlReset = s.ctrlReset ∧ (s.enterRecover d c).por = s.por ∧
    (s.enterRecover d c).pending = s.pending := by
  unfold State.enterRecover
  simp

@[simp] theorem State.settleExpires_leaves (s : State) :
    (s.settleExpires).watching = s.watching ∧ (s.settleExpires).slots = s.slots ∧
    (∀ m : SlotNo, (s.settleExpires).slot m = s.slot m) ∧ (s.settleExpires).lanes = s.lanes ∧
    (∀ m : LaneNo, (s.settleExpires).lane m = s.lane m) ∧ (s.settleExpires).links = s.links ∧
    (∀ m : SlotNo, (s.settleExpires).link m = s.link m) ∧ (s.settleExpires).circuits = s.circuits ∧
    (∀ m : EntryNo, (s.settleExpires).entry m = s.entry m) ∧ (s.settleExpires).restore = s.restore ∧
    (s.settleExpires).path = s.path ∧ (∀ m : SlotNo, (s.settleExpires).sl0 m = s.sl0 m) ∧
    (s.settleExpires).judging = s.judging ∧ (s.settleExpires).memory = s.memory ∧
    (s.settleExpires).ctrlReset = s.ctrlReset ∧ (s.settleExpires).por = s.por ∧
    (s.settleExpires).pending = s.pending := by
  unfold State.settleExpires
  simp

@[simp] theorem State.endRecovery_leaves (s : State) :
    (s.endRecovery).watching = s.watching ∧ (s.endRecovery).slots = s.slots ∧
    (∀ m : SlotNo, (s.endRecovery).slot m = s.slot m) ∧ (s.endRecovery).lanes = s.lanes ∧
    (∀ m : LaneNo, (s.endRecovery).lane m = s.lane m) ∧ (s.endRecovery).links = s.links ∧
    (∀ m : SlotNo, (s.endRecovery).link m = s.link m) ∧ (s.endRecovery).circuits = s.circuits ∧
    (∀ m : EntryNo, (s.endRecovery).entry m = s.entry m) ∧ (s.endRecovery).restore = s.restore ∧
    (s.endRecovery).path = s.path ∧ (∀ m : SlotNo, (s.endRecovery).sl0 m = s.sl0 m) ∧
    (s.endRecovery).judging = s.judging ∧ (s.endRecovery).memory = s.memory ∧
    (s.endRecovery).ctrlReset = s.ctrlReset ∧ (s.endRecovery).por = s.por ∧ (s.endRecovery).pending = s.pending := by
  unfold State.endRecovery
  simp

@[simp] theorem State.takeRelinkAll_leaves (s : State) :
    (s.takeRelinkAll).watching = s.watching ∧ (s.takeRelinkAll).lanes = s.lanes ∧
    (∀ m : LaneNo, (s.takeRelinkAll).lane m = s.lane m) ∧ (s.takeRelinkAll).links = s.links ∧
    (∀ m : SlotNo, (s.takeRelinkAll).link m = s.link m) ∧ (s.takeRelinkAll).circuits = s.circuits ∧
    (∀ m : EntryNo, (s.takeRelinkAll).entry m = s.entry m) ∧ (s.takeRelinkAll).restore = s.restore ∧
    (s.takeRelinkAll).path = s.path ∧ (∀ m : SlotNo, (s.takeRelinkAll).sl0 m = s.sl0 m) ∧
    (s.takeRelinkAll).judging = s.judging ∧ (s.takeRelinkAll).memory = s.memory ∧
    (s.takeRelinkAll).ctrlReset = s.ctrlReset ∧ (s.takeRelinkAll).por = s.por ∧
    (s.takeRelinkAll).pending = s.pending := by
  unfold State.takeRelinkAll
  (repeat' split) <;> simp

/-! ## Journal Writer and Pass-Through Path -/

@[simp] theorem State.storeJournal_leaves (s : State) (a : WordAddr) (d : Word) (b : Bool) :
    (s.storeJournal a d b).supply = s.supply ∧ (s.storeJournal a d b).watching = s.watching ∧
    (s.storeJournal a d b).slots = s.slots ∧ (∀ m : SlotNo, (s.storeJournal a d b).slot m = s.slot m) ∧
    (s.storeJournal a d b).notices = s.notices ∧ (s.storeJournal a d b).lanes = s.lanes ∧
    (∀ m : LaneNo, (s.storeJournal a d b).lane m = s.lane m) ∧ (s.storeJournal a d b).links = s.links ∧
    (∀ m : SlotNo, (s.storeJournal a d b).link m = s.link m) ∧ (s.storeJournal a d b).circuits = s.circuits ∧
    (∀ m : EntryNo, (s.storeJournal a d b).entry m = s.entry m) ∧ (s.storeJournal a d b).restore = s.restore ∧
    (s.storeJournal a d b).judging = s.judging ∧ (s.storeJournal a d b).ctrlReset = s.ctrlReset ∧
    (s.storeJournal a d b).por = s.por ∧ (s.storeJournal a d b).pending = s.pending ∧
    (s.storeJournal a d b).path.area = s.path.area ∧ (s.storeJournal a d b).path.captured = s.path.captured := by
  unfold State.storeJournal
  dsimp only
  (repeat' split) <;> simp

@[simp] theorem State.takeTail_leaves (s : State) (v : BitVec 8) :
    (s.takeTail v).supply = s.supply ∧ (s.takeTail v).watching = s.watching ∧ (s.takeTail v).slots = s.slots ∧
    (∀ m : SlotNo, (s.takeTail v).slot m = s.slot m) ∧ (s.takeTail v).notices = s.notices ∧
    (s.takeTail v).lanes = s.lanes ∧ (∀ m : LaneNo, (s.takeTail v).lane m = s.lane m) ∧
    (s.takeTail v).links = s.links ∧ (∀ m : SlotNo, (s.takeTail v).link m = s.link m) ∧
    (s.takeTail v).circuits = s.circuits ∧ (∀ m : EntryNo, (s.takeTail v).entry m = s.entry m) ∧
    (s.takeTail v).restore = s.restore ∧ (s.takeTail v).path = s.path ∧
    (∀ m : SlotNo, (s.takeTail v).sl0 m = s.sl0 m) ∧ (s.takeTail v).judging = s.judging ∧
    (s.takeTail v).memory = s.memory ∧ (s.takeTail v).ctrlReset = s.ctrlReset ∧ (s.takeTail v).por = s.por ∧
    (s.takeTail v).pending = s.pending := by
  unfold State.takeTail
  (repeat' split) <;> simp

@[simp] theorem State.enableAttention_leaves (s : State) (b : Bool) :
    (s.enableAttention b).supply = s.supply ∧ (s.enableAttention b).watching = s.watching ∧
    (s.enableAttention b).slots = s.slots ∧ (∀ m : SlotNo, (s.enableAttention b).slot m = s.slot m) ∧
    (s.enableAttention b).notices = s.notices ∧ (s.enableAttention b).lanes = s.lanes ∧
    (∀ m : LaneNo, (s.enableAttention b).lane m = s.lane m) ∧ (s.enableAttention b).links = s.links ∧
    (∀ m : SlotNo, (s.enableAttention b).link m = s.link m) ∧ (s.enableAttention b).circuits = s.circuits ∧
    (∀ m : EntryNo, (s.enableAttention b).entry m = s.entry m) ∧ (s.enableAttention b).restore = s.restore ∧
    (s.enableAttention b).judging = s.judging ∧ (s.enableAttention b).memory = s.memory ∧
    (s.enableAttention b).ctrlReset = s.ctrlReset ∧ (s.enableAttention b).por = s.por ∧
    (s.enableAttention b).pending = s.pending ∧ (s.enableAttention b).path.area = s.path.area ∧
    (s.enableAttention b).path.ctrl = s.path.ctrl ∧ (s.enableAttention b).path.store = s.path.store ∧
    (s.enableAttention b).path.marker = s.path.marker ∧ (s.enableAttention b).path.answer = s.path.answer := by
  unfold State.enableAttention
  simp

@[simp] theorem State.openPlain_leaves (s : State) (c : PlainCycle) :
    (s.openPlain c).supply = s.supply ∧ (s.openPlain c).watching = s.watching ∧ (s.openPlain c).slots = s.slots ∧
    (∀ m : SlotNo, (s.openPlain c).slot m = s.slot m) ∧ (s.openPlain c).notices = s.notices ∧
    (s.openPlain c).lanes = s.lanes ∧ (∀ m : LaneNo, (s.openPlain c).lane m = s.lane m) ∧
    (s.openPlain c).links = s.links ∧ (∀ m : SlotNo, (s.openPlain c).link m = s.link m) ∧
    (s.openPlain c).circuits = s.circuits ∧ (∀ m : EntryNo, (s.openPlain c).entry m = s.entry m) ∧
    (s.openPlain c).restore = s.restore ∧ (s.openPlain c).journal = s.journal ∧
    (s.openPlain c).judging = s.judging ∧ (s.openPlain c).memory = s.memory ∧
    (s.openPlain c).ctrlReset = s.ctrlReset ∧ (s.openPlain c).por = s.por ∧ (s.openPlain c).pending = s.pending ∧
    (s.openPlain c).path.area = s.path.area ∧ (s.openPlain c).path.captured = s.path.captured := by
  unfold State.openPlain
  simp

@[simp] theorem State.serveController_leaves (s : State) (c : PlainCycle) :
    (s.serveController c).supply = s.supply ∧ (s.serveController c).watching = s.watching ∧
    (s.serveController c).slots = s.slots ∧ (∀ m : SlotNo, (s.serveController c).slot m = s.slot m) ∧
    (s.serveController c).notices = s.notices ∧ (s.serveController c).lanes = s.lanes ∧
    (∀ m : LaneNo, (s.serveController c).lane m = s.lane m) ∧ (s.serveController c).links = s.links ∧
    (∀ m : SlotNo, (s.serveController c).link m = s.link m) ∧ (s.serveController c).circuits = s.circuits ∧
    (∀ m : EntryNo, (s.serveController c).entry m = s.entry m) ∧ (s.serveController c).restore = s.restore ∧
    (s.serveController c).journal = s.journal ∧ (s.serveController c).judging = s.judging ∧
    (s.serveController c).memory = s.memory ∧ (s.serveController c).ctrlReset = s.ctrlReset ∧
    (s.serveController c).por = s.por ∧ (s.serveController c).pending = s.pending ∧
    (s.serveController c).path.area = s.path.area ∧ (s.serveController c).path.captured = s.path.captured := by
  unfold State.serveController
  simp

@[simp] theorem State.serveJournal_leaves (s : State) (a : WordAddr) (d : Word) :
    (s.serveJournal a d).supply = s.supply ∧ (s.serveJournal a d).watching = s.watching ∧
    (s.serveJournal a d).slots = s.slots ∧ (∀ m : SlotNo, (s.serveJournal a d).slot m = s.slot m) ∧
    (s.serveJournal a d).notices = s.notices ∧ (s.serveJournal a d).lanes = s.lanes ∧
    (∀ m : LaneNo, (s.serveJournal a d).lane m = s.lane m) ∧ (s.serveJournal a d).links = s.links ∧
    (∀ m : SlotNo, (s.serveJournal a d).link m = s.link m) ∧ (s.serveJournal a d).circuits = s.circuits ∧
    (∀ m : EntryNo, (s.serveJournal a d).entry m = s.entry m) ∧ (s.serveJournal a d).restore = s.restore ∧
    (s.serveJournal a d).journal = s.journal ∧ (s.serveJournal a d).judging = s.judging ∧
    (s.serveJournal a d).memory = s.memory ∧ (s.serveJournal a d).ctrlReset = s.ctrlReset ∧
    (s.serveJournal a d).por = s.por ∧ (s.serveJournal a d).pending = s.pending ∧
    (s.serveJournal a d).path.area = s.path.area ∧ (s.serveJournal a d).path.captured = s.path.captured := by
  unfold State.serveJournal
  simp

@[simp] theorem State.arbitrate_leaves (s : State) :
    (s.arbitrate).supply = s.supply ∧ (s.arbitrate).watching = s.watching ∧ (s.arbitrate).slots = s.slots ∧
    (∀ m : SlotNo, (s.arbitrate).slot m = s.slot m) ∧ (s.arbitrate).notices = s.notices ∧
    (s.arbitrate).lanes = s.lanes ∧ (∀ m : LaneNo, (s.arbitrate).lane m = s.lane m) ∧
    (s.arbitrate).links = s.links ∧ (∀ m : SlotNo, (s.arbitrate).link m = s.link m) ∧
    (s.arbitrate).circuits = s.circuits ∧ (∀ m : EntryNo, (s.arbitrate).entry m = s.entry m) ∧
    (s.arbitrate).restore = s.restore ∧ (s.arbitrate).journal = s.journal ∧ (s.arbitrate).judging = s.judging ∧
    (s.arbitrate).memory = s.memory ∧ (s.arbitrate).ctrlReset = s.ctrlReset ∧ (s.arbitrate).por = s.por ∧
    (s.arbitrate).pending = s.pending ∧ (s.arbitrate).path.area = s.path.area ∧
    (s.arbitrate).path.captured = s.path.captured := by
  unfold State.arbitrate
  (repeat' split) <;> simp

@[simp] theorem State.completePlain_leaves (s : State) (c : PlainCycle) (b : Bool) (w : Word) :
    (s.completePlain c b w).supply = s.supply ∧ (s.completePlain c b w).watching = s.watching ∧
    (s.completePlain c b w).slots = s.slots ∧ (∀ m : SlotNo, (s.completePlain c b w).slot m = s.slot m) ∧
    (s.completePlain c b w).notices = s.notices ∧ (s.completePlain c b w).lanes = s.lanes ∧
    (∀ m : LaneNo, (s.completePlain c b w).lane m = s.lane m) ∧ (s.completePlain c b w).links = s.links ∧
    (∀ m : SlotNo, (s.completePlain c b w).link m = s.link m) ∧ (s.completePlain c b w).circuits = s.circuits ∧
    (∀ m : EntryNo, (s.completePlain c b w).entry m = s.entry m) ∧ (s.completePlain c b w).restore = s.restore ∧
    (s.completePlain c b w).journal = s.journal ∧ (s.completePlain c b w).judging = s.judging ∧
    (s.completePlain c b w).ctrlReset = s.ctrlReset ∧ (s.completePlain c b w).por = s.por ∧
    (s.completePlain c b w).pending = s.pending ∧ (s.completePlain c b w).path.area = s.path.area ∧
    (s.completePlain c b w).path.captured = s.path.captured := by
  unfold State.completePlain
  dsimp only
  (repeat' split) <;> simp

@[simp] theorem State.shelfRequest_leaves (s : State) (b : Byte) :
    (s.shelfRequest b).watching = s.watching ∧ (s.shelfRequest b).lanes = s.lanes ∧
    (∀ m : LaneNo, (s.shelfRequest b).lane m = s.lane m) ∧ (s.shelfRequest b).path = s.path ∧
    (∀ m : SlotNo, (s.shelfRequest b).sl0 m = s.sl0 m) ∧ (s.shelfRequest b).judging = s.judging ∧
    (s.shelfRequest b).memory = s.memory ∧ (s.shelfRequest b).ctrlReset = s.ctrlReset ∧
    (s.shelfRequest b).por = s.por ∧ (s.shelfRequest b).pending = s.pending ∧
    (s.shelfRequest b).restore.phase = s.restore.phase ∧
    (s.shelfRequest b).restore.lowestClosed = s.restore.lowestClosed ∧
    (s.shelfRequest b).restore.timer = s.restore.timer ∧
    (s.shelfRequest b).circuits.admissions = s.circuits.admissions := by
  unfold State.shelfRequest
  (repeat' split) <;> simp

@[simp] theorem State.writeCw0_leaves (s : State) (d : Word) (b : ByteEnables) :
    (s.writeCw0 d b).watching = s.watching ∧ (s.writeCw0 d b).lanes = s.lanes ∧
    (∀ m : LaneNo, (s.writeCw0 d b).lane m = s.lane m) ∧ (s.writeCw0 d b).judging = s.judging ∧
    (s.writeCw0 d b).memory = s.memory ∧ (s.writeCw0 d b).ctrlReset = s.ctrlReset ∧ (s.writeCw0 d b).por = s.por ∧
    (s.writeCw0 d b).pending = s.pending ∧ (s.writeCw0 d b).restore.phase = s.restore.phase ∧
    (s.writeCw0 d b).restore.lowestClosed = s.restore.lowestClosed ∧
    (s.writeCw0 d b).restore.timer = s.restore.timer ∧
    (s.writeCw0 d b).circuits.admissions = s.circuits.admissions ∧ (s.writeCw0 d b).path.area = s.path.area ∧
    (s.writeCw0 d b).path.ctrl = s.path.ctrl ∧ (s.writeCw0 d b).path.store = s.path.store ∧
    (s.writeCw0 d b).path.marker = s.path.marker ∧ (s.writeCw0 d b).path.answer = s.path.answer := by
  unfold State.writeCw0
  dsimp only
  (repeat' split) <;> simp

@[simp] theorem State.writeCw1_leaves (s : State) (d : Word) (b : ByteEnables) :
    (s.writeCw1 d b).supply = s.supply ∧ (s.writeCw1 d b).watching = s.watching ∧
    (s.writeCw1 d b).slots = s.slots ∧ (∀ m : SlotNo, (s.writeCw1 d b).slot m = s.slot m) ∧
    (s.writeCw1 d b).notices = s.notices ∧ (s.writeCw1 d b).lanes = s.lanes ∧
    (∀ m : LaneNo, (s.writeCw1 d b).lane m = s.lane m) ∧ (s.writeCw1 d b).links = s.links ∧
    (∀ m : SlotNo, (s.writeCw1 d b).link m = s.link m) ∧ (s.writeCw1 d b).circuits = s.circuits ∧
    (∀ m : EntryNo, (s.writeCw1 d b).entry m = s.entry m) ∧ (s.writeCw1 d b).restore = s.restore ∧
    (s.writeCw1 d b).journal = s.journal ∧ (s.writeCw1 d b).judging = s.judging ∧
    (s.writeCw1 d b).memory = s.memory ∧ (s.writeCw1 d b).ctrlReset = s.ctrlReset ∧ (s.writeCw1 d b).por = s.por ∧
    (s.writeCw1 d b).pending = s.pending ∧ (s.writeCw1 d b).path.area = s.path.area ∧
    (s.writeCw1 d b).path.ctrl = s.path.ctrl ∧ (s.writeCw1 d b).path.store = s.path.store ∧
    (s.writeCw1 d b).path.marker = s.path.marker ∧ (s.writeCw1 d b).path.answer = s.path.answer := by
  unfold State.writeCw1
  simp

@[simp] theorem State.writeCw2_leaves (s : State) (d : Word) (b : ByteEnables) :
    (s.writeCw2 d b).supply = s.supply ∧ (s.writeCw2 d b).watching = s.watching ∧
    (s.writeCw2 d b).slots = s.slots ∧ (∀ m : SlotNo, (s.writeCw2 d b).slot m = s.slot m) ∧
    (s.writeCw2 d b).notices = s.notices ∧ (s.writeCw2 d b).lanes = s.lanes ∧
    (∀ m : LaneNo, (s.writeCw2 d b).lane m = s.lane m) ∧ (s.writeCw2 d b).links = s.links ∧
    (∀ m : SlotNo, (s.writeCw2 d b).link m = s.link m) ∧ (s.writeCw2 d b).circuits = s.circuits ∧
    (∀ m : EntryNo, (s.writeCw2 d b).entry m = s.entry m) ∧ (s.writeCw2 d b).restore = s.restore ∧
    (s.writeCw2 d b).journal = s.journal ∧ (s.writeCw2 d b).judging = s.judging ∧
    (s.writeCw2 d b).memory = s.memory ∧ (s.writeCw2 d b).ctrlReset = s.ctrlReset ∧ (s.writeCw2 d b).por = s.por ∧
    (s.writeCw2 d b).pending = s.pending ∧ (s.writeCw2 d b).path.area = s.path.area ∧
    (s.writeCw2 d b).path.ctrl = s.path.ctrl ∧ (s.writeCw2 d b).path.store = s.path.store ∧
    (s.writeCw2 d b).path.marker = s.path.marker ∧ (s.writeCw2 d b).path.answer = s.path.answer := by
  unfold State.writeCw2
  simp

@[simp] theorem State.writeCw3_leaves (s : State) (d : Word) (b : ByteEnables) :
    (s.writeCw3 d b).supply = s.supply ∧ (s.writeCw3 d b).watching = s.watching ∧
    (s.writeCw3 d b).slots = s.slots ∧ (∀ m : SlotNo, (s.writeCw3 d b).slot m = s.slot m) ∧
    (s.writeCw3 d b).notices = s.notices ∧ (s.writeCw3 d b).lanes = s.lanes ∧
    (∀ m : LaneNo, (s.writeCw3 d b).lane m = s.lane m) ∧ (s.writeCw3 d b).links = s.links ∧
    (∀ m : SlotNo, (s.writeCw3 d b).link m = s.link m) ∧ (s.writeCw3 d b).circuits = s.circuits ∧
    (∀ m : EntryNo, (s.writeCw3 d b).entry m = s.entry m) ∧ (s.writeCw3 d b).restore = s.restore ∧
    (s.writeCw3 d b).journal = s.journal ∧ (s.writeCw3 d b).judging = s.judging ∧
    (s.writeCw3 d b).memory = s.memory ∧ (s.writeCw3 d b).ctrlReset = s.ctrlReset ∧ (s.writeCw3 d b).por = s.por ∧
    (s.writeCw3 d b).pending = s.pending ∧ (s.writeCw3 d b).path.area = s.path.area ∧
    (s.writeCw3 d b).path.ctrl = s.path.ctrl ∧ (s.writeCw3 d b).path.store = s.path.store ∧
    (s.writeCw3 d b).path.marker = s.path.marker ∧ (s.writeCw3 d b).path.answer = s.path.answer := by
  unfold State.writeCw3
  simp

@[simp] theorem State.writeSl0_leaves (s : State) (n : SlotNo) (d : Word) (b : ByteEnables) :
    (s.writeSl0 n d b).supply = s.supply ∧ (s.writeSl0 n d b).watching = s.watching ∧
    (s.writeSl0 n d b).slots = s.slots ∧ (∀ m : SlotNo, (s.writeSl0 n d b).slot m = s.slot m) ∧
    (s.writeSl0 n d b).notices = s.notices ∧ (s.writeSl0 n d b).lanes = s.lanes ∧
    (∀ m : LaneNo, (s.writeSl0 n d b).lane m = s.lane m) ∧ (s.writeSl0 n d b).links = s.links ∧
    (∀ m : SlotNo, (s.writeSl0 n d b).link m = s.link m) ∧ (s.writeSl0 n d b).circuits = s.circuits ∧
    (∀ m : EntryNo, (s.writeSl0 n d b).entry m = s.entry m) ∧ (s.writeSl0 n d b).restore = s.restore ∧
    (s.writeSl0 n d b).journal = s.journal ∧ (s.writeSl0 n d b).judging = s.judging ∧
    (s.writeSl0 n d b).memory = s.memory ∧ (s.writeSl0 n d b).ctrlReset = s.ctrlReset ∧
    (s.writeSl0 n d b).por = s.por ∧ (s.writeSl0 n d b).pending = s.pending ∧
    (s.writeSl0 n d b).path.area = s.path.area ∧ (s.writeSl0 n d b).path.ctrl = s.path.ctrl ∧
    (s.writeSl0 n d b).path.store = s.path.store ∧ (s.writeSl0 n d b).path.marker = s.path.marker ∧
    (s.writeSl0 n d b).path.answer = s.path.answer := by
  unfold State.writeSl0
  simp

@[simp] theorem State.takeWindow_leaves (s : State) (n : SlotNo) (x : RegisterOp) (k : BitVec 10) :
    (s.takeWindow n x k).supply = s.supply ∧ (s.takeWindow n x k).watching = s.watching ∧
    (s.takeWindow n x k).slots = s.slots ∧ (∀ m : SlotNo, (s.takeWindow n x k).slot m = s.slot m) ∧
    (s.takeWindow n x k).notices = s.notices ∧ (s.takeWindow n x k).lanes = s.lanes ∧
    (∀ m : LaneNo, (s.takeWindow n x k).lane m = s.lane m) ∧ (s.takeWindow n x k).circuits = s.circuits ∧
    (∀ m : EntryNo, (s.takeWindow n x k).entry m = s.entry m) ∧ (s.takeWindow n x k).restore = s.restore ∧
    (s.takeWindow n x k).journal = s.journal ∧ (s.takeWindow n x k).judging = s.judging ∧
    (s.takeWindow n x k).memory = s.memory ∧ (s.takeWindow n x k).ctrlReset = s.ctrlReset ∧
    (s.takeWindow n x k).por = s.por ∧ (s.takeWindow n x k).pending = s.pending ∧
    (s.takeWindow n x k).path.area = s.path.area ∧ (s.takeWindow n x k).path.captured = s.path.captured := by
  unfold State.takeWindow
  simp

@[simp] theorem State.offerWindow_leaves (s : State) (n : SlotNo) (x : RegisterOp) (k : BitVec 10) :
    (s.offerWindow n x k).supply = s.supply ∧ (s.offerWindow n x k).watching = s.watching ∧
    (s.offerWindow n x k).slots = s.slots ∧ (∀ m : SlotNo, (s.offerWindow n x k).slot m = s.slot m) ∧
    (s.offerWindow n x k).notices = s.notices ∧ (s.offerWindow n x k).lanes = s.lanes ∧
    (∀ m : LaneNo, (s.offerWindow n x k).lane m = s.lane m) ∧ (s.offerWindow n x k).circuits = s.circuits ∧
    (∀ m : EntryNo, (s.offerWindow n x k).entry m = s.entry m) ∧ (s.offerWindow n x k).restore = s.restore ∧
    (s.offerWindow n x k).journal = s.journal ∧ (s.offerWindow n x k).judging = s.judging ∧
    (s.offerWindow n x k).memory = s.memory ∧ (s.offerWindow n x k).ctrlReset = s.ctrlReset ∧
    (s.offerWindow n x k).por = s.por ∧ (s.offerWindow n x k).pending = s.pending ∧
    (s.offerWindow n x k).path.area = s.path.area ∧ (s.offerWindow n x k).path.captured = s.path.captured := by
  unfold State.offerWindow
  (repeat' split) <;> simp

@[simp] theorem State.deferWindow_leaves (s : State) (n : SlotNo) (x : RegisterOp) (k : BitVec 10) :
    (s.deferWindow n x k).supply = s.supply ∧ (s.deferWindow n x k).watching = s.watching ∧
    (s.deferWindow n x k).slots = s.slots ∧ (∀ m : SlotNo, (s.deferWindow n x k).slot m = s.slot m) ∧
    (s.deferWindow n x k).notices = s.notices ∧ (s.deferWindow n x k).lanes = s.lanes ∧
    (∀ m : LaneNo, (s.deferWindow n x k).lane m = s.lane m) ∧ (s.deferWindow n x k).links = s.links ∧
    (∀ m : SlotNo, (s.deferWindow n x k).link m = s.link m) ∧ (s.deferWindow n x k).circuits = s.circuits ∧
    (∀ m : EntryNo, (s.deferWindow n x k).entry m = s.entry m) ∧ (s.deferWindow n x k).restore = s.restore ∧
    (s.deferWindow n x k).journal = s.journal ∧ (s.deferWindow n x k).judging = s.judging ∧
    (s.deferWindow n x k).memory = s.memory ∧ (s.deferWindow n x k).ctrlReset = s.ctrlReset ∧
    (s.deferWindow n x k).por = s.por ∧ (s.deferWindow n x k).pending = s.pending ∧
    (s.deferWindow n x k).path.area = s.path.area ∧ (s.deferWindow n x k).path.captured = s.path.captured := by
  unfold State.deferWindow
  simp

@[simp] theorem State.accessWindow_leaves (s : State) (n : SlotNo) (x : RegisterOp) (k : BitVec 10) :
    (s.accessWindow n x k).supply = s.supply ∧ (s.accessWindow n x k).watching = s.watching ∧
    (s.accessWindow n x k).slots = s.slots ∧ (∀ m : SlotNo, (s.accessWindow n x k).slot m = s.slot m) ∧
    (s.accessWindow n x k).notices = s.notices ∧ (s.accessWindow n x k).lanes = s.lanes ∧
    (∀ m : LaneNo, (s.accessWindow n x k).lane m = s.lane m) ∧ (s.accessWindow n x k).circuits = s.circuits ∧
    (∀ m : EntryNo, (s.accessWindow n x k).entry m = s.entry m) ∧ (s.accessWindow n x k).restore = s.restore ∧
    (s.accessWindow n x k).journal = s.journal ∧ (s.accessWindow n x k).judging = s.judging ∧
    (s.accessWindow n x k).memory = s.memory ∧ (s.accessWindow n x k).ctrlReset = s.ctrlReset ∧
    (s.accessWindow n x k).por = s.por ∧ (s.accessWindow n x k).pending = s.pending ∧
    (s.accessWindow n x k).path.area = s.path.area ∧ (s.accessWindow n x k).path.captured = s.path.captured := by
  unfold State.accessWindow
  (repeat' split) <;> simp

@[simp] theorem State.dropWindow_leaves (s : State) (n : SlotNo) :
    (s.dropWindow n).supply = s.supply ∧ (s.dropWindow n).watching = s.watching ∧
    (s.dropWindow n).slots = s.slots ∧ (∀ m : SlotNo, (s.dropWindow n).slot m = s.slot m) ∧
    (s.dropWindow n).notices = s.notices ∧ (s.dropWindow n).lanes = s.lanes ∧
    (∀ m : LaneNo, (s.dropWindow n).lane m = s.lane m) ∧ (s.dropWindow n).circuits = s.circuits ∧
    (∀ m : EntryNo, (s.dropWindow n).entry m = s.entry m) ∧ (s.dropWindow n).restore = s.restore ∧
    (s.dropWindow n).journal = s.journal ∧ (s.dropWindow n).judging = s.judging ∧
    (s.dropWindow n).memory = s.memory ∧ (s.dropWindow n).ctrlReset = s.ctrlReset ∧ (s.dropWindow n).por = s.por ∧
    (s.dropWindow n).pending = s.pending ∧ (s.dropWindow n).path.area = s.path.area ∧
    (s.dropWindow n).path.captured = s.path.captured := by
  unfold State.dropWindow
  simp

@[simp] theorem State.endWindow_leaves (s : State) (n : SlotNo) (w : WindowRequest) (a : CycleAnswer) :
    (s.endWindow n w a).supply = s.supply ∧ (s.endWindow n w a).watching = s.watching ∧
    (s.endWindow n w a).slots = s.slots ∧ (∀ m : SlotNo, (s.endWindow n w a).slot m = s.slot m) ∧
    (s.endWindow n w a).notices = s.notices ∧ (s.endWindow n w a).lanes = s.lanes ∧
    (∀ m : LaneNo, (s.endWindow n w a).lane m = s.lane m) ∧ (s.endWindow n w a).circuits = s.circuits ∧
    (∀ m : EntryNo, (s.endWindow n w a).entry m = s.entry m) ∧ (s.endWindow n w a).restore = s.restore ∧
    (s.endWindow n w a).journal = s.journal ∧ (s.endWindow n w a).judging = s.judging ∧
    (s.endWindow n w a).memory = s.memory ∧ (s.endWindow n w a).ctrlReset = s.ctrlReset ∧
    (s.endWindow n w a).por = s.por ∧ (s.endWindow n w a).pending = s.pending ∧
    (s.endWindow n w a).path.area = s.path.area ∧ (s.endWindow n w a).path.captured = s.path.captured := by
  unfold State.endWindow
  (repeat' split) <;> simp

@[simp] theorem State.raiseWindowFault_leaves (s : State) (n : SlotNo) (w : WindowRequest) (r : BitVec 8) :
    (s.raiseWindowFault n w r).supply = s.supply ∧ (s.raiseWindowFault n w r).watching = s.watching ∧
    (s.raiseWindowFault n w r).slots = s.slots ∧ (∀ m : SlotNo, (s.raiseWindowFault n w r).slot m = s.slot m) ∧
    (s.raiseWindowFault n w r).notices = s.notices ∧ (s.raiseWindowFault n w r).lanes = s.lanes ∧
    (∀ m : LaneNo, (s.raiseWindowFault n w r).lane m = s.lane m) ∧ (s.raiseWindowFault n w r).links = s.links ∧
    (∀ m : SlotNo, (s.raiseWindowFault n w r).link m = s.link m) ∧
    (s.raiseWindowFault n w r).circuits = s.circuits ∧
    (∀ m : EntryNo, (s.raiseWindowFault n w r).entry m = s.entry m) ∧
    (s.raiseWindowFault n w r).restore = s.restore ∧ (s.raiseWindowFault n w r).path = s.path ∧
    (∀ m : SlotNo, (s.raiseWindowFault n w r).sl0 m = s.sl0 m) ∧ (s.raiseWindowFault n w r).judging = s.judging ∧
    (s.raiseWindowFault n w r).memory = s.memory ∧ (s.raiseWindowFault n w r).ctrlReset = s.ctrlReset ∧
    (s.raiseWindowFault n w r).por = s.por ∧ (s.raiseWindowFault n w r).pending = s.pending := by
  unfold State.raiseWindowFault
  (repeat' split) <;> simp

@[simp] theorem State.failWindow_leaves (s : State) (n : SlotNo) (w : WindowRequest) (r : BitVec 8) :
    (s.failWindow n w r).supply = s.supply ∧ (s.failWindow n w r).watching = s.watching ∧
    (s.failWindow n w r).slots = s.slots ∧ (∀ m : SlotNo, (s.failWindow n w r).slot m = s.slot m) ∧
    (s.failWindow n w r).notices = s.notices ∧ (s.failWindow n w r).lanes = s.lanes ∧
    (∀ m : LaneNo, (s.failWindow n w r).lane m = s.lane m) ∧ (s.failWindow n w r).circuits = s.circuits ∧
    (∀ m : EntryNo, (s.failWindow n w r).entry m = s.entry m) ∧ (s.failWindow n w r).restore = s.restore ∧
    (s.failWindow n w r).judging = s.judging ∧ (s.failWindow n w r).memory = s.memory ∧
    (s.failWindow n w r).ctrlReset = s.ctrlReset ∧ (s.failWindow n w r).por = s.por ∧
    (s.failWindow n w r).pending = s.pending ∧ (s.failWindow n w r).path.area = s.path.area ∧
    (s.failWindow n w r).path.captured = s.path.captured := by
  unfold State.failWindow
  simp

@[simp] theorem State.departWindow_leaves (s : State) (w : Option WindowRequest) :
    (s.departWindow w).supply = s.supply ∧ (s.departWindow w).watching = s.watching ∧
    (s.departWindow w).slots = s.slots ∧ (∀ m : SlotNo, (s.departWindow w).slot m = s.slot m) ∧
    (s.departWindow w).notices = s.notices ∧ (s.departWindow w).lanes = s.lanes ∧
    (∀ m : LaneNo, (s.departWindow w).lane m = s.lane m) ∧ (s.departWindow w).links = s.links ∧
    (∀ m : SlotNo, (s.departWindow w).link m = s.link m) ∧ (s.departWindow w).circuits = s.circuits ∧
    (∀ m : EntryNo, (s.departWindow w).entry m = s.entry m) ∧ (s.departWindow w).restore = s.restore ∧
    (s.departWindow w).journal = s.journal ∧ (s.departWindow w).judging = s.judging ∧
    (s.departWindow w).memory = s.memory ∧ (s.departWindow w).ctrlReset = s.ctrlReset ∧
    (s.departWindow w).por = s.por ∧ (s.departWindow w).pending = s.pending ∧
    (s.departWindow w).path.area = s.path.area ∧ (s.departWindow w).path.captured = s.path.captured := by
  unfold State.departWindow
  dsimp only
  (repeat' split) <;> simp

@[simp] theorem State.departLink_leaves (s : State) (n : SlotNo) :
    (s.departLink n).supply = s.supply ∧ (s.departLink n).watching = s.watching ∧
    (s.departLink n).slots = s.slots ∧ (∀ m : SlotNo, (s.departLink n).slot m = s.slot m) ∧
    (s.departLink n).lanes = s.lanes ∧ (∀ m : LaneNo, (s.departLink n).lane m = s.lane m) ∧
    (s.departLink n).journal = s.journal ∧ (s.departLink n).judging = s.judging ∧
    (s.departLink n).memory = s.memory ∧ (s.departLink n).ctrlReset = s.ctrlReset ∧ (s.departLink n).por = s.por ∧
    (s.departLink n).pending = s.pending ∧ (s.departLink n).restore.phase = s.restore.phase ∧
    (s.departLink n).restore.lowestClosed = s.restore.lowestClosed ∧
    (s.departLink n).restore.timer = s.restore.timer ∧
    (s.departLink n).circuits.admissions = s.circuits.admissions ∧ (s.departLink n).path.area = s.path.area ∧
    (s.departLink n).path.captured = s.path.captured ∧ (s.departLink n).notices.slots = s.notices.slots ∧
    (s.departLink n).notices.circuits = s.notices.circuits ∧
    (s.departLink n).notices.restore = s.notices.restore ∧
    (s.departLink n).notices.departCircuits = s.notices.departCircuits := by
  have h0 := fun (l : List _) (s : State) => foldl_leaves (fun t : State => t.supply)
      (f := (State.handBack n)) (fun _ _ => by simp) l s
  have h1 := fun (l : List _) (s : State) => foldl_leaves (fun t : State => t.watching)
      (f := (State.handBack n)) (fun _ _ => by simp) l s
  have h2 := fun (l : List _) (s : State) => foldl_leaves (fun t : State => t.slots)
      (f := (State.handBack n)) (fun _ _ => by simp) l s
  have h3 := fun (l : List _) (s : State) (m : _) => foldl_leaves (fun t : State => t.slot m)
      (f := (State.handBack n)) (fun _ _ => by simp) l s
  have h4 := fun (l : List _) (s : State) => foldl_leaves (fun t : State => t.lanes)
      (f := (State.handBack n)) (fun _ _ => by simp) l s
  have h5 := fun (l : List _) (s : State) (m : _) => foldl_leaves (fun t : State => t.lane m)
      (f := (State.handBack n)) (fun _ _ => by simp) l s
  have h6 := fun (l : List _) (s : State) => foldl_leaves (fun t : State => t.journal)
      (f := (State.handBack n)) (fun _ _ => by simp) l s
  have h7 := fun (l : List _) (s : State) => foldl_leaves (fun t : State => t.judging)
      (f := (State.handBack n)) (fun _ _ => by simp) l s
  have h8 := fun (l : List _) (s : State) => foldl_leaves (fun t : State => t.memory)
      (f := (State.handBack n)) (fun _ _ => by simp) l s
  have h9 := fun (l : List _) (s : State) => foldl_leaves (fun t : State => t.ctrlReset)
      (f := (State.handBack n)) (fun _ _ => by simp) l s
  have h10 := fun (l : List _) (s : State) => foldl_leaves (fun t : State => t.por)
      (f := (State.handBack n)) (fun _ _ => by simp) l s
  have h11 := fun (l : List _) (s : State) => foldl_leaves (fun t : State => t.pending)
      (f := (State.handBack n)) (fun _ _ => by simp) l s
  have h12 := fun (l : List _) (s : State) => foldl_leaves (fun t : State => t.restore.phase)
      (f := (State.handBack n)) (fun _ _ => by simp) l s
  have h13 := fun (l : List _) (s : State) => foldl_leaves (fun t : State => t.restore.lowestClosed)
      (f := (State.handBack n)) (fun _ _ => by simp) l s
  have h14 := fun (l : List _) (s : State) => foldl_leaves (fun t : State => t.restore.timer)
      (f := (State.handBack n)) (fun _ _ => by simp) l s
  have h15 := fun (l : List _) (s : State) => foldl_leaves (fun t : State => t.circuits.admissions)
      (f := (State.handBack n)) (fun _ _ => by simp) l s
  have h16 := fun (l : List _) (s : State) => foldl_leaves (fun t : State => t.path.area)
      (f := (State.handBack n)) (fun _ _ => by simp) l s
  have h17 := fun (l : List _) (s : State) => foldl_leaves (fun t : State => t.path.captured)
      (f := (State.handBack n)) (fun _ _ => by simp) l s
  have h18 := fun (l : List _) (s : State) => foldl_leaves (fun t : State => t.notices)
      (f := (State.handBack n)) (fun _ _ => by simp) l s
  unfold State.departLink
  simp [h0, h1, h2, h3, h4, h5, h6, h7, h8, h9, h10, h11, h12, h13, h14, h15, h16, h17, h18]

@[simp] theorem State.finishLink_leaves (s : State) (n : SlotNo) :
    (s.finishLink n).supply = s.supply ∧ (s.finishLink n).watching = s.watching ∧
    (s.finishLink n).slots = s.slots ∧ (∀ m : SlotNo, (s.finishLink n).slot m = s.slot m) ∧
    (s.finishLink n).lanes = s.lanes ∧ (∀ m : LaneNo, (s.finishLink n).lane m = s.lane m) ∧
    (s.finishLink n).journal = s.journal ∧ (s.finishLink n).judging = s.judging ∧
    (s.finishLink n).memory = s.memory ∧ (s.finishLink n).ctrlReset = s.ctrlReset ∧ (s.finishLink n).por = s.por ∧
    (s.finishLink n).pending = s.pending ∧ (s.finishLink n).restore.phase = s.restore.phase ∧
    (s.finishLink n).restore.lowestClosed = s.restore.lowestClosed ∧
    (s.finishLink n).restore.timer = s.restore.timer ∧
    (s.finishLink n).circuits.admissions = s.circuits.admissions ∧ (s.finishLink n).path.area = s.path.area ∧
    (s.finishLink n).path.captured = s.path.captured ∧ (s.finishLink n).notices.slots = s.notices.slots ∧
    (s.finishLink n).notices.circuits = s.notices.circuits ∧
    (s.finishLink n).notices.restore = s.notices.restore ∧
    (s.finishLink n).notices.departCircuits = s.notices.departCircuits := by
  unfold State.finishLink
  (repeat' split) <;> simp

@[simp] theorem State.finishSags_leaves (s : State) :
    s.finishSags.supply = s.supply ∧ s.finishSags.watching = s.watching ∧ s.finishSags.slots = s.slots ∧
    (∀ m : SlotNo, s.finishSags.slot m = s.slot m) ∧ s.finishSags.lanes = s.lanes ∧
    (∀ m : LaneNo, s.finishSags.lane m = s.lane m) ∧ s.finishSags.journal = s.journal ∧ s.finishSags.path = s.path ∧
    (∀ m : SlotNo, s.finishSags.sl0 m = s.sl0 m) ∧ s.finishSags.judging = s.judging ∧ s.finishSags.memory = s.memory ∧
    s.finishSags.ctrlReset = s.ctrlReset ∧ s.finishSags.por = s.por ∧ s.finishSags.pending = s.pending ∧
    s.finishSags.restore.phase = s.restore.phase ∧ s.finishSags.restore.lowestClosed = s.restore.lowestClosed ∧
    s.finishSags.restore.timer = s.restore.timer ∧ s.finishSags.circuits.admissions = s.circuits.admissions ∧
    s.finishSags.notices.slots = s.notices.slots ∧ s.finishSags.notices.restore = s.notices.restore ∧
    s.finishSags.notices.departLink = s.notices.departLink ∧
    s.finishSags.notices.circuits = s.notices.circuits - s.lateSags := by
  have leaves := fun {β : Type} (g : State → β) (h : ∀ s : State, g s.takeSagCircuits = g s) =>
    repeat_leaves g h s.lateSags s
  have lane := fun m => leaves (·.lane m) (by simp)
  have slot := fun m => leaves (·.slot m) (by simp)
  have sl0 := fun m => leaves (·.sl0 m) (by simp)
  have circuits : ∀ k (t : State), (Nat.repeat State.takeSagCircuits k t).notices.circuits = t.notices.circuits - k := by
    intro k t
    induction k with
    | zero => rfl
    | succ k ih =>
      show (Nat.repeat State.takeSagCircuits k t).takeSagCircuits.notices.circuits = _
      rw [(State.takeSagCircuits_leaves _).2.2.2.2.2.2.2.2.2.2.2.2.2.2.2.2.2.2.2.2.2, ih]
      omega
  unfold State.finishSags
  simp [leaves (·.supply) (by simp), leaves (·.watching) (by simp), leaves (·.slots) (by simp),
    leaves (·.lanes) (by simp), leaves (·.journal) (by simp), leaves (·.path) (by simp),
    leaves (·.judging) (by simp), leaves (·.memory) (by simp), leaves (·.ctrlReset) (by simp),
    leaves (·.por) (by simp), leaves (·.pending) (by simp), leaves (·.restore.phase) (by simp),
    leaves (·.restore.lowestClosed) (by simp), leaves (·.restore.timer) (by simp),
    leaves (·.circuits.admissions) (by simp), leaves (·.notices.slots) (by simp),
    leaves (·.notices.restore) (by simp), leaves (·.notices.departLink) (by simp), lane, slot, sl0, circuits]

@[simp] theorem State.finishCircuits_leaves (s : State) (n : SlotNo) :
    (s.finishCircuits n).supply = s.supply ∧ (s.finishCircuits n).watching = s.watching ∧
    (s.finishCircuits n).slots = s.slots ∧ (∀ m : SlotNo, (s.finishCircuits n).slot m = s.slot m) ∧
    (s.finishCircuits n).lanes = s.lanes ∧ (∀ m : LaneNo, (s.finishCircuits n).lane m = s.lane m) ∧
    (s.finishCircuits n).journal = s.journal ∧ (s.finishCircuits n).path = s.path ∧
    (∀ m : SlotNo, (s.finishCircuits n).sl0 m = s.sl0 m) ∧ (s.finishCircuits n).judging = s.judging ∧
    (s.finishCircuits n).memory = s.memory ∧ (s.finishCircuits n).ctrlReset = s.ctrlReset ∧
    (s.finishCircuits n).por = s.por ∧ (s.finishCircuits n).pending = s.pending ∧
    (s.finishCircuits n).restore.phase = s.restore.phase ∧
    (s.finishCircuits n).restore.lowestClosed = s.restore.lowestClosed ∧
    (s.finishCircuits n).restore.timer = s.restore.timer ∧
    (s.finishCircuits n).circuits.admissions = s.circuits.admissions ∧
    (s.finishCircuits n).notices.slots = s.notices.slots ∧
    (s.finishCircuits n).notices.circuits = s.notices.circuits ∧
    (s.finishCircuits n).notices.restore = s.notices.restore ∧
    (s.finishCircuits n).notices.departLink = s.notices.departLink := by
  unfold State.finishCircuits
  (repeat' split) <;> simp

@[simp] theorem State.finishDeparture_leaves (s : State) (n : SlotNo) :
    (s.finishDeparture n).supply = s.supply ∧ (s.finishDeparture n).watching = s.watching ∧
    (s.finishDeparture n).slots = s.slots ∧ (∀ m : SlotNo, (s.finishDeparture n).slot m = s.slot m) ∧
    (s.finishDeparture n).lanes = s.lanes ∧ (∀ m : LaneNo, (s.finishDeparture n).lane m = s.lane m) ∧
    (s.finishDeparture n).journal = s.journal ∧ (s.finishDeparture n).judging = s.judging ∧
    (s.finishDeparture n).memory = s.memory ∧ (s.finishDeparture n).ctrlReset = s.ctrlReset ∧
    (s.finishDeparture n).por = s.por ∧ (s.finishDeparture n).pending = s.pending ∧
    (s.finishDeparture n).restore.phase = s.restore.phase ∧
    (s.finishDeparture n).restore.lowestClosed = s.restore.lowestClosed ∧
    (s.finishDeparture n).restore.timer = s.restore.timer ∧
    (s.finishDeparture n).circuits.admissions = s.circuits.admissions ∧
    (s.finishDeparture n).path.area = s.path.area ∧ (s.finishDeparture n).path.captured = s.path.captured ∧
    (s.finishDeparture n).notices.slots = s.notices.slots ∧
    (s.finishDeparture n).notices.circuits = s.notices.circuits - s.lateSags ∧
    (s.finishDeparture n).notices.restore = s.notices.restore := by
  unfold State.finishDeparture
  simp [State.lateSags]

@[simp] theorem State.grant_leaves (s : State) (n : SlotNo) (l : LaneNo)  :
    (s.grant n l).supply = s.supply ∧ (s.grant n l).watching = s.watching ∧ (s.grant n l).journal = s.journal ∧
    (s.grant n l).judging = s.judging ∧ (s.grant n l).memory = s.memory ∧ (s.grant n l).ctrlReset = s.ctrlReset ∧
    (s.grant n l).por = s.por ∧ (s.grant n l).pending = s.pending ∧
    (s.grant n l).restore.phase = s.restore.phase ∧ (s.grant n l).restore.lowestClosed = s.restore.lowestClosed ∧
    (s.grant n l).restore.timer = s.restore.timer ∧ (s.grant n l).circuits.admissions = s.circuits.admissions ∧
    (s.grant n l).path.area = s.path.area ∧ (s.grant n l).path.captured = s.path.captured ∧
    (s.grant n l).notices.slots = s.notices.slots ∧ (s.grant n l).notices.circuits = s.notices.circuits - s.lateSags ∧
    (s.grant n l).notices.restore = s.notices.restore := by
  unfold State.grant
  simp

@[simp] theorem State.writeControl_leaves (s : State) (k : Fin 5) (d : Word) (b : ByteEnables) :
    (s.writeControl k d b).watching = s.watching ∧ (s.writeControl k d b).lanes = s.lanes ∧
    (∀ m : LaneNo, (s.writeControl k d b).lane m = s.lane m) ∧ (s.writeControl k d b).judging = s.judging ∧
    (s.writeControl k d b).memory = s.memory ∧ (s.writeControl k d b).ctrlReset = s.ctrlReset ∧
    (s.writeControl k d b).por = s.por ∧ (s.writeControl k d b).pending = s.pending ∧
    (s.writeControl k d b).restore.phase = s.restore.phase ∧
    (s.writeControl k d b).restore.lowestClosed = s.restore.lowestClosed ∧
    (s.writeControl k d b).restore.timer = s.restore.timer ∧
    (s.writeControl k d b).circuits.admissions = s.circuits.admissions ∧
    (s.writeControl k d b).path.area = s.path.area ∧ (s.writeControl k d b).path.ctrl = s.path.ctrl ∧
    (s.writeControl k d b).path.store = s.path.store ∧ (s.writeControl k d b).path.marker = s.path.marker ∧
    (s.writeControl k d b).path.answer = s.path.answer := by
  unfold State.writeControl
  (repeat' split) <;> simp

@[simp] theorem State.writeCircuit_leaves (s : State) (i : EntryNo) (d : Word) (b : ByteEnables) :
    (s.writeCircuit i d b).supply = s.supply ∧ (s.writeCircuit i d b).watching = s.watching ∧
    (s.writeCircuit i d b).slots = s.slots ∧ (∀ m : SlotNo, (s.writeCircuit i d b).slot m = s.slot m) ∧
    (s.writeCircuit i d b).lanes = s.lanes ∧ (∀ m : LaneNo, (s.writeCircuit i d b).lane m = s.lane m) ∧
    (s.writeCircuit i d b).journal = s.journal ∧ (s.writeCircuit i d b).path = s.path ∧
    (∀ m : SlotNo, (s.writeCircuit i d b).sl0 m = s.sl0 m) ∧ (s.writeCircuit i d b).judging = s.judging ∧
    (s.writeCircuit i d b).memory = s.memory ∧ (s.writeCircuit i d b).ctrlReset = s.ctrlReset ∧
    (s.writeCircuit i d b).por = s.por ∧ (s.writeCircuit i d b).pending = s.pending ∧
    (s.writeCircuit i d b).restore.phase = s.restore.phase ∧
    (s.writeCircuit i d b).restore.lowestClosed = s.restore.lowestClosed ∧
    (s.writeCircuit i d b).restore.timer = s.restore.timer ∧
    (s.writeCircuit i d b).notices.slots = s.notices.slots ∧
    (s.writeCircuit i d b).notices.circuits = s.notices.circuits ∧
    (s.writeCircuit i d b).notices.restore = s.notices.restore ∧
    (s.writeCircuit i d b).notices.departLink = s.notices.departLink := by
  unfold State.writeCircuit
  (repeat' split) <;> simp

@[simp] theorem State.writeShadow_leaves (s : State) (x : ShadowWord) (d : Word) (b : ByteEnables) :
    (s.writeShadow x d b).watching = s.watching ∧ (s.writeShadow x d b).judging = s.judging ∧
    (s.writeShadow x d b).memory = s.memory ∧ (s.writeShadow x d b).ctrlReset = s.ctrlReset ∧
    (s.writeShadow x d b).por = s.por ∧ (s.writeShadow x d b).pending = s.pending ∧
    (s.writeShadow x d b).restore.phase = s.restore.phase ∧
    (s.writeShadow x d b).restore.lowestClosed = s.restore.lowestClosed ∧
    (s.writeShadow x d b).restore.timer = s.restore.timer ∧ (s.writeShadow x d b).path.area = s.path.area ∧
    (s.writeShadow x d b).path.ctrl = s.path.ctrl ∧ (s.writeShadow x d b).path.store = s.path.store ∧
    (s.writeShadow x d b).path.marker = s.path.marker ∧ (s.writeShadow x d b).path.answer = s.path.answer := by
  unfold State.writeShadow
  (repeat' split) <;> simp

/-! ## Resets -/

@[simp] theorem State.resetController_leaves (s : State) :
    (s.resetController).supply = s.supply ∧ (s.resetController).watching = s.watching ∧
    (s.resetController).slots = s.slots ∧ (∀ m : SlotNo, (s.resetController).slot m = s.slot m) ∧
    (s.resetController).notices = s.notices ∧ (s.resetController).lanes = s.lanes ∧
    (∀ m : LaneNo, (s.resetController).lane m = s.lane m) ∧ (s.resetController).circuits = s.circuits ∧
    (∀ m : EntryNo, (s.resetController).entry m = s.entry m) ∧ (s.resetController).restore = s.restore ∧
    (s.resetController).judging = s.judging ∧ (s.resetController).memory = s.memory ∧
    (s.resetController).por = s.por ∧ (s.resetController).pending = s.pending ∧
    (s.resetController).path.area = s.path.area ∧ (s.resetController).path.captured = s.path.captured := by
  unfold State.resetController
  simp

@[simp] theorem State.assertPowerOn_leaves (s : State) :
    (s.assertPowerOn).supply = s.supply ∧ (s.assertPowerOn).watching = s.watching ∧
    (s.assertPowerOn).notices = s.notices ∧ (s.assertPowerOn).lanes = s.lanes ∧
    (∀ m : LaneNo, (s.assertPowerOn).lane m = s.lane m) ∧ (s.assertPowerOn).circuits = s.circuits ∧
    (∀ m : EntryNo, (s.assertPowerOn).entry m = s.entry m) ∧ (s.assertPowerOn).restore = s.restore ∧
    (s.assertPowerOn).judging = s.judging ∧ (s.assertPowerOn).memory = s.memory ∧
    (s.assertPowerOn).ctrlReset = s.ctrlReset ∧ (s.assertPowerOn).pending = s.pending ∧
    (s.assertPowerOn).path.area = s.path.area ∧ (s.assertPowerOn).path.captured = s.path.captured := by
  unfold State.assertPowerOn
  simp

end Sys2Proof.Machine
end

