-- ==== Sys2Proof/Laws/Ops.lean ====
section
/-! SUPPORT. What taking a command, judging a condition and writing an entry can do: said once, so that no later proof
unfolds them. -/

namespace Sys2Proof.Machine

/-! ## Taking a command -/

/-- An event that stands has its effect while the part runs. -/
theorem State.event_of {s t : State} {due : Bool} (hp : s.por = false) (hd : due = true) :
    s.event due t = .next (s.judged t) := by
  simp [State.event, hp, hd]

/-- An event that does not stand has no effect. -/
theorem State.event_of_not {s t : State} {due : Bool} (hd : due = false) : s.event due t = .next s := by
  simp [State.event, hd]

/-- While power-on reset is asserted no event has an effect. -/
theorem State.event_of_por {s t : State} {due : Bool} (hp : s.por = true) : s.event due t = .next s := by
  simp [State.event, hp]

/-- Every event answers: its effect where it stands while the part runs, and nothing otherwise. -/
theorem State.event_cases {s t u : State} {due : Bool} (h : s.event due t = .next u) :
    (s.por = false ∧ due = true ∧ u = s.judged t) ∨ u = s := by
  unfold State.event at h
  split at h <;> cases h
  · rename_i hc
    simp only [Bool.and_eq_true, Bool.not_eq_true'] at hc
    exact .inl ⟨hc.1, hc.2, rfl⟩
  · exact .inr rfl

theorem State.takesCycle_iff {s : State} : s.takesCycle = true ↔ s.PortFree := by
  simp [State.takesCycle, State.PortFree, and_assoc]

/-- A controller write is taken whole by a free port. -/
theorem State.cycle_of {s t : State} (h : s.PortFree) : s.cycle t = .next (s.judged (t.answered .written)) := by
  simp [State.cycle, State.takesCycle_iff.mpr h]

/-- Every controller write answers: it is taken whole, or not at all. -/
theorem State.cycle_cases {s t u : State} (h : s.cycle t = .next u) :
    (s.PortFree ∧ u = s.judged (t.answered .written)) ∨ u = s := by
  unfold State.cycle at h
  cases h
  split
  · rename_i hc
    exact .inl ⟨State.takesCycle_iff.mp hc, rfl⟩
  · exact .inr rfl

/-! ## The judging moments (R12, R115, R146) -/

/-- What stands of the settled condition's judgement after a command. -/
theorem State.judged_recovery (s t : State) : (s.judged t).judging.recovery =
    (s.supply.shelf == .recover && t.supply.shelf == .recover && (t.judging.recovery || s.inputsChanged t)) := rfl

/-- What a changed floor leaves due after a command. -/
theorem State.judged_floor (s t : State) : (s.judged t).judging.floor =
    ((t.judging.floor || s.floorChanged t) && (s.judgeRecovery t).judgementDue) := rfl

/-- Recovery ends where the settled condition stands judged in RECOVER and holds (R12, R13). -/
theorem State.recovered_iff {s : State} : s.recovered = true ↔
    s.supply.shelf = .recover ∧ s.judging.recovery = true ∧ s.settled = true := by
  simp [State.recovered, and_assoc]

/-! ## Conditions -/

/-- A level stands to be declared at a filter exactly where it has been seen for the filter time (R2). -/
theorem Filter.declares_iff {f : Filter} {clock time : Word} {l : Level} :
    f.declares clock time l = true ↔ f.StandsFor clock time l := by
  unfold Filter.declares Filter.StandsFor Filter.lasted
  cases f.change <;> simp

theorem State.linked_iff {s : State} {n : SlotNo} : s.linked n = true ↔ (s.slot n).state = .linked := by
  simp [State.linked]

theorem slotOf_eq {x : BitVec 5} {n : SlotNo} : slotOf x = some n ↔ x.toNat = n.val := by
  unfold slotOf
  split
  · simp [Fin.ext_iff]
  · have := n.isLt
    simp only [reduceCtorEq, false_iff]
    omega

theorem slotOf_eq_none {x : BitVec 5} : slotOf x = none ↔ 24 ≤ x.toNat := by
  unfold slotOf
  split <;> simp <;> omega

/-- An order serves its entry where it names what the entry holds (R80, R87). -/
theorem Order.serves_iff {o : Order} {n : SlotNo} {e : Entry} : o.serves n e = true ↔ o.NamesOn n e := by
  unfold Order.serves Order.NamesOn
  cases o.ends <;> simp [slotOf_eq, and_assoc]

/-- An endpoint has a place of its own in the endpoint index. -/
theorem endpointKey_inj {p q : Endpoint} : endpointKey p = endpointKey q ↔ p = q := by
  refine ⟨fun h => ?_, fun h => h ▸ rfl⟩
  obtain ⟨ps, pp⟩ := p
  obtain ⟨qs, qp⟩ := q
  have h1 := pp.isLt
  have h2 := qp.isLt
  simp only [endpointKey] at h
  simp only [Endpoint.mk.injEq]
  exact ⟨BitVec.eq_of_toNat_eq (by omega), BitVec.eq_of_toNat_eq (by omega)⟩

/-! ## Ending the work of a state (R24) -/

@[simp] theorem State.slot_releaseLane (s : State) (n m : SlotNo) :
    (s.releaseLane n).slot m = if n = m then { s.slot n with lane := none } else s.slot m := by
  unfold State.releaseLane
  split
  · simp
  · rename_i h
    split
    · rename_i e
      subst e
      rw [← h]
    · rfl

@[simp] theorem State.lane_releaseLane (s : State) (n : SlotNo) (l : LaneNo) :
    (s.releaseLane n).lane l = if (s.slot n).lane = some l then none else s.lane l := by
  unfold State.releaseLane
  split <;> simp_all

/-- The slot context after its work has ended: the boot timer stopped, the lane given back. -/
theorem State.slot_endWork (s : State) (n m : SlotNo) : (s.endWork n).slot m =
    if n = m then { (s.slot n).unbooted with
      lane := if (s.slot n).state = .training then none else (s.slot n).lane }
    else s.slot m := by
  unfold State.endWork SlotContext.unbooted
  by_cases e : n = m
  · subst e
    cases h : (s.slot n).state <;> simp [State.endBootWait, h] <;> generalize s.slot n = c at * <;> cases c <;> simp_all
  · cases h : (s.slot n).state <;> simp [State.endBootWait, e]

/-- The Link Unit after the work of its slot's state has ended: it listens no longer, and the link is free. -/
theorem State.link_endWork (s : State) (n m : SlotNo) : (s.endWork n).link m =
    if n = m then { s.link n with
      listening := if (s.slot n).state = .booting then false else (s.link n).listening,
      exchange := if (s.slot n).state = .training ∨ (s.slot n).state = .identify then none
        else (s.link n).exchange }
    else s.link m := by
  unfold State.endWork
  by_cases e : n = m
  · subst e
    cases h : (s.slot n).state <;> simp [State.endBootWait, State.stopListening, State.freeLink]
  · cases h : (s.slot n).state <;> simp [State.endBootWait, State.stopListening, State.freeLink, e]

/-- The lanes after the work of a slot's state has ended: the lane of a slot in TRAINING is idle. -/
theorem State.lane_endWork (s : State) (n : SlotNo) (l : LaneNo) : (s.endWork n).lane l =
    if (s.slot n).state = .training ∧ (s.slot n).lane = some l then none else s.lane l := by
  unfold State.endWork
  cases h : (s.slot n).state <;> simp

/-- The notices after the work of a slot's state has ended: a departure from LINKED is notified to both receivers. -/
theorem State.notices_endWork (s : State) (n : SlotNo) : (s.endWork n).notices =
    if (s.slot n).state = .linked then { s.notices with
      departLink := s.notices.departLink ++ [n], departCircuits := s.notices.departCircuits ++ [n] }
    else s.notices := by
  unfold State.endWork
  cases h : (s.slot n).state <;> simp [State.sendDeparture]

/-! ## Which reply completes which request (R71) -/

theorem completes_sample {w : Work} {b : Bool} : completes w (.sample b) = true ↔ ∃ tap, w = .probe tap := by
  rcases w with _ | _ | _ | _ | ⟨_ | _, _⟩ <;> simp [completes.eq_def]

theorem completes_identity {w : Work} {t r : BitVec 16} : completes w (.identity t r) = true ↔ w = .identityQuery := by
  rcases w with _ | _ | _ | _ | ⟨_ | _, _⟩ <;> simp [completes.eq_def]

theorem completes_done {w : Work} : completes w .done = true ↔
    w = .clearOrder ∨ (∃ o, w = .order o) ∨ ∃ d m k, w = .register (.write d m) k := by
  rcases w with _ | _ | _ | _ | ⟨_ | _, _⟩ <;> simp [completes.eq_def]

theorem completes_refusal {w : Work} {r : RefusalReason} : completes w (.refusal r) = true ↔
    (∃ o, w = .order o) ∨ ∃ op k, w = .register op k := by
  rcases w with _ | _ | _ | _ | ⟨_ | _, _⟩ <;> simp [completes.eq_def]

theorem completes_registerData {w : Work} {d : Word} : completes w (.registerData d) = true ↔
    ∃ k, w = .register .read k := by
  rcases w with _ | _ | _ | _ | ⟨_ | _, _⟩ <;> simp [completes.eq_def]

/-- A reply is taken exactly where an exchange in flight has its tag and its content completes it (R69). -/
theorem LinkUnit.takesReply_iff {l : LinkUnit} {tag : BitVec 8} {c : FrameContent} :
    l.takesReply tag c = true ↔ ∃ x, l.exchange = some x ∧ x.tag = tag ∧ completes x.work c = true := by
  unfold LinkUnit.takesReply
  cases l.exchange <;> simp

/-! ## The transmit pair (R68) -/

/-- An idle frame takes some time at either rate. -/
theorem frameTime_idle_pos (rate : Rate) : 0 < frameTime rate FrameKind.idle.length := by cases rate <;> decide

/-- What comes next on the pair does not begin in the past. -/
theorem LinkUnit.le_frameEnds (l : LinkUnit) (t : Nat) : t ≤ l.frameEnds t := by
  unfold LinkUnit.frameEnds
  generalize hp : frameTime l.workingRate FrameKind.idle.length = p
  have hp : 0 < p := hp ▸ frameTime_idle_pos _
  dsimp only
  split
  · assumption
  · have h1 := Nat.div_add_mod (t - l.idleFrom + (p - 1)) p
    have h2 := Nat.mod_lt (t - l.idleFrom + (p - 1)) hp
    rw [Nat.mul_comm] at h1
    omega

/-- Nor before the time from which idle frames follow one another. -/
theorem LinkUnit.idleFrom_le_frameEnds (l : LinkUnit) (t : Nat) : l.idleFrom ≤ l.frameEnds t := by
  unfold LinkUnit.frameEnds
  dsimp only
  split
  · exact Nat.le_refl _
  · exact Nat.le_add_right ..

/-- All that is on the pair once the frame on it has been placed: frames placed before that have not ended, and that
frame. -/
theorem LinkUnit.mem_finishFrame {l : LinkUnit} {t : Nat} {f : LineFrame} :
    f ∈ (l.finishFrame t).line ↔ (f ∈ l.line ∧ t < f.ends) ∨
      (l.idleFrom < t ∧ t < l.frameEnds t ∧ f = ⟨none, l.workingRate, l.strobe, l.frameEnds t⟩) := by
  unfold LinkUnit.finishFrame
  simp only [List.mem_append, List.mem_filter, decide_eq_true_eq]
  split <;> simp_all

/-! ## An entry that becomes IDLE (R102) -/

@[simp] theorem State.entry_becomeIdle (s : State) (i j : EntryNo) :
    (s.becomeIdle i).entry j = if i = j then (s.entry i).toIdle else s.entry j :=
  State.entry_putEntry s i j (s.entry i).toIdle

@[simp] theorem State.ageList_becomeIdle (s : State) (i : EntryNo) :
    (s.becomeIdle i).circuits.ageList = s.circuits.ageList.erase i := rfl

@[simp] theorem State.admissions_becomeIdle (s : State) (i : EntryNo) :
    (s.becomeIdle i).circuits.admissions = s.circuits.admissions := rfl

theorem State.holder_becomeIdle (s : State) (i : EntryNo) (p : Endpoint) :
    (s.becomeIdle i).holder p =
      if p = (s.entry i).fields.a ∨ p = (s.entry i).fields.b then none else s.holder p := by
  show Sparse.lookup (Sparse.erase (Sparse.erase s.circuits.index _) _) _ = _
  simp only [Sparse.lookup_erase, endpointKey_inj, State.index_lookup]
  grind

/-! ## A CONNECT accepted (R92) -/

/-- The entry that an accepted CONNECT writes. -/
@[simp] theorem State.entry_admit (s : State) (i j : EntryNo) (f : RequestFields) : (s.acceptConnect i f).entry j =
    if i = j then { Entry.initial with
      code := .connect, fields := f, state := .waiting, outcome := .accepted, tag := s.circuits.admissions }
    else s.entry j :=
  State.entry_putEntry s i j { Entry.initial with
    code := .connect, fields := f, state := .waiting, outcome := .accepted, tag := s.circuits.admissions }

theorem State.holder_admit (s : State) (i : EntryNo) (f : RequestFields) (p : Endpoint) :
    (s.acceptConnect i f).holder p = if p = f.a ∨ p = f.b then some i else s.holder p := by
  show Sparse.lookup (Sparse.insert (Sparse.insert s.circuits.index _ i) _ i) _ = _
  simp only [Sparse.lookup_insert, endpointKey_inj, State.index_lookup]
  grind

/-! ## An event that reaches an entry after a departure (R103) -/

/-- All that an event's reaching an entry can do before its own effect: nothing, or the taking of one departure notice
on its way, of a slot on which a RESTORING or LIVE entry has an endpoint. -/
theorem State.reachEntry_cases (s : State) (i : EntryNo) :
    s.reachEntry i = s ∨ ∃ n ∈ s.notices.departCircuits, (s.entry i).joined = true ∧
      ((s.entry i).on .a n || (s.entry i).on .b n) = true ∧ s.reachEntry i = s.parkSlot n := by
  unfold State.reachEntry
  cases h : s.noticeDue i with
  | none => exact .inl rfl
  | some n =>
    refine .inr ⟨n, ?_⟩
    unfold State.noticeDue at h
    split at h
    · have := List.find?_some h
      exact ⟨List.mem_of_find?_eq_some h, by assumption, this, rfl⟩
    · cases h

theorem State.reachEntry_of_no_notice {s : State} (h : s.notices.departCircuits = []) (i : EntryNo) :
    s.reachEntry i = s := by
  obtain e | ⟨n, hn, -⟩ := s.reachEntry_cases i
  · exact e
  · rw [h] at hn
    cases hn

/-- A relation that the taking of a departure notice keeps holds when an event reaches an entry. -/
theorem State.reachEntry_keeps {P : State → Prop}
    (h : ∀ s n, n ∈ s.notices.departCircuits → P s → P (s.parkSlot n)) {s : State} (hs : P s) (i : EntryNo) :
    P (s.reachEntry i) := by
  obtain e | ⟨n, hn, -, -, e⟩ := s.reachEntry_cases i <;> rw [e]
  · exact hs
  · exact h s n hn hs

/-- And so it does when RELEASE_ALL reaches every entry. -/
theorem State.reachAll_keeps {P : State → Prop}
    (h : ∀ s n, n ∈ s.notices.departCircuits → P s → P (s.parkSlot n)) {s : State} (hs : P s) : P s.reachAll := by
  unfold State.reachAll
  generalize s.circuits.ageList = l
  induction l generalizing s with
  | nil => exact hs
  | cons i l ih => exact ih (State.reachEntry_keeps h hs i)

/-- And so it does when every departure notice on its way is taken. -/
theorem State.takeDepartures_keeps {P : State → Prop} (h : ∀ s n, P s → P (s.parkSlot n)) {s : State} (hs : P s) :
    P s.takeDepartures := by
  unfold State.takeDepartures
  generalize s.notices.departCircuits = l
  induction l generalizing s with
  | nil => exact hs
  | cons n l ih => exact ih (h s n hs)

/-- And so it does when the sag notice reaches the table. -/
theorem State.reachSag_keeps {P : State → Prop} (h : ∀ s n, P s → P (s.parkSlot n)) {s : State} (hs : P s) :
    P s.reachSag := by
  unfold State.reachSag
  split
  · exact State.takeDepartures_keeps h hs
  · exact hs

/-- The departure notice of a slot is gone from the table's channel when it is taken. -/
theorem State.departCircuits_parkSlot (s : State) (n : SlotNo) :
    (s.parkSlot n).notices.departCircuits = s.notices.departCircuits.erase n :=
  foldl_leaves (fun t : State => t.notices.departCircuits) (fun s i => by simp) _ _

/-- None is left on its way when all have been taken. -/
@[simp] theorem State.departCircuits_takeDepartures (s : State) : s.takeDepartures.notices.departCircuits = [] := by
  unfold State.takeDepartures
  generalize h : s.notices.departCircuits = l
  induction l generalizing s with
  | nil => exact h
  | cons n l ih => exact ih _ (by rw [State.departCircuits_parkSlot, h, List.erase_cons_head])

/-- A relation that the taking of a sag notice keeps holds when a lane grant takes those that are late. -/
theorem State.finishSags_keeps {P : State → Prop} (h : ∀ s, P s → P s.takeSagCircuits) {s : State} (hs : P s) :
    P s.finishSags := by
  unfold State.finishSags
  generalize s.lateSags = k
  induction k with
  | zero => exact hs
  | succ k ih => exact h _ ih

/-- With no sag notice late there is none to take. -/
theorem State.finishSags_of_none {s : State} (h : s.lateSags = 0) : s.finishSags = s := by
  rw [State.finishSags, h]
  rfl

/-- The grant leaves no sag notice late. -/
theorem State.lateSags_finishSags (s : State) : s.finishSags.lateSags = 0 := by
  simp only [State.lateSags, State.finishSags_leaves]
  omega

end Sys2Proof.Machine
end

