-- ==== Sys2Proof/Laws/Exec.lean ====
section
/-! SUPPORT. What a command can do, said once for all commands: a case split on the answer of `exec` without unfolding a
meaning. -/

namespace Sys2Proof.Machine

/-- What a command's answer is, where it is not the state as it was: the condition it was taken under, and the operation
that is its effect. A frame row that is no discarded frame answers as the row its content names, and stands for it. -/
def Effect (s t : State) : Instr → Prop
  | .powerOnReset a f => t = s.powerOn a f
  | .powerOnResetAsserted => t = s.assertPowerOn
  | .controllerReset => (s.por = true ∧ t = { s with ctrlReset := true }) ∨ (s.por = false ∧ t = s.resetController)
  | .controllerResetRelease => t = { s with ctrlReset := false }
  | .railSenseChange l => t = s.senseRail l
  | .cardGoodChange n l => t = s.senseCard n l
  | .railDeclaredLow => s.por = false ∧ s.supply.rail.StandsFor s.clock s.supply.filterTime .low ∧ t = s.railLow
  | .railDeclaredGood => s.por = false ∧ s.supply.rail.StandsFor s.clock s.supply.filterTime .good ∧ t = s.railGood
  | .cardGoodDeclaredGood n => s.por = false ∧ (s.card n).StandsFor s.clock s.supply.filterTime .good ∧
      t = (s.declareCard n .good).cardArrives n
  | .cardGoodDeclaredLow n => s.por = false ∧ (s.card n).StandsFor s.clock s.supply.filterTime .low ∧
      t = (s.declareCard n .low).cardLeaves n
  | .settleTimerExpiry => s.por = false ∧ s.settleDue = true ∧ t = s.settleExpires
  | .recoveryEnds => s.por = false ∧ s.recovered = true ∧ t = s.endRecovery
  | .sagNoticeSlots => s.por = false ∧ s.slotsNotice = some .sag ∧ t = s.sagSlots
  | .sagNoticeCircuits => s.por = false ∧ 0 < s.notices.circuits ∧ t = s.takeSagCircuits
  | .sagNoticeRestore => s.por = false ∧ s.restoreNotice = some .sag ∧ t = s.sagRestore
  | .recoverNoticeSlots => s.por = false ∧ ∃ cls, s.slotsNotice = some (.recover cls) ∧ t = s.recoverSlots cls
  | .recoverNoticeRestore => s.por = false ∧ (∃ cls, s.restoreNotice = some (.recover cls)) ∧ t = s.recoverRestore
  | .normalNotice => s.por = false ∧ s.restoreNotice = some .normal ∧ t = s.normalRestore
  | .departureNoticeLink n => s.por = false ∧ n ∈ s.notices.departLink ∧ t = s.departLink n
  | .departureNoticeCircuits n => s.por = false ∧ n ∈ s.notices.departCircuits ∧ t = s.parkSlot n
  | .resetPulseExpiry n => s.por = false ∧ timerDue s.clock (s.slot n).pulseTimer = true ∧ t = s.endPulse n
  | .bootTimeout n => s.por = false ∧ s.bootDue n = true ∧ t = (s.endWork n).failAttempt n .bootTimeout
  | .idleFrame n => s.por = false ∧ s.awaitsAlive n = true ∧ t = s.alive n
  | .laneGrant => s.por = false ∧ ∃ n l, s.grantDue = some (n, l) ∧ t = s.grant n l
  | .sampleReply n tag bit => s.por = false ∧ s.sampleTaken n tag bit = true ∧ t = s.endProbe n bit
  | .probeTimeout n => s.por = false ∧ s.probeDue n = true ∧ t = s.endProbe n false
  | .identityReply n tag type revision =>
      s.por = false ∧ s.identityTaken n tag type revision = true ∧ t = s.identified n type revision
  | .clearOrderDone n tag => s.por = false ∧ s.clearTaken n tag = true ∧ t = (s.freeLink n).goLinked n
  | .connectDone n tag => s.por = false ∧ ∃ o, s.answeredOrder n .connect tag .done = some o ∧
      t = ((s.reachEntry o.entry).completeOrder n).takeConnectDone n o
  | .connectRefusal n tag reason => s.por = false ∧ ∃ o, s.answeredOrder n .connect tag (.refusal reason) = some o ∧
      t = ((s.reachEntry o.entry).completeOrder n).takeConnectRefusal n o reason
  | .releaseResult n tag answer => s.por = false ∧
      ∃ o, s.answeredOrder n .release tag (releaseContent answer) = some o ∧
        t = ((s.reachEntry o.entry).completeOrder n).takeReleaseEnd n o
  | .registerDataReply n tag data => s.por = false ∧ ∃ w, s.windowReply n tag (.registerData data) = some w ∧
      t = s.endWindow n w (.data data)
  | .registerWriteDone n tag => s.por = false ∧ ∃ w, s.windowReply n tag .done = some w ∧ t = s.endWindow n w .written
  | .registerRefusal n tag reason => s.por = false ∧ ∃ w, s.windowReply n tag (.refusal reason) = some w ∧
      t = s.failWindow n w reason.code
  | .discardedFrame n f => (s.link n).takesFrame f = true ∧ s.takeFrame n f = .next t
  | .exchangeRetry n => s.por = false ∧ s.retryDue n = true ∧ t = s.resend n
  | .identTimeout n => s.por = false ∧ s.identDue n = true ∧ t = (s.freeLink n).failAttempt n .identTimeout
  | .linkLossDeclared n => s.por = false ∧ s.lossDue n = true ∧ t = s.declareLoss n
  | .linkLoss n => s.por = false ∧ s.lossStands n = true ∧ t = s.takeLoss n
  | .registerTimeout n => s.por = false ∧ ∃ w, s.windowTimeout n = some w ∧ t = s.failWindow n w timeoutReason
  | .chooseNextExchange n => s.por = false ∧ s.linkChooses n = true ∧ t = s.chooseNext n
  | .issue => s.por = false ∧ ∃ i, s.issueWinner = some i ∧ s.mayIssue = true ∧ t = s.issueEntry i
  | .drained => s.por = false ∧ s.drainedNow = true ∧ t = s.openBarrier causeDrained
  | .barrierTimerExpiry => s.por = false ∧ s.barrierDue = true ∧ t = s.openBarrier causeTimer
  | .plainAccess a x e => s.PortFree ∧ isPlain s.path.area a = true ∧ t = s.openPlain ⟨a, x, e⟩
  | .plainAccessDone w => s.por = false ∧ ∃ c claimed, s.path.store = .controller c claimed ∧
      t = s.completePlain c claimed w
  | .storePortArbitration => s.por = false ∧ s.path.store = .idle ∧ t = s.arbitrate
  | .journalWordDone => s.por = false ∧ ∃ a d live, s.path.store = .journal a d live ∧ t = s.storeJournal a d live
  | .windowRead n k => s.PortFree ∧ t = s.accessWindow n .read k
  | .windowWrite n k d m => s.PortFree ∧ t = s.accessWindow n (.write d m) k
  | .deferredWindowOffer => s.por = false ∧ ∃ n op k, s.path.ctrl = .windowDeferred n op k ∧ s.path.marker = false ∧
      t = s.offerWindow n op k
  | .settableWordWrite w d e => s.PortFree ∧ t = (s.writeShadow w d e).answered .written
  | .restoreFloorWrite d e => s.PortFree ∧ t = (s.writeCw1 d e).answered .written
  | .attentionEnableWrite e => s.PortFree ∧ t = (s.enableAttention e).answered .written
  | .journalTailWrite v => s.PortFree ∧ t = (s.takeTail v).answered .written
  | .relinkAll => s.PortFree ∧ t = s.takeRelinkAll.answered .written
  | .releaseAll => s.PortFree ∧ t = s.takeReleaseAll.answered .written
  | .relink n => s.PortFree ∧ t = (s.takeRelink n).answered .written
  | .relinkReset n => s.PortFree ∧ t = (s.takeRelinkReset n).answered .written
  | .quiesce n => s.PortFree ∧ t = (s.takeQuiesce n).answered .written
  | .resume n => s.PortFree ∧ t = (s.takeResume n).answered .written
  | .connect i f e => s.PortFree ∧ t = ((s.reachEntry i).writeRequest i .connect f e).answered .written
  | .release i f e => s.PortFree ∧ t = ((s.reachEntry i).writeRequest i .release f e).answered .written
  | .noneRequest i f e => s.PortFree ∧ t = ((s.reachEntry i).writeRequest i .none f e).answered .written
  | .badRequest i e => s.PortFree ∧ t = ((s.reachEntry i).writeBad i e).answered .written
  | .clockAdvance => s.por = false ∧ t = s.advanceClock

/-- A command taken: its effect, with the judgements that its changes call for made (R12, R146). The resets and the
input pins change nothing that is judged. -/
def Taken (s t : State) (c : Instr) : Prop := ∃ u, Effect s u c ∧ (t = u ∨ t = s.judged u)

/-- Every command answers its effect, or the state as it was. -/
theorem exec_cases {c : Instr} {s t : State} (h : exec c s = .next t) : Taken s t c ∨ t = s := by
  cases c
  case powerOnReset a f => cases h; exact .inl ⟨_, rfl, .inl rfl⟩
  case powerOnResetAsserted => cases h; exact .inl ⟨_, rfl, .inl rfl⟩
  case controllerReset =>
    cases h
    refine .inl ⟨_, ?_, .inl rfl⟩
    by_cases hp : s.por = true <;> simp [Effect, hp]
  case controllerResetRelease => cases h; exact .inl ⟨_, rfl, .inl rfl⟩
  case railSenseChange l => cases h; exact .inl ⟨_, rfl, .inl rfl⟩
  case cardGoodChange n l => cases h; exact .inl ⟨_, rfl, .inl rfl⟩
  case plainAccess a x e =>
    refine (State.event_cases h).imp_left fun ⟨_, hd, ht⟩ => ?_
    rw [Bool.and_eq_true] at hd
    exact ⟨_, ⟨State.takesCycle_iff.mp hd.1, hd.2, rfl⟩, .inr ht⟩
  case windowRead n k =>
    exact (State.event_cases h).imp_left fun ⟨_, hd, ht⟩ => ⟨_, ⟨State.takesCycle_iff.mp hd, rfl⟩, .inr ht⟩
  case windowWrite n k d m =>
    exact (State.event_cases h).imp_left fun ⟨_, hd, ht⟩ => ⟨_, ⟨State.takesCycle_iff.mp hd, rfl⟩, .inr ht⟩
  case railDeclaredLow =>
    exact (State.event_cases h).imp_left fun ⟨hp, hd, ht⟩ => ⟨_, ⟨hp, Filter.declares_iff.mp hd, rfl⟩, .inr ht⟩
  case railDeclaredGood =>
    exact (State.event_cases h).imp_left fun ⟨hp, hd, ht⟩ => ⟨_, ⟨hp, Filter.declares_iff.mp hd, rfl⟩, .inr ht⟩
  case cardGoodDeclaredGood n =>
    exact (State.event_cases h).imp_left fun ⟨hp, hd, ht⟩ => ⟨_, ⟨hp, Filter.declares_iff.mp hd, rfl⟩, .inr ht⟩
  case cardGoodDeclaredLow n =>
    exact (State.event_cases h).imp_left fun ⟨hp, hd, ht⟩ => ⟨_, ⟨hp, Filter.declares_iff.mp hd, rfl⟩, .inr ht⟩
  case storePortArbitration =>
    exact (State.event_cases h).imp_left fun ⟨hp, hd, ht⟩ => ⟨_, ⟨hp, by simpa using hd, rfl⟩, .inr ht⟩
  case sagNoticeSlots =>
    exact (State.event_cases h).imp_left fun ⟨hp, hd, ht⟩ => ⟨_, ⟨hp, by simpa using hd, rfl⟩, .inr ht⟩
  case sagNoticeCircuits =>
    exact (State.event_cases h).imp_left fun ⟨hp, hd, ht⟩ => ⟨_, ⟨hp, by simpa using hd, rfl⟩, .inr ht⟩
  case sagNoticeRestore =>
    exact (State.event_cases h).imp_left fun ⟨hp, hd, ht⟩ => ⟨_, ⟨hp, by simpa using hd, rfl⟩, .inr ht⟩
  case normalNotice =>
    exact (State.event_cases h).imp_left fun ⟨hp, hd, ht⟩ => ⟨_, ⟨hp, by simpa using hd, rfl⟩, .inr ht⟩
  case departureNoticeLink n =>
    exact (State.event_cases h).imp_left fun ⟨hp, hd, ht⟩ => ⟨_, ⟨hp, by simpa using hd, rfl⟩, .inr ht⟩
  case departureNoticeCircuits n =>
    exact (State.event_cases h).imp_left fun ⟨hp, hd, ht⟩ => ⟨_, ⟨hp, by simpa using hd, rfl⟩, .inr ht⟩
  case clockAdvance => exact (State.event_cases h).imp_left fun ⟨hp, _, ht⟩ => ⟨_, ⟨hp, rfl⟩, .inr ht⟩
  case recoverNoticeSlots =>
    simp only [exec, execRecoverNoticeSlots] at h
    split at h
    · rename_i cls hn
      exact (State.event_cases h).imp_left fun ⟨hp, _, ht⟩ => ⟨_, ⟨hp, cls, hn, rfl⟩, .inr ht⟩
    all_goals exact (State.event_cases h).elim (fun ⟨_, hd, _⟩ => by cases hd) .inr
  case recoverNoticeRestore =>
    simp only [exec, execRecoverNoticeRestore] at h
    split at h
    · rename_i cls hn
      exact (State.event_cases h).imp_left fun ⟨hp, _, ht⟩ => ⟨_, ⟨hp, ⟨cls, hn⟩, rfl⟩, .inr ht⟩
    all_goals exact (State.event_cases h).elim (fun ⟨_, hd, _⟩ => by cases hd) .inr
  case laneGrant =>
    simp only [exec, execLaneGrant] at h
    split at h
    · rename_i n l hn
      exact (State.event_cases h).imp_left fun ⟨hp, _, ht⟩ => ⟨_, ⟨hp, n, l, hn, rfl⟩, .inr ht⟩
    · exact (State.event_cases h).elim (fun ⟨_, hd, _⟩ => by cases hd) .inr
  case issue =>
    simp only [exec, execIssue] at h
    split at h
    · rename_i i hi
      exact (State.event_cases h).imp_left fun ⟨hp, hd, ht⟩ => ⟨_, ⟨hp, i, hi, hd, rfl⟩, .inr ht⟩
    · exact (State.event_cases h).elim (fun ⟨_, hd, _⟩ => by cases hd) .inr
  case connectDone n tag =>
    simp only [exec, execConnectDone] at h
    split at h
    · rename_i o ho
      exact (State.event_cases h).imp_left fun ⟨hp, _, ht⟩ => ⟨_, ⟨hp, o, ho, rfl⟩, .inr ht⟩
    · exact (State.event_cases h).elim (fun ⟨_, hd, _⟩ => by cases hd) .inr
  case connectRefusal n tag reason =>
    simp only [exec, execConnectRefusal] at h
    split at h
    · rename_i o ho
      exact (State.event_cases h).imp_left fun ⟨hp, _, ht⟩ => ⟨_, ⟨hp, o, ho, rfl⟩, .inr ht⟩
    · exact (State.event_cases h).elim (fun ⟨_, hd, _⟩ => by cases hd) .inr
  case releaseResult n tag answer =>
    simp only [exec, execReleaseResult] at h
    split at h
    · rename_i o ho
      exact (State.event_cases h).imp_left fun ⟨hp, _, ht⟩ => ⟨_, ⟨hp, o, ho, rfl⟩, .inr ht⟩
    · exact (State.event_cases h).elim (fun ⟨_, hd, _⟩ => by cases hd) .inr
  case registerDataReply n tag data =>
    simp only [exec, execRegisterDataReply] at h
    split at h
    · rename_i w hw
      exact (State.event_cases h).imp_left fun ⟨hp, _, ht⟩ => ⟨_, ⟨hp, w, hw, rfl⟩, .inr ht⟩
    · exact (State.event_cases h).elim (fun ⟨_, hd, _⟩ => by cases hd) .inr
  case registerWriteDone n tag =>
    simp only [exec, execRegisterWriteDone] at h
    split at h
    · rename_i w hw
      exact (State.event_cases h).imp_left fun ⟨hp, _, ht⟩ => ⟨_, ⟨hp, w, hw, rfl⟩, .inr ht⟩
    · exact (State.event_cases h).elim (fun ⟨_, hd, _⟩ => by cases hd) .inr
  case registerRefusal n tag reason =>
    simp only [exec, execRegisterRefusal] at h
    split at h
    · rename_i w hw
      exact (State.event_cases h).imp_left fun ⟨hp, _, ht⟩ => ⟨_, ⟨hp, w, hw, rfl⟩, .inr ht⟩
    · exact (State.event_cases h).elim (fun ⟨_, hd, _⟩ => by cases hd) .inr
  case registerTimeout n =>
    simp only [exec, execRegisterTimeout] at h
    split at h
    · rename_i w hw
      exact (State.event_cases h).imp_left fun ⟨hp, _, ht⟩ => ⟨_, ⟨hp, w, hw, rfl⟩, .inr ht⟩
    · exact (State.event_cases h).elim (fun ⟨_, hd, _⟩ => by cases hd) .inr
  case plainAccessDone w =>
    simp only [exec, execPlainAccessDone] at h
    split at h
    · rename_i c claimed hs
      exact (State.event_cases h).imp_left fun ⟨hp, _, ht⟩ => ⟨_, ⟨hp, c, claimed, hs, rfl⟩, .inr ht⟩
    all_goals exact (State.event_cases h).elim (fun ⟨_, hd, _⟩ => by cases hd) .inr
  case journalWordDone =>
    simp only [exec, execJournalWordDone] at h
    split at h
    · rename_i a d live hs
      exact (State.event_cases h).imp_left fun ⟨hp, _, ht⟩ => ⟨_, ⟨hp, a, d, live, hs, rfl⟩, .inr ht⟩
    all_goals exact (State.event_cases h).elim (fun ⟨_, hd, _⟩ => by cases hd) .inr
  case deferredWindowOffer =>
    simp only [exec, execDeferredWindowOffer] at h
    split at h
    · rename_i n op k hc
      exact (State.event_cases h).imp_left fun ⟨hp, hd, ht⟩ => ⟨_, ⟨hp, n, op, k, hc, by simpa using hd, rfl⟩, .inr ht⟩
    all_goals exact (State.event_cases h).elim (fun ⟨_, hd, _⟩ => by cases hd) .inr
  case discardedFrame n f =>
    simp only [exec, execDiscardedFrame] at h
    split at h
    · rename_i hf
      exact .inl ⟨_, ⟨hf, h⟩, .inl rfl⟩
    · cases h
      exact .inr rfl
  all_goals first
    | exact (State.cycle_cases h).imp_left fun ⟨hp, ht⟩ => ⟨_, ⟨hp, rfl⟩, .inr ht⟩
    | exact (State.event_cases h).imp_left fun ⟨hp, hd, ht⟩ => ⟨_, ⟨hp, hd, rfl⟩, .inr ht⟩

/-- The rows that stand for a received frame which is taken. -/
def isFrameRow : Instr → Bool
  | .idleFrame _ => true
  | .sampleReply _ _ _ => true
  | .identityReply _ _ _ _ => true
  | .clearOrderDone _ _ => true
  | .connectDone _ _ => true
  | .connectRefusal _ _ _ => true
  | .releaseResult _ _ _ => true
  | .registerDataReply _ _ _ => true
  | .registerWriteDone _ _ => true
  | .registerRefusal _ _ _ => true
  | _ => false

/-- A frame taken answers as the row of its own, or does nothing. -/
theorem takeFrame_cases {s t : State} {n : SlotNo} {f : RxFrame} (h : s.takeFrame n f = .next t) :
    (∃ c, isFrameRow c = true ∧ Taken s t c) ∨ t = s := by
  have key : ∀ c, isFrameRow c = true → exec c s = .next t →
      (∃ c, isFrameRow c = true ∧ Taken s t c) ∨ t = s :=
    fun c hc hx => (exec_cases hx).imp_left fun he => ⟨c, hc, he⟩
  unfold State.takeFrame at h
  cases hf : f.content <;> rw [hf] at h
  case idle => exact key (.idleFrame n) rfl h
  case sample bit => exact key (.sampleReply n f.tag bit) rfl h
  case identity type revision => exact key (.identityReply n f.tag type revision) rfl h
  case registerData data => exact key (.registerDataReply n f.tag data) rfl h
  case otherKind => cases h; exact .inr rfl
  case cutShort => cases h; exact .inr rfl
  case done =>
    dsimp only at h
    split at h
    · exact key (.clearOrderDone n f.tag) rfl h
    · split at h
      · exact key (.connectDone n f.tag) rfl h
      · exact key (.releaseResult n f.tag .done) rfl h
    · exact key (.registerWriteDone n f.tag) rfl h
    · cases h; exact .inr rfl
  case refusal reason =>
    dsimp only at h
    split at h
    · split at h
      · exact key (.connectRefusal n f.tag reason) rfl h
      · exact key (.releaseResult n f.tag (.refusal reason)) rfl h
    · exact key (.registerRefusal n f.tag reason) rfl h
    · cases h; exact .inr rfl

/-- A relation that every effect keeps, and that does not read the record of the judgements, is kept by every step: the
queue is the only other thing a step moves, and with no command waiting one microsecond passes. -/
theorem step_keeps {P : State → Prop} (hq : ∀ s q, P s → P { s with pending := q })
    (hj : ∀ s t : State, P t → P (s.judged t))
    (hc : ∀ c s t, (∀ n f, c ≠ .discardedFrame n f) → P s → Effect s t c → P t) (ht : ∀ s, P s → P s.tick)
    {s t : State} (h : P s) (hs : step s = .next t) : P t := by
  have hv : ∀ {u v w : State}, P v → (w = v ∨ w = State.judged u v) → P w := by
    rintro u v w hv (rfl | rfl)
    · exact hv
    · exact hj _ _ hv
  have hx : ∀ c u, P u → exec c u = .next t → P t := by
    intro c u hp he
    rcases exec_cases he with ⟨v, he, hw⟩ | rfl
    · refine hv ?_ hw
      cases c
      case discardedFrame n f =>
        rcases takeFrame_cases he.2 with ⟨c, hd, x, hx, hw⟩ | rfl
        · exact hv (hc c u x (fun n f e => by rw [e] at hd; cases hd) hp hx) hw
        · exact hp
      all_goals exact hc _ u v (by simp) hp he
    · exact hp
  unfold step at hs
  split at hs
  · cases hs
    exact ht s h
  · exact hx _ _ (hq _ _ h) hs

end Sys2Proof.Machine
end

