-- ==== Sys2Proof/WellFormed.lean ====
section
/-! DEFINITION. Which commands name their own row. The operand types carry every range (slots, lanes, entries, tags), so
what is left to check is that a write given as SETTABLE_WORD_WRITE has no row of its own, and that a restore floor write
enables the byte that holds the floor. A command that fails the check is still taken for the whole write it is. -/

namespace Sys2Proof

/-- A write of CW0 with a row of its own: RELINK_ALL or RELEASE_ALL in the request byte, or the attention enable's byte
enabled (R132, R145). -/
def cw0HasOwnRow (data : Word) (enables : ByteEnables) : Bool :=
  byteEnabled enables 1 || (byteEnabled enables 0 && (lowByte data == 1#8 || lowByte data == 2#8))

/-- A write of SL1 with a row of its own: a request code 1 to 4 in an enabled request byte (R45). -/
def sl1HasOwnRow (data : Word) (enables : ByteEnables) : Bool :=
  byteEnabled enables 0 && (1#8 ≤ lowByte data && lowByte data ≤ 4#8)

/-- Whether a write of a shadow word has a row of its own in the table. -/
def hasOwnRow (word : ShadowWord) (data : Word) (enables : ByteEnables) : Bool :=
  match word with
  | .cw k => (k == 0 && cw0HasOwnRow data enables) || (k == 4 && byteEnabled enables 0)
  | .sl1 _ => sl1HasOwnRow data enables
  | .request _ => true
  | .sw _ => false
  | .sl0 _ => false
  | .ss _ _ => false
  | .entryState _ => false

/-- The check: a command stands for its own row. -/
def WellFormed (c : Instr) : Bool :=
  match c with
  | .settableWordWrite word data enables => !hasOwnRow word data enables
  | .restoreFloorWrite _ enables => byteEnabled enables 0
  | .powerOnReset _ _ => true
  | .controllerReset => true
  | .controllerResetRelease => true
  | .railSenseChange _ => true
  | .railDeclaredLow => true
  | .railDeclaredGood => true
  | .cardGoodChange _ _ => true
  | .cardGoodDeclaredGood _ => true
  | .cardGoodDeclaredLow _ => true
  | .settleTimerExpiry => true
  | .recoveryEnds => true
  | .sagNoticeSlots => true
  | .sagNoticeCircuits => true
  | .sagNoticeRestore => true
  | .recoverNoticeSlots => true
  | .recoverNoticeRestore => true
  | .normalNotice => true
  | .departureNoticeLink _ => true
  | .departureNoticeCircuits _ => true
  | .resetPulseExpiry _ => true
  | .bootTimeout _ => true
  | .idleFrame _ => true
  | .laneGrant => true
  | .sampleReply _ _ _ => true
  | .probeTimeout _ => true
  | .identityReply _ _ _ _ => true
  | .clearOrderDone _ _ => true
  | .connectDone _ _ => true
  | .connectRefusal _ _ _ => true
  | .releaseResult _ _ _ => true
  | .registerDataReply _ _ _ => true
  | .registerWriteDone _ _ => true
  | .registerRefusal _ _ _ => true
  | .discardedFrame _ _ => true
  | .exchangeRetry _ => true
  | .identTimeout _ => true
  | .linkLossDeclared _ => true
  | .linkLoss _ => true
  | .registerTimeout _ => true
  | .chooseNextExchange _ => true
  | .issue => true
  | .drained => true
  | .barrierTimerExpiry => true
  | .plainAccess _ _ _ => true
  | .plainAccessDone _ => true
  | .storePortArbitration => true
  | .journalWordDone => true
  | .windowRead _ _ => true
  | .windowWrite _ _ _ _ => true
  | .deferredWindowOffer => true
  | .attentionEnableWrite _ => true
  | .journalTailWrite _ => true
  | .relinkAll => true
  | .releaseAll => true
  | .relink _ => true
  | .relinkReset _ => true
  | .quiesce _ => true
  | .resume _ => true
  | .connect _ _ _ => true
  | .release _ _ _ => true
  | .noneRequest _ _ _ => true
  | .badRequest _ _ => true
  | .clockAdvance => true
  | .powerOnResetAsserted => true

end Sys2Proof
end

