-- ==== Sys2Proof/Laws/PerInstr.lean ====
section
/-! SUPPORT. Per command: the check of WellFormed.lean holds exactly where the command names its own row of the table.
-/

namespace Sys2Proof.Laws.WellFormedExactly

/-- A settable-word write that no other row of the table takes: not the request byte or the attention byte of CW0 in use
(R132, R145), not the tail byte of CW4 (R165), not a request code 1 to 4 in SL1 (R45), and not a request word (R91). -/
def NoOtherRow (word : ShadowWord) (data : Word) (enables : ByteEnables) : Prop :=
  match word with
  | .cw k =>
    (k = 0 → byteEnabled enables 1 = false ∧
      (byteEnabled enables 0 = true → lowByte data ≠ 1#8 ∧ lowByte data ≠ 2#8)) ∧
    (k = 4 → byteEnabled enables 0 = false)
  | .sl1 _ => byteEnabled enables 0 = true → lowByte data = 0#8 ∨ 5#8 ≤ lowByte data
  | .request _ => False
  | .sw _ => True
  | .sl0 _ => True
  | .ss _ _ => True
  | .entryState _ => True

/-- What a command must meet to name its own row. -/
def OwnRow : Instr → Prop
  | .settableWordWrite word data enables => NoOtherRow word data enables
  | .restoreFloorWrite _ enables => byteEnabled enables 0 = true
  | .powerOnReset _ _ => True
  | .controllerReset => True
  | .controllerResetRelease => True
  | .railSenseChange _ => True
  | .railDeclaredLow => True
  | .railDeclaredGood => True
  | .cardGoodChange _ _ => True
  | .cardGoodDeclaredGood _ => True
  | .cardGoodDeclaredLow _ => True
  | .settleTimerExpiry => True
  | .recoveryEnds => True
  | .sagNoticeSlots => True
  | .sagNoticeCircuits => True
  | .sagNoticeRestore => True
  | .recoverNoticeSlots => True
  | .recoverNoticeRestore => True
  | .normalNotice => True
  | .departureNoticeLink _ => True
  | .departureNoticeCircuits _ => True
  | .resetPulseExpiry _ => True
  | .bootTimeout _ => True
  | .idleFrame _ => True
  | .laneGrant => True
  | .sampleReply _ _ _ => True
  | .probeTimeout _ => True
  | .identityReply _ _ _ _ => True
  | .clearOrderDone _ _ => True
  | .connectDone _ _ => True
  | .connectRefusal _ _ _ => True
  | .releaseResult _ _ _ => True
  | .registerDataReply _ _ _ => True
  | .registerWriteDone _ _ => True
  | .registerRefusal _ _ _ => True
  | .discardedFrame _ _ => True
  | .exchangeRetry _ => True
  | .identTimeout _ => True
  | .linkLossDeclared _ => True
  | .linkLoss _ => True
  | .registerTimeout _ => True
  | .chooseNextExchange _ => True
  | .issue => True
  | .drained => True
  | .barrierTimerExpiry => True
  | .plainAccess _ _ _ => True
  | .plainAccessDone _ => True
  | .storePortArbitration => True
  | .journalWordDone => True
  | .windowRead _ _ => True
  | .windowWrite _ _ _ _ => True
  | .deferredWindowOffer => True
  | .attentionEnableWrite _ => True
  | .journalTailWrite _ => True
  | .relinkAll => True
  | .releaseAll => True
  | .relink _ => True
  | .relinkReset _ => True
  | .quiesce _ => True
  | .resume _ => True
  | .connect _ _ _ => True
  | .release _ _ _ => True
  | .noneRequest _ _ _ => True
  | .badRequest _ _ => True
  | .clockAdvance => True
  | .powerOnResetAsserted => True

/-- The check accepts a command exactly where it names its own row. -/
def Statement (c : Instr) : Prop := WellFormed c = true ↔ OwnRow c

theorem powerOnReset (area : BitVec 6) (filtHigh : Bool) : Statement (.powerOnReset area filtHigh) :=
  iff_of_true rfl trivial

theorem controllerReset : Statement .controllerReset := iff_of_true rfl trivial

theorem controllerResetRelease : Statement .controllerResetRelease := iff_of_true rfl trivial

theorem railSenseChange (level : Level) : Statement (.railSenseChange level) := iff_of_true rfl trivial

theorem railDeclaredLow : Statement .railDeclaredLow := iff_of_true rfl trivial

theorem railDeclaredGood : Statement .railDeclaredGood := iff_of_true rfl trivial

theorem cardGoodChange (slot : SlotNo) (level : Level) : Statement (.cardGoodChange slot level) :=
  iff_of_true rfl trivial

theorem cardGoodDeclaredGood (slot : SlotNo) : Statement (.cardGoodDeclaredGood slot) := iff_of_true rfl trivial

theorem cardGoodDeclaredLow (slot : SlotNo) : Statement (.cardGoodDeclaredLow slot) := iff_of_true rfl trivial

theorem settleTimerExpiry : Statement .settleTimerExpiry := iff_of_true rfl trivial

theorem recoveryEnds : Statement .recoveryEnds := iff_of_true rfl trivial

theorem sagNoticeSlots : Statement .sagNoticeSlots := iff_of_true rfl trivial

theorem sagNoticeCircuits : Statement .sagNoticeCircuits := iff_of_true rfl trivial

theorem sagNoticeRestore : Statement .sagNoticeRestore := iff_of_true rfl trivial

theorem recoverNoticeSlots : Statement .recoverNoticeSlots := iff_of_true rfl trivial

theorem recoverNoticeRestore : Statement .recoverNoticeRestore := iff_of_true rfl trivial

theorem normalNotice : Statement .normalNotice := iff_of_true rfl trivial

theorem departureNoticeLink (slot : SlotNo) : Statement (.departureNoticeLink slot) := iff_of_true rfl trivial

theorem departureNoticeCircuits (slot : SlotNo) : Statement (.departureNoticeCircuits slot) := iff_of_true rfl trivial

theorem resetPulseExpiry (slot : SlotNo) : Statement (.resetPulseExpiry slot) := iff_of_true rfl trivial

theorem bootTimeout (slot : SlotNo) : Statement (.bootTimeout slot) := iff_of_true rfl trivial

theorem idleFrame (slot : SlotNo) : Statement (.idleFrame slot) := iff_of_true rfl trivial

theorem laneGrant : Statement .laneGrant := iff_of_true rfl trivial

theorem sampleReply (slot : SlotNo) (tag : BitVec 8) (bit : Bool) : Statement (.sampleReply slot tag bit) :=
  iff_of_true rfl trivial

theorem probeTimeout (slot : SlotNo) : Statement (.probeTimeout slot) := iff_of_true rfl trivial

theorem identityReply (slot : SlotNo) (tag : BitVec 8) (type revision : BitVec 16) :
    Statement (.identityReply slot tag type revision) :=
  iff_of_true rfl trivial

theorem clearOrderDone (slot : SlotNo) (tag : BitVec 8) : Statement (.clearOrderDone slot tag) :=
  iff_of_true rfl trivial

theorem connectDone (slot : SlotNo) (tag : BitVec 8) : Statement (.connectDone slot tag) := iff_of_true rfl trivial

theorem connectRefusal (slot : SlotNo) (tag : BitVec 8) (reason : RefusalReason) :
    Statement (.connectRefusal slot tag reason) :=
  iff_of_true rfl trivial

theorem releaseResult (slot : SlotNo) (tag : BitVec 8) (answer : ReleaseAnswer) :
    Statement (.releaseResult slot tag answer) :=
  iff_of_true rfl trivial

theorem registerDataReply (slot : SlotNo) (tag : BitVec 8) (data : Word) :
    Statement (.registerDataReply slot tag data) :=
  iff_of_true rfl trivial

theorem registerWriteDone (slot : SlotNo) (tag : BitVec 8) : Statement (.registerWriteDone slot tag) :=
  iff_of_true rfl trivial

theorem registerRefusal (slot : SlotNo) (tag : BitVec 8) (reason : RefusalReason) :
    Statement (.registerRefusal slot tag reason) :=
  iff_of_true rfl trivial

theorem discardedFrame (slot : SlotNo) (frame : RxFrame) : Statement (.discardedFrame slot frame) :=
  iff_of_true rfl trivial

theorem exchangeRetry (slot : SlotNo) : Statement (.exchangeRetry slot) := iff_of_true rfl trivial

theorem identTimeout (slot : SlotNo) : Statement (.identTimeout slot) := iff_of_true rfl trivial

theorem linkLossDeclared (slot : SlotNo) : Statement (.linkLossDeclared slot) := iff_of_true rfl trivial

theorem linkLoss (slot : SlotNo) : Statement (.linkLoss slot) := iff_of_true rfl trivial

theorem registerTimeout (slot : SlotNo) : Statement (.registerTimeout slot) := iff_of_true rfl trivial

theorem chooseNextExchange (slot : SlotNo) : Statement (.chooseNextExchange slot) := iff_of_true rfl trivial

theorem issue : Statement .issue := iff_of_true rfl trivial

theorem drained : Statement .drained := iff_of_true rfl trivial

theorem barrierTimerExpiry : Statement .barrierTimerExpiry := iff_of_true rfl trivial

theorem plainAccess (addr : WordAddr) (access : Access) (enables : ByteEnables) :
    Statement (.plainAccess addr access enables) :=
  iff_of_true rfl trivial

theorem plainAccessDone (storeWord : Word) : Statement (.plainAccessDone storeWord) := iff_of_true rfl trivial

theorem storePortArbitration : Statement .storePortArbitration := iff_of_true rfl trivial

theorem journalWordDone : Statement .journalWordDone := iff_of_true rfl trivial

theorem windowRead (slot : SlotNo) (index : BitVec 10) : Statement (.windowRead slot index) := iff_of_true rfl trivial

theorem windowWrite (slot : SlotNo) (index : BitVec 10) (data : Word) (mask : ByteEnables) :
    Statement (.windowWrite slot index data mask) :=
  iff_of_true rfl trivial

theorem deferredWindowOffer : Statement .deferredWindowOffer := iff_of_true rfl trivial

theorem settableWordWrite (word : ShadowWord) (data : Word) (enables : ByteEnables) :
    Statement (.settableWordWrite word data enables) := by
  cases word with
  | cw k =>
    simp only [Statement, WellFormed, OwnRow, NoOtherRow, hasOwnRow, cw0HasOwnRow]
    by_cases h0 : k = 0 <;> by_cases h4 : k = 4 <;> cases h : byteEnabled enables 0 <;> simp_all
  | sl1 n =>
    have h : ∀ b : BitVec 8, !(1#8 ≤ b && b ≤ 4#8) = true ↔ b = 0#8 ∨ 5#8 ≤ b := by decide
    simp only [Statement, WellFormed, OwnRow, NoOtherRow, hasOwnRow, sl1HasOwnRow]
    rw [← h]
    cases byteEnabled enables 0 <;> simp
  | request i => simp [Statement, WellFormed, OwnRow, NoOtherRow, hasOwnRow]
  | sw k => simp [Statement, WellFormed, OwnRow, NoOtherRow, hasOwnRow]
  | sl0 n => simp [Statement, WellFormed, OwnRow, NoOtherRow, hasOwnRow]
  | ss n k => simp [Statement, WellFormed, OwnRow, NoOtherRow, hasOwnRow]
  | entryState i => simp [Statement, WellFormed, OwnRow, NoOtherRow, hasOwnRow]

theorem restoreFloorWrite (data : Word) (enables : ByteEnables) : Statement (.restoreFloorWrite data enables) :=
  Iff.rfl

theorem attentionEnableWrite (enable : Bool) : Statement (.attentionEnableWrite enable) := iff_of_true rfl trivial

theorem journalTailWrite (tail : BitVec 8) : Statement (.journalTailWrite tail) := iff_of_true rfl trivial

theorem relinkAll : Statement .relinkAll := iff_of_true rfl trivial

theorem releaseAll : Statement .releaseAll := iff_of_true rfl trivial

theorem relink (slot : SlotNo) : Statement (.relink slot) := iff_of_true rfl trivial

theorem relinkReset (slot : SlotNo) : Statement (.relinkReset slot) := iff_of_true rfl trivial

theorem quiesce (slot : SlotNo) : Statement (.quiesce slot) := iff_of_true rfl trivial

theorem resume (slot : SlotNo) : Statement (.resume slot) := iff_of_true rfl trivial

theorem connect (entry : EntryNo) (fields : RequestFields) (enables : ByteEnables) :
    Statement (.connect entry fields enables) :=
  iff_of_true rfl trivial

theorem release (entry : EntryNo) (fields : RequestFields) (enables : ByteEnables) :
    Statement (.release entry fields enables) :=
  iff_of_true rfl trivial

theorem noneRequest (entry : EntryNo) (fields : RequestFields) (enables : ByteEnables) :
    Statement (.noneRequest entry fields enables) :=
  iff_of_true rfl trivial

theorem badRequest (entry : EntryNo) (enables : ByteEnables) : Statement (.badRequest entry enables) :=
  iff_of_true rfl trivial

theorem clockAdvance : Statement .clockAdvance := iff_of_true rfl trivial

theorem powerOnResetAsserted : Statement .powerOnResetAsserted := iff_of_true rfl trivial

end Sys2Proof.Laws.WellFormedExactly
end

