-- ==== Sys2Proof/Tests/Slice0.lean ====
section
/-! SUPPORT. Tests: the check of a command's own row, values taken from the worked examples of the spec, single steps,
and for every statement with hypotheses a state and operands that meet them. -/

namespace Sys2Proof.Tests

open Sys2Proof.Machine

/-! ## Helpers -/

/-- The state a command answers with. -/
def after (r : Result) : State :=
  match r with
  | .next t => t
  | _ => State.reset

/-- A shelf in NORMAL at clock 10000: the rail good, every barrier open, every slot EMPTY. -/
def base : State :=
  { State.reset with
    watching := false, supply := { Supply.initial with
      clock := 10000#32, elapsed := 10000000, rail := ⟨.good, .good, none⟩, shelf := .normal },
    restore := { RestoreEngine.initial with phase := .normal } }

/-- The base shelf with one slot, its Link Unit and its card filter as given. -/
def shelf (n : SlotNo) (c : SlotContext) (l : LinkUnit := .initial) (s : State := base) : State :=
  (s.setSlot n c).setLink n l

/-- A slot context in a state, with a card that is good. -/
def slotAt (st : SlotState) (mode : Mode := .full) (attempt : Nat := 1) : SlotContext :=
  { SlotContext.initial with state := st, mode := mode, attempt := attempt, cardGood := .good }

/-- A Link Unit with an exchange in flight: tag 41, timer expiring at 10 ms. -/
def linkWith (work : Work) (retry : Bool := false) : LinkUnit :=
  { LinkUnit.initial with exchange := some ⟨work, 41#8, retry, 10000000⟩, nextTag := 42#8 }

/-- The fields of the CONNECT of 05: class 0, A slot 8 port 9, B slot 11 port 0. -/
def fields102 : RequestFields := ⟨0#2, ⟨8#5, 9#6⟩, ⟨11#5, 0#6⟩⟩

/-- Fields with both endpoints on slot 8. -/
def fieldsOne : RequestFields := ⟨2#2, ⟨8#5, 9#6⟩, ⟨8#5, 10#6⟩⟩

/-- An entry outside IDLE. -/
def entryAt (st : EntryState) (f : RequestFields := fields102) (a : Mark := .none) (b : Mark := .none) : Entry :=
  { Entry.initial with
    code := .connect, fields := f, state := st, outcome := .accepted, tag := 17#16, markA := a, markB := b }

/-- A shelf whose table holds one entry outside IDLE, at index 102. -/
def tableWith (e : Entry) (s : State := base) : State :=
  { s with
    circuits := { s.circuits with
      entries := [(102, e)], ageList := [102],
      index := Sparse.insert [(endpointKey e.fields.a, 102)] (endpointKey e.fields.b) 102,
      waiting := if e.state = .waiting then 1 else 0, live := if e.state = .live then 1 else 0,
      faulted := if e.state = .faulted then 1 else 0 },
    restore := { s.restore with restoring := if e.state = .restoring then 1 else 0 } }

/-- Slots 8 and 11 LINKED. -/
def linked : State := shelf 11 (slotAt .linked) .initial (shelf 8 (slotAt .linked))

/-- The connect order of entry 12 for slot 6 port 3, its peer slot 9 port 1. -/
def c12 : Order := ⟨.connect, 12, .one .a, 3#6, none, some ⟨9#5, 1#6⟩, some 0#2, true⟩

/-- The connect order of entry 40 that names ports 10 and 11 of slot 6. -/
def c40 : Order := ⟨.connect, 40, .both, 10#6, some 11#6, none, some 2#2, false⟩

/-! ## The check of a command's own row -/

/-- R132: RELEASE_ALL in the request byte of CW0 is its own row. -/
theorem test_wf_refuses_cw0_request : WellFormed (.settableWordWrite (.cw 0) 2#32 1#4) = false := by decide

/-- R145: the attention enable byte of CW0 is its own row. -/
theorem test_wf_refuses_cw0_attention : WellFormed (.settableWordWrite (.cw 0) 0x100#32 2#4) = false := by decide

/-- R165: the tail byte of CW4 is its own row. -/
theorem test_wf_refuses_cw4_tail : WellFormed (.settableWordWrite (.cw 4) 12#32 1#4) = false := by decide

/-- R45: the request codes 1 to 4 of SL1 are their own rows. -/
theorem test_wf_refuses_sl1_request :
    WellFormed (.settableWordWrite (.sl1 6) 1#32 1#4) = false ∧
        WellFormed (.settableWordWrite (.sl1 6) 4#32 15#4) = false := by
  decide

/-- R91: a request word is never a settable word. -/
theorem test_wf_refuses_request_word : WellFormed (.settableWordWrite (.request 102) 0#32 0#4) = false := by decide

/-- R147: a restore floor write enables the byte of the floor. -/
theorem test_wf_refuses_floor_byte : WellFormed (.restoreFloorWrite 1#32 14#4) = false := by decide

/-- R45, R131: what is left is accepted. -/
theorem test_wf_accepts :
    WellFormed (.settableWordWrite (.cw 0) 3#32 1#4) = true ∧
        WellFormed (.settableWordWrite (.cw 4) 12#32 14#4) = true ∧
      WellFormed (.settableWordWrite (.sl1 6) 5#32 1#4) = true ∧ WellFormed (.restoreFloorWrite 1#32 1#4) = true := by
  decide

/-- No word spells a command, so the queue stays as it is. -/
theorem test_no_word_spells_a_command :
    decodeTableWord 32 0x000B1281 = none ∧ base.withFetchWord 32 0x000B1281 = base := by decide

/-! ## Layouts (10_shelf_area_layouts.md) -/

/-- The CONNECT of 10: 0x000B1281, and the same word read back from the entry. -/
theorem test_request_word :
    requestCommand 102 0x000B1281#32 15#4 = .connect 102 fields102 15#4 ∧
      (entryAt .waiting).requestWord = 0x000B1281#32 := by decide

/-- 10: accepted with admission tag 17, the state word reads 0x00110011. -/
theorem test_state_word : (entryAt .waiting).stateWord = 0x00110011#32 := by decide

/-- 10: the power-on value of SL0, and of SS0 of an EMPTY slot. -/
theorem test_power_on_words :
    State.reset.readShadow (.sl0 23) = 0x10030000#32 ∧ State.reset.readShadow (.ss 5 0) = 0x00000700#32 := by decide

/-- 10: SLOT_LINKED in FULL mode for slot 4 in episode 7, edge 22, lock tap 38, spread 2, drift 3, rate STD. -/
theorem test_slot_linked_record :
    let c : SlotContext := { SlotContext.initial with lock := ⟨22#6, 38#6, 2, 3, .std⟩, lastGood := ⟨22#6, .std, true⟩ }
    let r : Record := ⟨.slotLinked, some 4, 0#8, none, none, 7#16, 10000#32, c.ss1⟩
    r.word 0 = 0xFF000405#32 ∧ r.word 1 = 0x0007FFFF#32 ∧ r.word 2 = 10000#32 ∧ r.word 3 = 0x43022616#32 := by decide

/-- 10: the DRIFT record of a lock with drift −29 and edge 31 carries 0x2300001F. -/
theorem test_drift_value : driftValue (-29) 31#6 = 0x2300001F#32 := by decide

/-- 07: the window offset 0x040 of slot 5 is register index 16; 06: RECOVER_DONE with four LIVE and one WAITING. -/
theorem test_window_offset : classify (0x10000 + 4096 * 5 + 0x40) = .window 5 16#10 ∧
    (BitVec.ofNat 16 4 ++ BitVec.ofNat 16 1 : Word) = 262145#32 := by decide

/-! ## Training (03, Worked computations) -/

/-- Readings of a FULL sweep: LOW but where the function says otherwise. -/
def sweepOf (f : Nat → Reading) : List Reading := (List.range 64).map f

/-- The ones-count of one tap: 6 reads HIGH, 5 UNSURE. -/
theorem test_ones_count : readingOf 6 = .high ∧ readingOf 5 = .unsure ∧ readingOf 2 = .low := by decide

/-- A plain edge: HIGH 23, LOW 20, edge 22, lock tap 38, spread 2, drift 3. -/
theorem test_plain_edge :
    findEdge (sweepOf fun k => if k < 21 then .low else if k < 23 then .unsure else .high) .full = some (23, 20) ∧
      edgeTap 20#6 23#6 = 22#6 ∧ lockTap 22#6 16#5 = 38#6 ∧ edgeSpread 20#6 23#6 = 2 ∧
      driftOf ⟨19#6, .std, true⟩ .std 22#6 = 3 := by decide

/-- An edge across the wrap: HIGH 2, LOW 61, edge 0, lock tap 16, spread 4, drift 2. -/
theorem test_edge_across_the_wrap :
    findEdge (sweepOf fun k => if k < 2 then .unsure else if k < 61 then .high else if k = 61 then .low else .unsure)
        .full = some (2, 61) ∧
      edgeTap 61#6 2#6 = 0#6 ∧ lockTap 0#6 16#5 = 16#6 ∧ edgeSpread 61#6 2#6 = 4 ∧
      driftOf ⟨62#6, .fast, true⟩ .fast 0#6 = 2 := by decide

/-- A falling step passed over: HIGH 32, LOW 30, edge 31, margin 20 gives lock tap 51, drift −29. -/
theorem test_falling_step_passed_over :
    findEdge (sweepOf fun k => if k < 6 then .high else if k < 31 then .low else if k = 31 then .unsure else .high)
        .full = some (32, 30) ∧
      edgeTap 30#6 32#6 = 31#6 ∧ lockTap 31#6 20#5 = 51#6 ∧ driftOf ⟨60#6, .std, true⟩ .std 31#6 = -29 := by decide

/-- A broad step: spread 6; greatest drift: −32, and 0 at another rate. -/
theorem test_broad_step_and_greatest_drift :
    findEdge (sweepOf fun k => if k < 11 then .low else if k < 17 then .unsure else .high) .full = some (17, 10) ∧
      edgeSpread 10#6 17#6 = 6 ∧ driftOf ⟨42#6, .fast, true⟩ .fast 10#6 = -32 ∧
      driftOf ⟨42#6, .std, true⟩ .fast 10#6 = 0 := by decide

/-- Patterns without an edge. -/
theorem test_patterns_without_an_edge :
    findEdge (sweepOf fun k => if k < 41 then .high else .unsure) .full = none ∧
      findEdge (sweepOf fun _ => .low) .full = none ∧ findEdge (sweepOf fun _ => .unsure) .full = none ∧
      findEdge (sweepOf fun k => if k = 12 then .high else .unsure) .full = none := by decide

/-- A VERIFY window across the wrap: positions 3 and 1, taps 1 and 63, edge 0, drift −2. -/
theorem test_verify_window_across_the_wrap :
    findEdge [.low, .low, .unsure, .high, .high, .high, .high, .high, .high] .verify = some (3, 1) ∧
      tapAt (some 2#6) 3 = 1#6 ∧ tapAt (some 2#6) 1 = 63#6 ∧ edgeTap 63#6 1#6 = 0#6 ∧ edgeSpread 63#6 1#6 = 1 ∧
      driftOf ⟨2#6, .std, true⟩ .std 0#6 = -2 := by decide

/-- A VERIFY window that wraps but does not search across it, and one whose first position is HIGH. -/
theorem test_verify_window_does_not_search_across :
    findEdge [.high, .high, .high, .unsure, .unsure, .unsure, .unsure, .low, .low] .verify = none ∧
      findEdge [.high, .low, .low, .unsure, .unsure, .high, .high, .high, .high] .verify = some (5, 2) ∧
      edgeTap 38#6 41#6 = 40#6 := by decide

/-! ## Supply Watch (01, Worked episode timings) -/

/-- 10 000: the raw rail goes low and a pending change opens. -/
theorem test_rail_sense_change :
    (after (exec (.railSenseChange .low) base)).supply.rail = ⟨.low, .good, some 10000#32⟩ := by decide

/-- 10 001: declared low, episode 7 opens with start stamp 10 000; slot 4 has both episode flags set. -/
theorem test_rail_declared_low :
    let s := shelf 4 (slotAt .linked) .initial { base with supply := { base.supply with
      clock := 10001#32, episode := 6#16, rail := ⟨.low, .good, some 10000#32⟩ } }
    let t := after (exec .railDeclaredLow s)
    t.supply.shelf = .sag ∧ t.supply.episode = 7#16 ∧ t.supply.startStamp = 10000#32 ∧
      (t.slot 4).wasLinked = true ∧ (t.slot 4).cgHeld = true ∧
      t.journal.records.map (fun p => (p.record.kind, p.record.aux, p.record.stamp)) = [(.sagBegin, 0#8, 10000#32)] := by
  decide +kernel

/-- A sag in progress: the rail good from `change`, declared good a filter time later. -/
def sagEnding (start change : Word) : State :=
  { base with supply := { base.supply with
    clock := change + 1#32, startStamp := start, shelf := .sag, rail := ⟨.good, .low, some change⟩ } }

/-- 10 091 and 10 421: durations 90 and 420, the settle timer to 10 921. -/
theorem test_rail_declared_good :
    (after (exec .railDeclaredGood (sagEnding 10000#32 10090#32))).supply.runDuration = 90#16 ∧
      (after (exec .railDeclaredGood (sagEnding 10000#32 10420#32))).supply.runDuration = 420#16 ∧
      (after (exec .railDeclaredGood (sagEnding 10000#32 10420#32))).supply.settleTimer = some 10921#32 := by decide

/-- Clock wrap and saturation: 596, and 65535 for 99 000. -/
theorem test_duration_wraps_and_saturates :
    (after (exec .railDeclaredGood (sagEnding 4294967000#32 300#32))).supply.runDuration = 596#16 ∧
      (after (exec .railDeclaredGood (sagEnding 1000#32 100000#32))).supply.runDuration = 65535#16 := by decide

/-- 10 921: 420 is above the limit of 200, so the episode is LONG; 0 ms is SHORT. -/
theorem test_settle_timer_expiry :
    let s := fun d : BitVec 16 => { base with supply := { base.supply with
      clock := 10921#32, shelf := .settle, settleTimer := some 10921#32, runDuration := d } }
    (after (exec .settleTimerExpiry (s 420#16))).supply.lastClass = .long ∧
      (after (exec .settleTimerExpiry (s 420#16))).supply.lastDuration = 420#16 ∧
      (after (exec .settleTimerExpiry (s 0#16))).supply.lastClass = .short := by decide

/-- 06: recovery ends with RECOVER_DONE carrying 262 145. -/
theorem test_recovery_ends :
    let s := { base with
      supply := { base.supply with shelf := .recover }, circuits := { base.circuits with waiting := 1, live := 4 },
      judging := ⟨true, false⟩ }
    (after (exec .recoveryEnds s)).supply.shelf = .normal ∧
      (after (exec .recoveryEnds s)).journal.records.map (fun p => p.record.value) = [262145#32] := by decide

/-- A forced episode at 52 000: episode 8, duration 0, FORCED, both notices. -/
theorem test_relink_all :
    let t := after (exec .relinkAll { base with supply := { base.supply with clock := 52000#32, episode := 7#16 } })
    t.supply.shelf = .recover ∧ t.supply.episode = 8#16 ∧ t.supply.startStamp = 52000#32 ∧
      t.supply.lastClass = .forced ∧ t.notices.slots = [.sag, .recover .forced] ∧
      t.journal.records.map (fun p => (p.record.kind, p.record.aux)) = [(.recoverBegin, 3#8)] := by decide +kernel

/-- R12: entering RECOVER is no judgement, so RECOVERY_ENDS right after RELINK_ALL has no effect although every slot
that is in use is LINKED; a floor write that changes nothing judges nothing; one that changes the floor does. -/
theorem test_recovery_is_judged_on_changes :
    let s := after (exec .relinkAll linked)
    let t := after (exec (.restoreFloorWrite 3#32 1#4) s)
    let u := after (exec (.restoreFloorWrite 1#32 1#4) s)
    s.supply.shelf = .recover ∧ s.settled = true ∧ after (exec .recoveryEnds s) = s ∧
      (after (exec .recoveryEnds t)).supply.shelf = .recover ∧
          (after (exec .recoveryEnds u)).supply.shelf = .normal := by
  decide +kernel

/-! ## Slots and training (02, Attempt accounting example; 03, Worked grant order) -/

/-- The boot timer of attempt 2 expires: attempt 3, BOOT_TIMEOUT, the reset output asserted. -/
theorem test_boot_timeout :
    let s := shelf 9 { slotAt .booting .full 2 with bootTimer := some 10000#32 } { LinkUnit.initial with listening := true }
    let t := after (exec (.bootTimeout 9) s)
    (t.slot 9).state = .booting ∧ (t.slot 9).attempt = 3 ∧ (t.slot 9).lastFailure = .bootTimeout ∧
      (t.slot 9).resetOut = true ∧ (t.slot 9).pulseTimer = some 10010#32 ∧ (t.link 9).listening = false := by decide

/-- The first valid idle frame takes the slot to PENDING with attempt 3. -/
theorem test_idle_frame :
    let s := shelf 9 { slotAt .booting .full 3 with bootTimer := some 13000#32 } { LinkUnit.initial with listening := true }
    let t := after (exec (.idleFrame 9) s)
    (t.slot 9).state = .pending ∧ (t.slot 9).attempt = 3 ∧ (t.slot 9).bootTimer = none := by decide

/-- The boot wait of 3000 ms begins when the pulse expires. -/
theorem test_reset_pulse_expiry :
    let s := shelf 9 { slotAt .booting .full 2 with pulseTimer := some 10000#32, resetOut := true }
    let t := after (exec (.resetPulseExpiry 9) s)
    (t.slot 9).bootTimer = some 13000#32 ∧ (t.slot 9).resetOut = false := by decide

/-- Both identity exchanges time out at attempt 3: FAILED with SLOT_FAILED value 4. -/
theorem test_ident_timeout :
    let t := after (exec (.identTimeout 9) (shelf 9 (slotAt .identify .full 3) (linkWith .identityQuery true)))
    (t.slot 9).state = .failed ∧
      t.journal.records.map (fun p => (p.record.kind, p.record.value)) = [(.slotFailed, 4#32)] := by decide

/-- Six slots PENDING, with their relink levels: slot 5 is granted lane 0, and with lane 0 taken slot 11 lane 1. -/
theorem test_lane_grant :
    let s := [((2 : SlotNo), 1#2), (5, 0#2), (7, 3#2), (11, 0#2), (14, 1#2), (20, 2#2)].foldl (fun s p =>
      let c := s.path.captured.setSlot p.1 { SlotSettings.initial with relinkLevel := p.2 }
      { s.setSlot p.1 (slotAt .pending) with path := { s.path with captured := c } }) base
    let t := after (exec .laneGrant s)
    let u := after (exec .laneGrant t)
    (t.slot 5).state = .training ∧ (t.slot 5).lane = some 0 ∧ (u.slot 11).lane = some 1 ∧
      (t.link 5).exchange.map (fun x => x.work) = some (.probe 0#6) := by decide

/-- R53: slot 6 leaves LINKED by RELINK and is granted a lane at once; its order list is emptied first (R24, R81). -/
theorem test_lane_grant_to_a_departing_slot :
    let s := after (exec (.relink 6) (shelf 6 (slotAt .linked) { LinkUnit.initial with orders := [c40] }))
    let t := after (exec .laneGrant s)
    s.notices.departLink = [6] ∧ s.readShadow (.ss 6 3) = 0#32 ∧ (t.slot 6).state = .training ∧
      (t.link 6).orders = [] ∧ t.notices.departLink = [] ∧ t.notices.departCircuits = [] := by decide

/-- A sweep on lane 1 for slot 9 at its last probe. -/
def lastProbe (mode : Mode) (readings : List Reading) : State :=
  { (shelf 9 { slotAt .training mode (if mode = .full then 1 else 0) with
      lane := some 1, lastGood := ⟨40#6, .std, true⟩ } (linkWith (.probe 44#6))) with
    lanes := #v[none, some ⟨9, mode, .std, 16#5, if mode = .verify then some 40#6 else none, readings.length, 8, 7, readings⟩,
      none, none] }

/-- The VERIFY sweep whose first position is HIGH locks: edge 40, lock tap 56, drift 0, IDENTIFY. -/
theorem test_sample_reply_locks :
    let t := after (exec (.sampleReply 9 41#8 true)
      (lastProbe .verify [.high, .low, .low, .unsure, .unsure, .high, .high, .high]))
    (t.slot 9).state = .identify ∧ (t.slot 9).lock = ⟨40#6, 56#6, 2, 0, .std⟩ ∧ t.lane 1 = none ∧
      (t.link 9).exchange.map (fun x => x.work) = some .identityQuery := by decide

/-- A VERIFY edge with spread 6 fails: FULL at attempt 1 on the same lane, reason SPREAD. -/
theorem test_probe_timeout_verify_failure :
    let s := lastProbe .verify [.low, .unsure, .unsure, .unsure, .unsure, .unsure, .unsure, .high]
    let t := after (exec (.probeTimeout 9) { s with supply := { s.supply with clock := 10000#32 } })
    (t.slot 9).state = .training ∧ (t.slot 9).mode = .full ∧ (t.slot 9).attempt = 1 ∧ (t.slot 9).lane = some 1 ∧
      (t.slot 9).lastFailure = .spread ∧ (t.lane 1).map (fun w => w.mode) = some .full := by decide

/-- An identity reply that names another type than a non-zero expected type: MISMATCH, the last-good record invalid. -/
theorem test_identity_reply_mismatch :
    let s := shelf 9 { slotAt .identify with expected := 0x12#16, lastGood := ⟨40#6, .std, true⟩ } (linkWith .identityQuery)
    let t := after (exec (.identityReply 9 41#8 0x13#16 2#16) s)
    (t.slot 9).state = .mismatch ∧ (t.slot 9).lastGood.valid = false ∧ (t.slot 9).foundType = 0x13#16 ∧
      t.journal.records.map (fun p => (p.record.kind, p.record.value)) = [(.slotMismatch, 0x00020013#32)] := by decide

/-- Clear order done: LINKED with aux FULL, the last failure reason kept. -/
theorem test_clear_order_done :
    let s := shelf 9 { slotAt .identify .full 3 with lastFailure := .bootTimeout, lock := ⟨30#6, 50#6, 2, 0, .fast⟩ }
      (linkWith .clearOrder)
    let t := after (exec (.clearOrderDone 9 41#8) s)
    (t.slot 9).state = .linked ∧ (t.slot 9).lastFailure = .bootTimeout ∧ (t.slot 9).lastGood = ⟨30#6, .fast, true⟩ ∧
      t.journal.records.map (fun p => (p.record.kind, p.record.aux)) = [(.slotLinked, 0#8)] := by decide

/-! ## Shelf links (04, Worked exchange sequence and Worked link loss) -/

/-- Slot 6 LINKED with C12 in flight, C40 behind it and a window read waiting. -/
def slot6 (retry : Bool) : State :=
  shelf 6 (slotAt .linked) { linkWith (.order c12) retry with
    orders := [c12, c40], window := some ⟨.read, 0x20#10, false, true⟩ }

/-- The 2 ms timer expires: the retry is sent with tag 42, and the window read waits on. -/
theorem test_exchange_retry :
    let t := after (exec (.exchangeRetry 6) (slot6 false))
    (t.link 6).exchange.map (fun x => (x.tag, x.retry, x.work)) = some (42#8, true, .order c12) ∧
      (t.link 6).orders = [c12, c40] := by decide

/-- A done with the tag of the first send, after the retry, is late and discarded. -/
theorem test_late_done_is_discarded :
    let s := after (exec (.exchangeRetry 6) (slot6 false))
    after (exec (.connectDone 6 41#8) s) = s ∧ after (exec (.discardedFrame 6 ⟨.done, 41#8, .std, 0xFFFF#16⟩) s) = s := by
  intro s
  have h : s.answeredOrder 6 .connect 41#8 .done = none := by decide
  have h' : (s.link 6).takesFrame ⟨.done, 41#8, .std, 0xFFFF#16⟩ = false := by decide
  constructor
  · simp [exec, execConnectDone, h, State.event, after]
  · simp [exec, execDiscardedFrame, h', after]

/-- The window read is chosen before C40. -/
theorem test_window_is_chosen_first :
    let t := after (exec (.chooseNextExchange 6) (shelf 6 (slotAt .linked) { LinkUnit.initial with
      nextTag := 43#8, orders := [c40], window := some ⟨.read, 0x20#10, false, true⟩ }))
    (t.link 6).exchange.map (fun x => (x.tag, x.work)) = some (43#8, .register .read 0x20#10) := by decide

/-- With no window request C40 is started, marked in flight. -/
theorem test_order_is_chosen :
    let t := after (exec (.chooseNextExchange 6) (shelf 6 (slotAt .linked) { LinkUnit.initial with
      nextTag := 44#8, orders := [c40] }))
    (t.link 6).exchange.map (fun x => x.tag) = some 44#8 ∧
        (t.link 6).orders = [{ c40 with inFlight := true }] := by decide

/-- The second timeout of an order declares link loss, and the order stays in the list. -/
theorem test_link_loss_declared :
    let t := after (exec (.linkLossDeclared 6) (slot6 true))
    (t.link 6).exchange = none ∧ (t.link 6).lossDeclared = true ∧ (t.link 6).orders.length = 2 := by decide

/-- Link loss: PENDING, SLOT_LOST with reason ORDER_TIMEOUT, the departure notices sent. -/
theorem test_link_loss :
    let t := after (exec (.linkLoss 6) (shelf 6 (slotAt .linked) { LinkUnit.initial with lossDeclared := true }))
    (t.slot 6).state = .pending ∧ t.notices.departLink = [6] ∧ t.notices.departCircuits = [6] ∧
      t.journal.records.map (fun p => (p.record.kind, p.record.value)) = [(.slotLost, 2#32)] := by decide

/-- The departure notice at the link: the list empties, and a claimed window write completes without a record. -/
theorem test_departure_notice_link :
    let s := shelf 6 (slotAt .pending) { linkWith (.order c12) with
      orders := [c12, c40], window := some ⟨.write 5#32 15#4, 1#10, false, true⟩ }
    let t := after (exec (.departureNoticeLink 6) { s with
      notices := { s.notices with departLink := [6] },
      path := { s.path with ctrl := .windowHeld 6 (.write 5#32 15#4), marker := true } })
    (t.link 6).exchange = none ∧ (t.link 6).orders = [] ∧ t.path.ctrl = .idle ∧ t.path.marker = false ∧
      t.path.answer = .written ∧ t.journal.records = [] := by decide

/-- R68: the check of no bits is the register's start, all ones; a request frame ends in the check over the bits before
it. -/
theorem test_frame_check : frameCheck [] = 0xFFFF#16 ∧ (Work.probe 3#6).frame 7#8 =
    checkedBits .probe 7#8 (Work.probe 3#6).body ++
      fieldBits (frameCheck (checkedBits .probe 7#8 (Work.probe 3#6).body)) := ⟨by decide, rfl⟩

/-- R55, R67: a probe's strobe is delayed by its own tap, and an idle link's by the working tap. -/
theorem test_strobe_of_a_probe :
    ({ linkWith (.probe 3#6) with workingTap := 9#6 } : LinkUnit).strobe = 3#6 ∧
      ({ linkWith .identityQuery with workingTap := 9#6 } : LinkUnit).strobe = 9#6 := by decide

/-- R68, R72, R75: an identity query sent at STD 2 µs into an idle frame of 6 µs begins at its end and takes 8 µs; one sent
at the end of an idle frame begins at once. -/
theorem test_request_follows_the_idle_frame :
    let l := { LinkUnit.initial with idleFrom := 100 * 16 }
    l.frameEnds (102 * 16) = 106 * 16 ∧ l.requestEnds (102 * 16) .identityQuery = 114 * 16 ∧
      l.frameEnds (112 * 16) = 112 * 16 ∧
      (l.transmit (102 * 16) .identityQuery).line =
        [⟨none, .std, 0#6, 106 * 16⟩, ⟨some (.identityQuery, 0#8), .std, 0#6, 114 * 16⟩] := by
  decide +kernel

/-- R68: a register write takes 22 µs at STD, and an idle frame 1.5 µs at FAST. -/
theorem test_frame_times : frameTime .std (requestBits (.register (.write 0#32 0#4) 0#10)) = 22 * 16 ∧
    frameTime .fast FrameKind.idle.length * 2 = 3 * 16 := by decide

/-! ## The Circuit Table (05, Worked sequence) -/

/-- Step 1: accepted, WAITING with tag 17, at the tail of the age list. -/
theorem test_connect_accepted :
    let t := after (exec (.connect 102 fields102 15#4) { base with circuits := { base.circuits with admissions := 17#16 } })
    (t.entry 102).stateWord = 0x00110011#32 ∧ t.circuits.ageList = [102] ∧ t.circuits.admissions = 18#16 ∧
      t.holder ⟨11#5, 0#6⟩ = some 102 := by decide

/-- Step 5: endpoint 11/0 is held by entry 102, and nothing of the write is captured. -/
theorem test_connect_port_in_use :
    let s := tableWith (entryAt .restoring)
    let t := after (exec (.connect 103 ⟨3#2, ⟨11#5, 0#6⟩, ⟨2#5, 6#6⟩⟩ 15#4) s)
    t.entry 103 = { Entry.initial with outcome := .portInUse } ∧ t.circuits.ageList = [102] := by decide

/-- The connect order of entry 102 at slot 8 (endpoint A) and at slot 11 (endpoint B). -/
def c102 (x : Side) : Order :=
  { (entryAt .restoring).order 102 .connect (.one x) with inFlight := true }

/-- Step 7: slot 11 refuses C102, which is in flight on slot 8 too: FAULTED, REFUSED_BY_CARD, A to be undone. -/
theorem test_connect_refusal :
    let s := shelf 8 (slotAt .linked) { linkWith (.order (c102 .a)) with orders := [c102 .a] }
      (shelf 11 (slotAt .linked) { linkWith (.order (c102 .b)) with orders := [c102 .b] }
        (tableWith (entryAt .restoring fields102 .connect .connect)))
    let t := after (exec (.connectRefusal 11 41#8 .portBusy) s)
    (t.entry 102).state = .faulted ∧ (t.entry 102).outcome = .refusedByCard ∧
      (t.entry 102).markA = .connectThenRelease ∧ (t.entry 102).markB = .none ∧ (t.link 11).orders = [] ∧
      t.journal.records.map (fun p => (p.record.word 0, p.record.word 3)) = [(0x00010B0A#32, 0x00000B01#32)] := by
          decide

/-- Step 8: slot 8 answers done to C102: A done, A release, and R102 joins the tail of slot 8's list. -/
theorem test_connect_done_then_release :
    let s := shelf 8 (slotAt .linked) { linkWith (.order (c102 .a)) with orders := [c102 .a, c40] }
      (tableWith (entryAt .faulted fields102 .connectThenRelease .none))
    let t := after (exec (.connectDone 8 41#8) s)
    (t.entry 102).doneA = true ∧ (t.entry 102).markA = .release ∧
      (t.link 8).orders.map (fun o => (o.kind, o.entry, o.port)) = [(.connect, 40, 10#6), (.release, 102, 9#6)] := by decide

/-- R87: an order for slot 8 port 9, left over from before entry 102 was aimed at slots 9 and 11, changes nothing of it.
-/
theorem test_stale_order_is_ignored :
    let aimed := entryAt .restoring ⟨0#2, ⟨9#5, 9#6⟩, ⟨11#5, 0#6⟩⟩ .connect .connect
    let s := shelf 8 (slotAt .linked) { linkWith (.order (c102 .a)) with orders := [c102 .a] } (tableWith aimed)
    ((after (exec (.connectDone 8 41#8) s)).entry 102) = aimed ∧
      ((after (exec (.connectRefusal 8 41#8 .portBusy) s)).entry 102) = aimed := by decide

/-- Step 9: the second done makes an entry LIVE. -/
theorem test_connect_done_second :
    let s := shelf 8 (slotAt .linked) { linkWith (.order (c102 .a)) with orders := [c102 .a] }
      (tableWith { entryAt .restoring fields102 .connect .none with doneB := true })
    let t := after (exec (.connectDone 8 41#8) s)
    (t.entry 102).state = .live ∧ (t.entry 102).doneA = true ∧ (t.entry 102).doneB = true ∧ t.circuits.live = 1 ∧
      t.restore.restoring = 0 := by decide

/-- Step 10: RELEASE of the FAULTED entry with a release outstanding: RELEASING, ACCEPTED. -/
theorem test_release_faulted :
    let t := after (exec (.release 102 fields102 15#4) (tableWith { entryAt .faulted fields102 .release .none with doneA := true }))
    (t.entry 102).state = .releasing ∧ (t.entry 102).outcome = .accepted ∧ (t.entry 102).doneA = true := by decide

/-- Step 11: the release done leaves the entry IDLE, RELEASED, and its endpoints free. -/
theorem test_release_result :
    let o : Order := { (entryAt .releasing).order 102 .release (.one .a) with inFlight := true }
    let s := shelf 8 (slotAt .linked) { linkWith (.order o) with orders := [o] }
      (tableWith { entryAt .releasing fields102 .release .none with doneA := true })
    let t := after (exec (.releaseResult 8 41#8 .done) s)
    (t.entry 102).state = .idle ∧ (t.entry 102).outcome = .released ∧ t.circuits.ageList = [] ∧
      t.holder ⟨11#5, 0#6⟩ = none := by decide

/-- R91: a partial write, request code 3, and NONE to an IDLE entry. -/
theorem test_other_requests :
    ((after (exec (.release 102 fields102 7#4) base)).entry 102).outcome = .partialWrite ∧
      ((after (exec (.badRequest 102 15#4) base)).entry 102).outcome = .badRequest ∧
      ((after (exec (.noneRequest 102 fields102 15#4) base)).entry 102).outcome = .none ∧
      ((after (exec (.release 102 fields102 15#4) base)).entry 102).outcome = .nothingToRelease := by decide

/-- R96: RELEASE_ALL sends a LIVE entry to RELEASING with a release order on each slot. -/
theorem test_release_all :
    let t := after (exec .releaseAll (tableWith { entryAt .live with doneA := true, doneB := true } linked))
    (t.entry 102).state = .releasing ∧ (t.entry 102).code = .release ∧
      (t.link 8).orders.map (fun o => o.kind) = [.release] ∧
          (t.link 11).orders.map (fun o => o.port) = [0#6] := by decide

/-- R105: the sag notice parks a LIVE entry. -/
theorem test_sag_notice_circuits :
    let s := tableWith { entryAt .live with doneA := true, doneB := true } linked
    let t := after (exec .sagNoticeCircuits { s with notices := { s.notices with circuits := 1 } })
    (t.entry 102).state = .waiting ∧ (t.entry 102).doneA = false ∧ t.circuits.waiting = 1 ∧ t.notices.circuits = 0 := by
  decide

/-- Step 15: link loss on slot 11 parks the entry: its join on slot 8 stays with the card. -/
theorem test_departure_notice_circuits :
    let s := tableWith { entryAt .restoring fields102 .none .connect with doneA := true } (linked.setSlot 11 (slotAt .pending))
    let t := after (exec (.departureNoticeCircuits 11) { s with notices := { s.notices with departCircuits := [11] } })
    (t.entry 102).state = .waiting ∧ (t.entry 102).markB = .none ∧ (t.entry 102).doneA = false := by decide

/-! ## Restoration (06, Worked recovery with barriers) -/

/-- Entries 40 (class 3, older) and 5 (class 0) WAITING between slots 1 and 4, every barrier as given. -/
def twoWaiting (lowest : Nat) : State :=
  let s := shelf 1 (slotAt .linked) .initial (shelf 4 (slotAt .linked))
  { s with
    circuits := { s.circuits with
      entries := [(5, entryAt .waiting ⟨0#2, ⟨1#5, 0#6⟩, ⟨4#5, 0#6⟩⟩), (40, entryAt .waiting ⟨3#2, ⟨1#5, 2#6⟩, ⟨4#5, 2#6⟩⟩)],
      ageList := [40, 5], waiting := 2 },
    restore := { s.restore with phase := .recovering, lowestClosed := lowest, timer := some 12000#32 } }

/-- 50 320: entry 5 is issued, and entry 40 waits behind its barrier; with every class open entry 5 still goes first. -/
theorem test_issue :
    ((after (exec .issue (twoWaiting 1))).entry 5).state = .restoring ∧
      ((after (exec .issue (twoWaiting 1))).entry 40).state = .waiting ∧
      ((after (exec .issue (twoWaiting 4))).entry 5).state = .restoring ∧
      ((after (exec .issue (twoWaiting 1))).link 4).orders.map (fun o => o.peer) = [some ⟨1#5, 0#6⟩] := by decide

/-- 52 000: timer expiry opens class 1 with BARRIER_OPEN 1 TIMER, and the timer starts again for 2000 ms. -/
theorem test_barrier_timer_expiry :
    let s := twoWaiting 1
    let t := after (exec .barrierTimerExpiry { s with
      supply := { s.supply with clock := 52000#32 }, restore := { s.restore with timer := some 52000#32 } })
    t.restore.lowestClosed = 2 ∧ t.restore.timer = some 54000#32 ∧
      t.journal.records.map (fun p => (p.record.kind, p.record.cls, p.record.value)) =
        [(.barrierOpen, some 1#2, 0x0201#32)] := by decide

/-- 53 110: DRAINED for class 3 holds, class 3 opens and the timer stops; with entry 5 WAITING class 1 is not DRAINED.
-/
theorem test_drained :
    let s := { base with
      restore := { base.restore with phase := .recovering, lowestClosed := 3, timer := some 12000#32 } }
    let t := after (exec .drained s)
    t.restore.lowestClosed = 4 ∧ t.restore.timer = none ∧
      t.journal.records.map (fun p => p.record.value) = [0x0103#32] ∧
      (after (exec .drained (twoWaiting 1))).restore.lowestClosed = 1 := by decide

/-- 50 000: the recover notice closes the classes and starts the timer of 2000 ms; the normal notice opens them. -/
theorem test_restore_notices :
    let s := fun n => { base with notices := { base.notices with restore := [n] } }
    (after (exec .recoverNoticeRestore (s (.recover .long)))).restore = ⟨.recovering, 1, some 12000#32, 0⟩ ∧
      (after (exec .normalNotice (s .normal))).restore = ⟨.normal, 4, none, 0⟩ ∧
      (after (exec .sagNoticeRestore (s .sag))).restore = ⟨.sagged, 4, none, 0⟩ := by decide

/-! ## Pass-through and shadow store (07, Worked byte merges, Worked window cycles, Worked store port sharing) -/

/-- The four writes of CW2 in turn: 50, 306, 50, 50, the limit staying 150. -/
theorem test_byte_merges :
    let s := { base with path := { base.path with captured := { base.path.captured with settleTime := 300#16 } } }
    let w := fun s d e => after (exec (.settableWordWrite (.cw 2) d e) s)
    let s1 := w s 0x00960000#32 15#4
    let s2 := w s1 0x00000100#32 2#4
    let s3 := w s2 0#32 2#4
    let s4 := w s3 0x0000002C#32 3#4
    [s1, s2, s3, s4].map (fun s => (s.path.captured.settleTime.toNat, s.path.captured.shortSagLimit.toNat)) =
      [(50, 150), (306, 150), (50, 150), (50, 150)] := by decide

/-- A write of CW1 with byte 0 enabled and 0x01 changes the floor from 3 to 1 and leaves the barrier time. -/
theorem test_restore_floor_write :
    (after (exec (.restoreFloorWrite 1#32 1#4) base)).readShadow (.cw 1) = 0x07D00001#32 := by decide

/-- R146: a floor write that leaves an entry to issue holds the next access until the issue has been made. -/
theorem test_floor_is_judged_before_the_next_access :
    let s := twoWaiting 4
    let low := { s with path := { s.path with captured := { s.path.captured with restoreFloor := 0#2 } },
                        restore := { s.restore with restoring := 15 } }
    let t := after (exec (.restoreFloorWrite 3#32 1#4) low)
    let u := after (exec .issue t)
    t.judging.floor = true ∧ after (exec (.connect 102 fields102 15#4) t) = t ∧ u.judging.floor = false ∧
      ((after (exec (.connect 102 fields102 15#4) u)).entry 102).state = .waiting := by decide +kernel

/-- A window read of slot 5 is held; its timeout gives all ones and WINDOW_FAULT with offset 0x040. -/
theorem test_window_read_and_timeout :
    let s := after (exec (.windowRead 5 16#10) (shelf 5 (slotAt .linked)))
    let t := after (exec (.registerTimeout 5) (shelf 5 (slotAt .linked) { linkWith (.register .read 16#10) with
      window := some ⟨.read, 16#10, true, true⟩ } { base with path := { base.path with
        ctrl := .windowHeld 5 .read, marker := true } }))
    s.path.ctrl = .windowHeld 5 .read ∧ s.path.marker = true ∧ t.path.answer = .data 0xFFFFFFFF#32 ∧
      t.path.marker = false ∧
      t.journal.records.map (fun p => (p.record.kind, p.record.aux, p.record.value)) =
        [(.windowFault, 4#8, 0x00400004#32)] := by decide

/-- The done of an unclaimed write is discarded, and the deferred read is then offered to slot 12. -/
theorem test_unclaimed_write_and_deferred_read :
    let op := RegisterOp.write 5#32 15#4
    let s := shelf 12 (slotAt .linked) .initial (shelf 5 (slotAt .linked) { linkWith (.register op 17#10) with
      window := some ⟨op, 17#10, true, false⟩ } { base with path := { base.path with
        ctrl := .windowDeferred 12 .read 3#10, marker := true } })
    let t := after (exec (.registerWriteDone 5 41#8) s)
    let u := after (exec .deferredWindowOffer t)
    t.path.ctrl = .windowDeferred 12 .read 3#10 ∧ t.path.marker = false ∧ (t.link 5).window = none ∧
      u.path.ctrl = .windowHeld 12 .read ∧ u.path.marker = true := by decide

/-- A register read's data completes the held cycle, and so does a refusal, with all ones. -/
theorem test_register_replies :
    let s := shelf 5 (slotAt .linked) { linkWith (.register .read 16#10) with window := some ⟨.read, 16#10, true, true⟩ }
      { base with path := { base.path with ctrl := .windowHeld 5 .read, marker := true } }
    (after (exec (.registerDataReply 5 41#8 0xCAFE#32) s)).path.answer = .data 0xCAFE#32 ∧
      (after (exec (.registerRefusal 5 41#8 .noRegister) s)).path.answer = .data 0xFFFFFFFF#32 ∧
      (after (exec (.registerRefusal 5 41#8 .noRegister) s)).path.ctrl = .idle := by decide

/-- The waiting controller read is served before the waiting journal word. -/
theorem test_store_port_sharing :
    let cycle : PlainCycle := ⟨5#22, .read, 15#4⟩
    let s := { base with
      journal := { base.journal with
        head := 37#8, records := [⟨37#8, ⟨.slotLinked, some 4, 0#8, none, none, 7#16, 0#32, 0#32⟩⟩], word := some 1 },
      path := { base.path with ctrl := .plainWaiting cycle } }
    let t := after (exec .storePortArbitration s)
    let u := after (exec .storePortArbitration { s with path := { s.path with ctrl := .idle } })
    t.path.store = .controller cycle true ∧ t.path.ctrl = .plainServed ∧
      u.path.store = .journal (ringWordAddr 0#6 37#8 1) 0x0007FFFF#32 true := by decide

/-- R129: a plain write stores its enabled bytes; a later read of the word returns them. -/
theorem test_plain_write_and_read :
    let served := fun (a : Access) (s : State) => { s with path := { s.path with
      ctrl := .plainServed, store := .controller ⟨5#22, a, 3#4⟩ true } }
    let t := after (exec (.plainAccessDone 0#32) (served (.write 0x11223344#32) base))
    let u := after (exec (.plainAccessDone 0xAAAAAAAA#32) (served .read t))
    (after (exec (.plainAccess 5#22 .read 15#4) base)).path.ctrl = .plainWaiting ⟨5#22, .read, 15#4⟩ ∧
      t.memory = [(20, 0x44#8), (21, 0x33#8)] ∧ t.path.answer = .written ∧
          u.path.answer = .data 0xAAAA3344#32 := by decide

/-! ## The journal (09, Worked overrun, Worked tail writes, Worked controller reset) -/

/-- A ring with a head and a tail, attention enabled. -/
def ring (head tail : BitVec 8) (overrun : Bool) : State :=
  { base with
    journal := { base.journal with head := head, tail := tail, overrun := overrun, attention := head != tail },
    path := { base.path with captured := { base.path.captured with attentionEnable := true } } }

/-- A record of a kind. -/
def recordOf (k : RecordKind) : Record := ⟨k, none, 0#8, none, none, 0#16, 0#32, 0#32⟩

/-- The overrun table: dropped when full; gap and record with two free; gap alone with one free. -/
theorem test_overrun :
    ((ring 9#8 10#8 false).raise (recordOf .drift)).journal.overrun = true ∧
      (((ring 9#8 12#8 true).raise (recordOf .slotLinked)).journal.records.map fun p => (p.position, p.record.kind)) =
        [(9#8, .journalGap), (10#8, .slotLinked)] ∧
      ((ring 9#8 12#8 true).raise (recordOf .slotLinked)).journal.overrun = false ∧
      (((ring 11#8 13#8 true).raise (recordOf .recoverDone)).journal.records.map fun p => (p.position, p.record.kind)) =
        [(11#8, .journalGap)] ∧
      ((ring 11#8 13#8 true).raise (recordOf .recoverDone)).journal.overrun = true := by decide

/-- The five tail writes across the wrap: 252, 252, 4, 4, 5, and attention deasserted at the last. -/
theorem test_tail_writes :
    let w := fun s v => after (exec (.journalTailWrite v) s)
    let s1 := w (ring 5#8 250#8 false) 252#8
    let s2 := w s1 251#8
    let s3 := w s2 4#8
    let s4 := w s3 6#8
    let s5 := w s4 5#8
    [s1, s2, s3, s4, s5].map (fun s => s.journal.tail) = [252#8, 252#8, 4#8, 4#8, 5#8] ∧
      s4.journal.attention = true ∧ s5.journal.attention = false := by decide

/-- A controller reset during a write: positions to 0, the word at the store port abandoned, attention deasserted. -/
theorem test_controller_reset :
    let s := ring 40#8 38#8 false
    let t := after (exec .controllerReset { s with
      journal := { s.journal with records := [⟨40#8, recordOf .slotLost⟩, ⟨41#8, recordOf .entryFaulted⟩], word := some 1 },
      path := { s.path with store := .journal 5#22 0#32 true } })
    let u := after (exec .journalWordDone t)
    t.journal.head = 0#8 ∧ t.journal.records = [] ∧ t.journal.attention = false ∧
        t.path.store = .journal 5#22 0#32 false ∧
      u.journal.head = 0#8 ∧ u.path.store = .idle ∧
      (after (exec .controllerResetRelease t)).ctrlReset = false := by decide +kernel

/-- J3 completes: the head advances from 37 to 38 and the attention output follows. -/
theorem test_journal_word_done :
    let s := ring 37#8 37#8 false
    let t := after (exec .journalWordDone { s with
      journal := { s.journal with records := [⟨37#8, recordOf .slotLinked⟩], word := some 3 },
      path := { s.path with store := .journal (ringWordAddr 0#6 37#8 3) 0x43022616#32 true } })
    t.journal.head = 38#8 ∧ t.journal.records = [] ∧ t.journal.attention = true ∧
      Memory.readByte t.memory (0x9000 + 16 * 37 + 12) = some 0x16#8 := by decide

/-- R145: the attention enable is captured, and the output follows at once. -/
theorem test_attention_enable_write :
    (after (exec (.attentionEnableWrite false) (ring 9#8 5#8 false))).journal.attention = false := by decide

/-! ## Notices, requests and resets (01, 02, 05) -/

/-- 01, Power-on with FILT high: card-good declared good while the rail is watched gives HELD with force FULL, as FULL
attempt 1 (R174), and the recover notice then takes the slot to PENDING in FULL mode although the episode is SHORT. -/
theorem test_power_on_slot :
    let s := { State.reset with supply := { State.reset.supply with
      clock := 4#32, filtHigh := true, cards := State.reset.supply.cards.set 0 ⟨.good, .low, some 0#32⟩ } }
    let t := after (exec (.cardGoodDeclaredGood 0) s)
    let u := after (exec .recoverNoticeSlots { t with notices := { t.notices with slots := [.recover .short] } })
    (t.slot 0).state = .held ∧ (t.slot 0).forceFull = true ∧ (t.slot 0).attempt = 1 ∧ (u.slot 0).state = .pending ∧ (u.slot 0).mode = .full ∧
      (u.slot 0).attempt = 1 ∧ u.watching = false := by decide +kernel

/-- R2, R3: a card-good input that goes low opens a pending change. -/
theorem test_card_good_change :
    ((after (exec (.cardGoodChange 3 .good) base)).card 3) = ⟨.good, .low, some 10000#32⟩ := by decide

/-- R27, R50: card-good declared low in LINKED gives EMPTY, SLOT_LOST with reason CARD_GOOD, and the departure notices.
-/
theorem test_card_good_declared_low :
    let s := shelf 3 (slotAt .linked) .initial { base with supply := { base.supply with
      cards := base.supply.cards.set 3 ⟨.low, .good, some 9000#32⟩ } }
    let t := after (exec (.cardGoodDeclaredLow 3) s)
    (t.slot 3).state = .empty ∧ t.notices.departLink = [3] ∧
      t.journal.records.map (fun p => (p.record.kind, p.record.value)) = [(.slotLost, 1#32)] := by decide

/-- R42: the sag notice takes a LINKED slot to HELD. -/
theorem test_sag_notice_slots :
    let s := shelf 3 (slotAt .linked)
    let t := after (exec .sagNoticeSlots { s with notices := { s.notices with slots := [.sag] } })
    (t.slot 3).state = .held ∧ (t.slot 4).state = .empty ∧ t.watching = true ∧
        t.notices.departCircuits = [3] := by decide +kernel

/-- R46 to R49: the four requests at a LINKED slot in NORMAL. -/
theorem test_slot_requests :
    let s := shelf 3 (slotAt .linked)
    ((after (exec (.relink 3) s)).slot 3).state = .pending ∧
      ((after (exec (.relinkReset 3) s)).slot 3).pulseTimer = some 10010#32 ∧
      ((after (exec (.quiesce 3) s)).slot 3).resetOut = true ∧ ((after (exec (.resume 3) s)).slot 3).state = .linked ∧
      ((after (exec (.resume 3) (shelf 3 { slotAt .offline with resetOut := true }))).slot 3).state = .booting := by
          decide

/-- R172, R4: asserted power-on reset releases the reset outputs; the release puts the shelf in SAG. -/
theorem test_power_on_reset :
    let s := after (exec .powerOnResetAsserted (shelf 3 { slotAt .offline with resetOut := true }))
    let t := after (exec (.powerOnReset 5#6 true) s)
    s.por = true ∧ (s.slot 3).resetOut = false ∧ t.por = false ∧ t.supply.shelf = .sag ∧ t.path.area = 5#6 ∧
      t.supply.rail = ⟨.good, .low, some 0#32⟩ := by decide +kernel

/-- R1: the clock wraps after 4 294 967 295. -/
theorem test_clock_advance :
    (after (exec .clockAdvance { base with supply := { base.supply with clock := 4294967295#32 } })).supply.clock = 0#32 := by
  decide

/-! ## States that meet the hypotheses of the statements -/

/-- The base shelf with CLOCK_ADVANCE waiting. -/
def queued : State := { base with pending := [.clockAdvance] }

/-- Supply Watch with a rail input that has stood at a level other than the declared one for the filter time. -/
def railStands (l : Level) (sh : ShelfState) : State :=
  { base with supply := { base.supply with
      shelf := sh, rail := ⟨l, if l = .low then .good else .low, some 9999#32⟩ } }

/-- A card-good input of slot 3 that has stood at a level other than the declared one for the filter time. -/
def cardStands (l : Level) (c : SlotContext) (watching : Bool := false) : State :=
  { shelf 3 c .initial { base with supply := { base.supply with
      cards := base.supply.cards.set 3 ⟨l, if l = .low then .good else .low, some 9999#32⟩ } } with watching := watching }

/-- An entry of a table with one entry. -/
theorem entry_tableWith (e : Entry) (s : State) (i : EntryNo) :
    (tableWith e s).entry i = if i = 102 then e else .initial := by
  by_cases h : i = 102
  · subst h
    rfl
  · have : ¬(102 = i.val) := fun h' => h (Fin.ext h'.symm)
    simp [State.entry, tableWith, Sparse.lookup, this, h]

/-- The table with one entry holds the relations of the age list and the index. -/
theorem ageListOk_tableWith (e : Entry) (s : State) (h : e.state ≠ .idle) (hf : RequestFieldsBad e.fields = false) :
    AgeListOk (tableWith e s) := by
  refine ⟨by simp [tableWith], fun i => ?_, fun p i => ?_, fun i => ?_⟩
  · rw [entry_tableWith]
    by_cases hi : i = 102 <;> simp [tableWith, hi, h, Entry.initial]
  · rw [entry_tableWith]
    have hk : (tableWith e s).holder p = if p = e.fields.a ∨ p = e.fields.b then some 102 else none := by
      simp only [State.holder, tableWith, Sparse.lookup_insert, endpointKey_inj, Sparse.lookup]
      by_cases ha : p = e.fields.a <;> by_cases hb : p = e.fields.b <;> simp [ha, hb, eq_comm]
    rw [hk]
    by_cases hi : i = 102
    · by_cases ha : p = e.fields.a <;> simp [hi, h, ha]
    · simp [hi, Entry.initial, Ne.symm hi]
  · rw [entry_tableWith]
    by_cases hi : i = 102 <;> simp [hi, hf, Entry.initial]

/-- For ShelfStateFollowsTheRail to PortsWindowsAndStoreStayConsistent: every relation holds in the state with
CLOCK_ADVANCE waiting, and a step answers a next state. -/
theorem witness_relations_that_steps_keep : queued.Ok ∧ step queued = .next (after (step queued)) := by
  have hslot : ∀ n, queued.slot n = .initial := by decide
  have hlink : ∀ n, queued.link n = .initial := by decide
  have hcard : ∀ n, queued.card n = .initial := by decide
  have hlane : ∀ n, queued.lane n = none := by decide
  have hent : ∀ i, queued.entry i = .initial := fun _ => rfl
  refine ⟨⟨?_, ?_, ?_, ?_, ?_, ?_, ?_, ?_, ?_, ?_, ?_, ?_, ?_⟩, rfl⟩
  · exact ⟨by decide, by decide, fun _ => by unfold Filter.Timed; decide,
      fun _ n => by rw [hcard]; simp [Filter.Timed, Filter.initial], by decide, by decide⟩
  · refine ⟨fun n => ?_, by decide, by decide, by decide⟩
    rw [hslot]
    constructor <;> simp [SlotContext.initial, SlotState.relinking]
  · refine ⟨by decide, fun n l => ?_, fun l w => ?_⟩
    · rw [hslot]
      simp [SlotContext.initial]
    · rw [hlane]
      simp
  · refine ⟨fun n => ?_, ⟨by decide, by decide, by decide⟩⟩
    constructor <;> rw [hlink] <;> simp [LinkUnit.initial, hslot, SlotContext.initial, headInFlight]
  · constructor
    decide
  · refine ⟨by simp only [hlink]; decide, by simp only [hlink]; decide, fun n op h => ?_, fun _ n w h => ?_⟩
    · cases h
    · rw [hlink] at h
      cases h
  · constructor <;> decide
  · refine ⟨by decide, fun i => ?_, fun p i => ?_, fun i => ?_⟩ <;> rw [hent] <;>
      simp [queued, base, State.reset, CircuitTable.initial, Sparse.lookup, Entry.initial, State.holder]
  · constructor <;> decide
  · refine ⟨by decide, fun k p h => ?_, by decide, by decide, fun a d h => ?_⟩
    · simp [queued, base, State.reset, Journal.initial] at h
    · cases h
  · constructor <;> decide
  · constructor
    simp [queued, base, State.reset, PassThrough.initial]
  · constructor
    decide

/-- The part with power-on reset asserted, and a command that is none of the six that act then. -/
theorem witness_EveryCommandAnswers : State.por { base with por := true } = true ∧
    (∀ area filt, Instr.issue ≠ .powerOnReset area filt) ∧ Instr.issue ≠ .powerOnResetAsserted ∧
    Instr.issue ≠ .controllerReset ∧ Instr.issue ≠ .controllerResetRelease ∧ (∀ l, Instr.issue ≠ .railSenseChange l) ∧
    (∀ n l, Instr.issue ≠ .cardGoodChange n l) := by
  simp

/-- Slot 8 leaves LINKED by QUIESCE. -/
theorem witness_EveryDepartureIsNotified : LanesOk linked ∧ DeparturesOk linked ∧
    exec (.quiesce 8) linked = .next (after (exec (.quiesce 8) linked)) ∧
    (linked.slot 8).state = .linked ∧ ((after (exec (.quiesce 8) linked)).slot 8).state ≠ .linked := by
  have hl : ∀ n, (linked.slot n).lane = none := by decide
  have hn : ∀ l, linked.lane l = none := by decide
  refine ⟨⟨by decide, fun n l h => ?_, fun l w h => ?_⟩, ⟨by decide, by decide, by decide⟩, rfl, by decide, by decide⟩
  · rw [hl] at h
    cases h
  · rw [hn] at h
    cases h

/-- With an empty queue, one microsecond before and at the end of a millisecond, and while power-on reset is asserted.
-/
theorem witness_TimePassesByMicroseconds :
    let at_ := fun m => { base with supply := { base.supply with micro := m } }
    (at_ 998).pending = [] ∧ (at_ 998).por = false ∧ (at_ 998).supply.micro < 999 ∧ 999 ≤ (at_ 999).supply.micro ∧
      ({ base with por := true } : State).por = true := by decide

/-- Entry 5 moves to RESTORING by ISSUE. -/
theorem witness_CountsStayRight : exec .issue (twoWaiting 1) = .next (after (exec .issue (twoWaiting 1))) ∧
    ((twoWaiting 1).entry 5).state ≠ .restoring ∧ ((after (exec .issue (twoWaiting 1))).entry 5).state = .restoring := by
  refine ⟨rfl, ?_, ?_⟩ <;> decide

/-- The recover notice lowers the lowest closed class from 4 to 1. -/
theorem witness_BarriersStayOrdered :
    let s := { base with notices := { base.notices with restore := [.recover .long] } }
    BarriersOk s ∧ exec .recoverNoticeRestore s = .next (after (exec .recoverNoticeRestore s)) ∧
      (after (exec .recoverNoticeRestore s)).restore.lowestClosed < s.restore.lowestClosed := by
  refine ⟨⟨by decide, by decide, by decide⟩, rfl, by decide⟩

/-- A controller reset while the part runs, and its release with the port idle. -/
theorem witness_ControllerResetKeepsTheShelf :
    base.por = false ∧ base.path.ctrl = .idle ∧ base.judging.floor = false := by decide

/-- Two states with right counts that a command leads from and to, and an access sent while a judgement of a changed
floor is due. -/
theorem witness_ChangesAreJudged :
    CountsOk queued ∧ CountsOk (after (step queued)) ∧
      (let s := { base with judging := ⟨false, true⟩ }
       s.judging.floor = true ∧ (Instr.connect 102 fields102 15#4).isAccess = true) := by
  refine ⟨witness_relations_that_steps_keep.1.counts, ?_, by decide⟩
  constructor <;> decide

/-- Each field of the record words present and absent, a drift at each end of its range, and a slot that is LINKED and
one that is not. -/
theorem witness_WordsHoldTheirFields :
    (∀ d ∈ [(-32 : Int), 31], -32 ≤ d ∧ d ≤ 31) ∧ (linked.slot 8).state = .linked ∧ (linked.slot 9).state ≠ .linked ∧
      (recordOf .drift).slot = none ∧ (recordOf .drift).cls = none ∧ (recordOf .drift).entry = none ∧
      ((lastProbe .full []).slot 9).lane = some 1 ∧ (base.slot 9).lane = none := by decide

/-- A timer and an exchange timer read exactly at their expiry, one millisecond or microsecond before it, and at the
ends of their ranges. -/
theorem witness_TimersExpireOnTime :
    (∀ k ∈ [0, 9, 10, 65535], k ≤ 65535) ∧
    (∀ k ∈ [0, 2999, 3000, 1000000], ∃ w' : Supply, base.supply.micro < 1000 ∧ k ≤ 1000000 ∧
      w'.micros = (base.supply.micros + k) % microSpan) := by
  refine ⟨by decide, fun k hk => ?_⟩
  refine ⟨{ base.supply with micro := k }, by decide, ?_, ?_⟩
  · simp only [List.mem_cons, List.not_mem_nil, or_false] at hk
    omega
  · simp only [List.mem_cons, List.not_mem_nil, or_false] at hk
    have h : base.supply.micros = 10000000 := by decide +kernel
    rw [h]
    show (10000 : Nat) * 1000 + k = (10000000 + k) % 4294967296000
    omega

/-- The part runs: the one condition of RAIL_SENSE_CHANGE, CARD_GOOD_CHANGE and CLOCK_ADVANCE. -/
theorem witness_RawInputsAreTimed : base.por = false := by decide

/-- The rail declared low in each of the shelf states in which it may be. -/
theorem witness_RailDeclaredLow (sh : ShelfState) :
    (railStands .low sh).por = false ∧ (railStands .low sh).supply.shelf = sh ∧
      (railStands .low sh).supply.rail.StandsFor (railStands .low sh).supply.clock
        (railStands .low sh).supply.filterTime .low := by
  cases sh <;> exact ⟨rfl, rfl, by decide, 9999#32, rfl, by decide⟩

/-- The rail declared good in SAG; the settle timer at its expiry, with a duration at, above and below the limit. -/
theorem witness_SagEndsAndRecoveryBegins :
    ((railStands .good .sag).por = false ∧ (railStands .good .sag).supply.shelf = .sag ∧
      (railStands .good .sag).supply.rail.StandsFor (railStands .good .sag).supply.clock
        (railStands .good .sag).supply.filterTime .good) ∧
    (∀ d : BitVec 16,
      let s := { base with supply := { base.supply with
        shelf := .settle, settleTimer := some 10000#32, runDuration := d } }
      s.por = false ∧ s.supply.shelf = .settle ∧ s.supply.settleTimer = some 10000#32 ∧
        reached s.supply.clock 10000#32 = true) := by
  refine ⟨⟨rfl, rfl, by decide, 9999#32, rfl, by decide⟩, fun d => ⟨rfl, rfl, rfl, ?_⟩⟩
  show reached 10000#32 10000#32 = true
  decide

/-- A shelf in RECOVER, judged, with slots 8 and 11 LINKED and the floor at 2. -/
def recovering : State :=
  { linked with
    supply := { base.supply with shelf := .recover },
    judging := { recovery := true, floor := false },
    path := { base.path with captured := { base.path.captured with restoreFloor := 2#2 } } }

/-- A settled shelf in RECOVER, with no entry and with one above the floor; one with a slot in each unsettled state; one
with an entry that holds recovery open, RESTORING or WAITING; one not judged since it entered RECOVER. -/
theorem witness_RecoveryEndsWhenSettled :
    (recovering.por = false ∧ recovering.supply.shelf = .recover ∧ recovering.judging.recovery = true ∧
      ({ recovering with judging := ⟨false, false⟩ } : State).judging.recovery = false ∧
      recovering.circuits.entries = [] ∧
      (∀ n, (recovering.slot n).state ∉ [SlotState.held, .booting, .pending, .training, .identify])) ∧
    (∀ st ∈ [SlotState.held, .booting, .pending, .training, .identify],
      ((recovering.setSlot 3 (slotAt st)).slot 3).state = st) ∧
    (∀ c : BitVec 2, let e := entryAt .waiting ⟨c, ⟨8#5, 9#6⟩, ⟨11#5, 0#6⟩⟩
      (tableWith e recovering).circuits.entries = [(102, e)] ∧ (tableWith e recovering).bothLinked e = true ∧
        (tableWith e recovering).path.captured.restoreFloor = 2#2) ∧
    (tableWith (entryAt .restoring) recovering).circuits.entries = [(102, entryAt .restoring)] := by
  refine ⟨by decide, by decide, fun c => ⟨rfl, rfl, rfl⟩, rfl⟩

/-- RELINK_ALL in NORMAL and in every other shelf state. -/
theorem witness_RelinkAllForcesAnEpisode (sh : ShelfState) :
    let s := { base with supply := { base.supply with shelf := sh } }
    s.PortFree ∧ s.supply.shelf = sh := ⟨⟨rfl, rfl, rfl, rfl⟩, rfl⟩

/-- A slot in each state; in TRAINING with a lane; at an attempt below the third, and at the third. -/
theorem witness_AttemptFailures :
    (∀ st ∈ [SlotState.empty, .booting, .pending, .training, .identify, .linked, .held, .failed, .mismatch, .offline],
      ((shelf 9 (slotAt st)).slot 9).state = st) ∧
    (((lastProbe .full []).slot 9).state = .training ∧ ((lastProbe .full []).slot 9).lane = some 1) ∧
    ((shelf 9 (slotAt .booting .full 2)).slot 9).attempt < 3 ∧
        3 ≤ ((shelf 9 (slotAt .booting .full 3)).slot 9).attempt ∧
    (((shelf 9 { slotAt .booting with bootTimer := some 10000#32 }).slot 9).bootTimer = some 10000#32 ∧
      reached base.supply.clock 10000#32 = true) ∧
    (let s := shelf 9 (slotAt .identify) (linkWith .identityQuery true)
     (s.slot 9).state = .identify ∧ s.TimedOut 9 ⟨.identityQuery, 41#8, true, 10000000⟩) := by
  refine ⟨by decide, by decide, by decide, by decide, by decide, by decide, by decide, by decide +kernel⟩

/-- A card declared good in EMPTY, watched and unwatched, and in OFFLINE; declared low in every other state. -/
theorem witness_CardGoodDeclarations (st : SlotState) (watching : Bool) (l : Level) :
    let s := cardStands l (slotAt st) watching
    s.por = false ∧ (s.slot 3).state = st ∧ s.watching = watching ∧
      (s.card 3).StandsFor s.supply.clock s.supply.filterTime l := by
  refine ⟨rfl, rfl, rfl, ?_, 9999#32, ?_, ?_⟩
  · cases l
    · show Level.good ≠ .low
      decide
    · show Level.low ≠ .good
      decide
  · cases l <;> rfl
  · show reached 10000#32 (9999#32 + 1#32) = true
    decide

/-- The sag notice is the next one for the Slot Sequencer, with a departure notice on its way to the table and none. -/
theorem witness_SagNoticeHoldsEverySlot : ∀ table ∈ [[], [(3 : SlotNo)]],
    let s := { base with notices := { base.notices with slots := [.sag], departCircuits := table } }
    s.por = false ∧ s.notices.slots.head? = some .sag ∧ s.notices.departCircuits = table := by decide

/-- A HELD slot with force reset, with its pulse running, with all six conditions of VERIFY, and with none of these. -/
theorem witness_RecoverNoticeMovesEveryHeldSlot :
    let s := { base with notices := { base.notices with slots := [.recover .short] } }
    let held := slotAt .held
    let known := { held with wasLinked := true, cgHeld := true, lastGood := ⟨25#6, .std, true⟩ }
    s.por = false ∧ s.notices.slots.head? = some (.recover .short) ∧ held.state = .held ∧
      ({ held with forceReset := true } : SlotContext).forceReset = true ∧
      ({ held with pulseTimer := some 10005#32 } : SlotContext).pulseTimer.isSome = true ∧
      (held.forceReset = false ∧ held.pulseTimer = none ∧ held.wasLinked = false) ∧
      (known.forceReset = false ∧ known.pulseTimer = none ∧ (known.wasLinked && known.cgHeld && !known.forceFull &&
        known.lastGood.valid && decide (known.lastGood.rate = (s.sl0 3).rate)) = true) := by decide

/-- The pulse timer at its expiry in BOOTING and in HELD; the boot wait, and a link that does not listen. -/
theorem witness_ResetPulseAndBootWait :
    (∀ st ∈ [SlotState.booting, .held], let s := shelf 9 { slotAt st with pulseTimer := some 10000#32 }
      s.por = false ∧ (s.slot 9).pulseTimer = some 10000#32 ∧ reached s.supply.clock 10000#32 = true ∧
        (s.slot 9).state = st) ∧
    (let s := shelf 9 (slotAt .booting) { LinkUnit.initial with listening := true }
     s.por = false ∧ (s.slot 9).state = .booting ∧ (s.link 9).listening = true ∧ (s.link 8).listening = false) := by
  decide

/-- An identity query and a clear order in flight, in both modes, with an expected type that matches, that does not, and
that is not set. -/
theorem witness_IdentityAndClearOrder (mode : Mode) (expected : BitVec 16) (work : Work) :
    let s := shelf 9 { slotAt .identify mode with expected := expected } (linkWith work)
    s.por = false ∧ (s.slot 9).state = .identify ∧ (s.slot 9).mode = mode ∧ (s.slot 9).expected = expected ∧
      s.InFlight 9 ⟨work, 41#8, false, 10000000⟩ := ⟨rfl, rfl, rfl, rfl, rfl⟩

/-- The second timeout of an order, and link loss that stands declared. -/
theorem witness_LinkLossRelinksTheSlot :
    ((slot6 true).por = false ∧ ((slot6 true).slot 6).state = .linked ∧
      (slot6 true).TimedOut 6 ⟨.order c12, 41#8, true, 10000000⟩) ∧
    (let s := shelf 6 (slotAt .linked) { LinkUnit.initial with lossDeclared := true }
     s.por = false ∧ (s.slot 6).state = .linked ∧ (s.link 6).lossDeclared = true) := by
  refine ⟨⟨by decide, by decide, by decide, by decide +kernel⟩, by decide⟩

/-- A slot in each state, watched and unwatched, with the controller port free. -/
theorem witness_SlotRequestsByState (st : SlotState) (watching : Bool) (l : Level) :
    let s := { shelf 3 { slotAt st with cardGood := l } with watching := watching }
    s.PortFree ∧ (s.slot 3).state = st ∧ s.watching = watching ∧ (s.slot 3).cardGood = l :=
  ⟨⟨rfl, rfl, rfl, rfl⟩, rfl, rfl, rfl⟩

/-- Slot 3 is the only one PENDING, in each mode, with a last-good record that is known or not, and with each of its
departure notices on its way or taken, and with a sag notice late at the Circuit Table or not; every lane is idle; and a
shelf with no slot PENDING, and with no lane idle. -/
theorem witness_LaneGrantServesLowestLevelFirst :
    (∀ mode ∈ [Mode.full, .verify], ∀ valid ∈ [true, false], ∀ link ∈ [[], [(3 : SlotNo)]],
      ∀ table ∈ [[], [(3 : SlotNo)]], ∀ late ∈ [0, 1],
      let s := shelf 3 { slotAt .pending mode with lastGood := ⟨25#6, .std, valid⟩ } .initial { base with
        notices := { base.notices with departLink := link, departCircuits := table, circuits := late } }
      s.por = false ∧ (s.slot 3).state = .pending ∧ (s.slot 3).mode = mode ∧
        (∀ m, (s.slot m).state = .pending → (s.sl0 3).relinkLevel < (s.sl0 m).relinkLevel ∨
          ((s.sl0 3).relinkLevel = (s.sl0 m).relinkLevel ∧ 3 ≤ m)) ∧
        s.lane 0 = none ∧ (∀ k, s.lane k = none → 0 ≤ k) ∧ s.notices.departLink = link ∧
        s.notices.departCircuits = table ∧ s.lateSags = late ∧
        ((s.slot 3).lastGood.valid = true ∧ (s.slot 3).lastGood.rate = (s.sl0 3).rate ↔ valid = true)) ∧
    (∀ n, (base.slot n).state ≠ .pending) ∧
    (∀ l, ({ base with lanes := Vector.replicate 4 (some ⟨0, .full, .std, 16#5, none, 0, 1, 0, []⟩) } : State).lane l ≠ none) := by
  decide

/-- A probe in flight in each mode: before the eighth of a tap, at the eighth, and at the end of the sweep. -/
theorem witness_ProbesWalkThroughTheSweep (mode : Mode) (readings : List Reading) (probe : Nat) :
    let w : Sweep := ⟨9, mode, .std, 16#5, some 40#6, readings.length, probe, 0, readings⟩
    let s := { shelf 9 { slotAt .training mode with lane := some 1 } (linkWith (.probe 44#6)) with
      lanes := #v[none, some w, none, none] }
    s.por = false ∧ s.Sweeping 9 1 w ∧ s.InFlight 9 ⟨.probe 44#6, 41#8, false, 10000000⟩ ∧
      s.supply.microReached 10000000 = true := by
  refine ⟨rfl, ⟨rfl, rfl⟩, rfl, ?_⟩
  show base.supply.microReached 10000000 = true
  decide +kernel

/-- The last probe of a sweep that locks, that finds no edge, and whose spread is above the limit. -/
theorem witness_SweepsLockOrFail :
    (∀ mode ∈ [Mode.full, .verify], (if mode = .full then 63 else 8) + 1 = mode.positions) ∧
    findEdge ([.high, .low, .low, .unsure, .unsure, .high, .high, .high] ++ [readingOf 8]) .verify = some (5, 2) ∧
    edgeSpread (tapAt (some 40#6) 2) (tapAt (some 40#6) 5) ≤ base.path.captured.spreadLimit.toNat ∧
    findEdge (List.replicate 8 .low ++ [readingOf 0]) .verify = none ∧
    findEdge (List.replicate 63 .low ++ [readingOf 0]) .full = none ∧
    findEdge (List.replicate 57 .low ++ List.replicate 6 .unsure ++ [readingOf 8]) .full = some (63, 56) ∧
    base.path.captured.spreadLimit.toNat < edgeSpread (tapAt none 56) (tapAt none 63) := by decide

/-- For SearchesFindTheFirstEdge and EdgeIsTheMiddleOfTheStep: two taps that differ, across the wrap and not; the ends
of a VERIFY window. -/
theorem witness_SearchesFindTheFirstEdge :
    (61#6 ≠ 2#6 ∧ 0#6 ≠ 63#6) ∧ (∃ g : LastGood, g.valid = true ∧ g.rate = .std) ∧ (0 < 8 ∧ 8 ≤ 8) ∧ (7 < 8) :=
  ⟨by decide, ⟨⟨2#6, .std, true⟩, rfl, rfl⟩, by decide, by decide⟩

/-- A free link with a window request, with an order, and with neither; the first timeout of each kind of request. -/
theorem witness_ExchangesStartAndRetry :
    (∀ w : Option WindowRequest, ∀ os : List Order,
      let s := shelf 6 (slotAt .linked) { LinkUnit.initial with orders := os, window := w }
      s.por = false ∧ (s.slot 6).state = .linked ∧ (s.link 6).exchange = none ∧ (s.link 6).lossDeclared = false ∧
        (s.link 6).window = w ∧ (s.link 6).orders = os) ∧
    (∀ work : Work, (shelf 6 (slotAt .linked) (linkWith work)).por = false ∧
      (shelf 6 (slotAt .linked) (linkWith work)).TimedOut 6 ⟨work, 41#8, false, 10000000⟩) ∧
    (∀ k ∈ [0, 2, 6, 14],
      let s := { base with supply := { base.supply with elapsed := base.supply.elapsed + k } }
      s.por = false ∧ (s.link 6).line = [] ∧ (s.link 6).exchange = none ∧ (s.link 6).idleFrom ≤ s.supply.now) ∧
    (∀ f : LineFrame, f.ends = 10000001 * 16 → ∀ rest,
      let s := shelf 6 (slotAt .linked) { LinkUnit.initial with line := [] ++ f :: rest }
      s.por = false ∧ (s.link 6).line = [] ++ f :: rest ∧ s.supply.now < f.ends) := by
  refine ⟨fun w os => ⟨rfl, rfl, rfl, rfl, rfl, rfl⟩, fun work => ⟨rfl, rfl, ?_⟩,
    fun k hk => ⟨rfl, rfl, rfl, Nat.zero_le _⟩, fun f hf rest => ⟨rfl, rfl, ?_⟩⟩
  rotate_left
  · rw [hf]
    have := (Config.instant 10000000).isLt
    show 10000000 * 16 + (Config.instant 10000000).toNat < 10000001 * 16
    omega
  show base.supply.microReached 10000000 = true
  decide +kernel

/-- A frame that fails each of the five tests: cut short, of another kind, at another rate, with a check that is not the
one computed, an idle frame that nobody listens for, with no exchange in flight, with another tag, and with a content
that does not complete the exchange. -/
theorem witness_DiscardedFramesHaveNoEffect :
    let s := slot6 false
    Rate.fast ≠ (s.link 6).workingRate ∧ (s.link 6).listening = false ∧ (base.link 6).exchange = none ∧
      FrameContent.done ≠ .idle ∧ FrameContent.done.kind = some .done ∧
      (∀ computed : BitVec 16, ∃ check, computed ≠ check) ∧
      (∃ x, (s.link 6).exchange = some x ∧ x.tag ≠ 40#8) ∧
      (∃ x, (s.link 6).exchange = some x ∧ completes x.work (.sample true) = false) := by
  refine ⟨by decide, by decide, by decide, by decide, rfl, fun c => ⟨c + 1#16, ?_⟩,
    ⟨⟨.order c12, 41#8, false, 10000000⟩, rfl, by decide⟩, ⟨⟨.order c12, 41#8, false, 10000000⟩, rfl, by decide⟩⟩
  intro h
  have := congrArg BitVec.toNat h
  rw [BitVec.toNat_add] at this
  have h' := c.isLt
  simp at this
  omega

/-- The departure notice of slot 6, with no window request, an unclaimed one and a claimed one. -/
theorem witness_DepartureEmptiesTheLink (w : Option WindowRequest) :
    let s := shelf 6 (slotAt .pending) { linkWith (.order c12) with orders := [c12, c40], window := w }
      { base with notices := { base.notices with departLink := [6] } }
    s.por = false ∧ 6 ∈ s.notices.departLink ∧ (s.link 6).window = w := ⟨rfl, List.mem_cons_self, rfl⟩

/-- The counts are right in the base shelf with CLOCK_ADVANCE waiting. -/
theorem witness_EntryWritesAndBecomingIdle : CountsOk queued := witness_relations_that_steps_keep.1.counts

/-- A CONNECT to an IDLE entry, off the shelf at either end of it, to one port twice, to a held port, to free ports,
with a byte missing, and to an entry outside IDLE with the same fields and with others. -/
theorem witness_ConnectAdmitsOrRefuses :
    let held := tableWith (entryAt .live)
    base.PortFree ∧ held.PortFree ∧ (7#4 ≠ 15#4) ∧ (base.entry 102).state = .idle ∧ 24 ≤ (24#5).toNat ∧
      (⟨8#5, 9#6⟩ : Endpoint) = ⟨8#5, 9#6⟩ ∧ ((held.entry 103).state = .idle ∧
          (held.holder fields102.a).isSome = true) ∧
      ¬(24 ≤ fields102.a.slot.toNat ∨ 24 ≤ fields102.b.slot.toNat ∨ fields102.a = fields102.b) ∧
      ¬((base.holder fields102.a).isSome = true ∨ (base.holder fields102.b).isSome = true) ∧
      ((held.entry 102).state ≠ .idle ∧ (held.entry 102).fields = fields102 ∧ (held.entry 102).fields ≠ fieldsOne) := by
  refine ⟨⟨rfl, rfl, rfl, rfl⟩, ⟨rfl, rfl, rfl, rfl⟩, ?_⟩
  decide

/-- An entry in each state, with any marks, at which RELEASE, NONE and a bad request are written. -/
theorem witness_ReleaseNoneAndBadRequests (st : EntryState) (a b : Mark) :
    let s := tableWith (entryAt st fields102 a b)
    s.PortFree ∧ (s.entry 102).state = st ∧ (s.entry 102).fields = fields102 ∧ (s.entry 102).markA = a ∧
      (s.entry 102).markB = b ∧ fields102 ≠ fieldsOne := by
  refine ⟨⟨rfl, rfl, rfl, rfl⟩, ?_, ?_, ?_, ?_, by decide⟩ <;> rw [entry_tableWith] <;> rfl

/-- Endpoints on two LINKED slots and on one, and on slots that are not LINKED; an order of one port and of both handed
back against any marks, naming its entry's endpoints and not; an order withdrawn from its place behind another, in
flight, and not in the list. -/
theorem witness_OrdersAppendedWithdrawnHandedBack (e : Entry) (kind : OrderKind) (ends : Ends) (flight : Bool) (a b : Mark) :
    ((8 : SlotNo).val = fields102.a.slot.toNat ∧ (11 : SlotNo).val = fields102.b.slot.toNat ∧
      (8 : SlotNo).val = fieldsOne.a.slot.toNat ∧ (8 : SlotNo).val = fieldsOne.b.slot.toNat ∧
      (linked.slot 8).state = .linked ∧ (linked.slot 11).state = .linked ∧ (base.slot 8).state ≠ .linked) ∧
    (let one := entryAt .releasing fields102 a b
     let both := entryAt .releasing fieldsOne a b
     (one.order 102 kind (.one .a)).NamesOn 8 one ∧ (one.order 102 kind (.one .b)).NamesOn 11 one ∧
       (both.order 102 kind .both).NamesOn 8 both ∧ ¬(one.order 102 kind (.one .a)).NamesOn 9 one ∧
       one.markA = a ∧ one.markB = b ∧ both.markA = a ∧ both.markB = b ∧ (tableWith one).entry 102 = one ∧
       (tableWith both).entry 102 = both) ∧
    (let o : Order := { e.order 102 kind ends with inFlight := flight }
     o.ends = ends ∧ o.kind = kind ∧ o.entry = 102 ∧ o.inFlight = flight ∧ (tableWith e).entry o.entry = e ∧
       (shelf 8 (slotAt .linked) { LinkUnit.initial with orders := [c40, o] }).link 8 =
         { LinkUnit.initial with orders := [c40] ++ o :: [] } ∧ ¬(c40.entry = 102 ∧ c40.ends = ends)) ∧
    (linked.link 8).orders = [] := by
  refine ⟨by decide, ⟨⟨rfl, rfl⟩, ⟨rfl, rfl⟩, ⟨rfl, rfl, rfl, rfl⟩, fun h => ?_, rfl, rfl, rfl, rfl, ?_, ?_⟩,
    ⟨rfl, rfl, rfl, rfl, ?_, rfl, ?_⟩, by decide⟩
  · exact absurd h.1 (by show ¬((8 : Nat) = 9); decide)
  · rw [entry_tableWith]
    rfl
  · rw [entry_tableWith]
    rfl
  · rw [entry_tableWith]
    rfl
  · simp [c40]

/-- For the statements that name `r`: with no departure notice on its way it is the state itself, and so in the states
above and below. -/
theorem witness_no_notice_due (i : EntryNo) (e : Entry) :
    queued.reachEntry i = queued ∧ (tableWith e).reachEntry i = tableWith e ∧
      (tableWith e linked).reachEntry i = tableWith e linked :=
  ⟨State.reachEntry_of_no_notice rfl i, State.reachEntry_of_no_notice rfl i, State.reachEntry_of_no_notice rfl i⟩

/-- Departure notices of slots 9 and 8 on their way, with a RESTORING or LIVE entry on slot 8 and on no slot of a notice
sent before it. -/
theorem witness_notice_due (st : EntryState) (h : st ∈ [EntryState.restoring, .live]) :
    let s := tableWith (entryAt st) { linked with notices := { linked.notices with departCircuits := [9] ++ 8 :: [] } }
    s.por = false ∧ AgeListOk s ∧ s.entry 102 = entryAt st ∧ (entryAt st).state = st ∧
      s.notices.departCircuits = [9] ++ 8 :: [] ∧ (entryAt st).on .a 8 = true ∧ (entryAt st).on .a 9 = false ∧
      (entryAt st).on .b 9 = false := by
  refine ⟨rfl, ageListOk_tableWith _ _ ?_ (by show RequestFieldsBad fields102 = false; decide), entry_tableWith _ _ 102,
    rfl, rfl, rfl, rfl, rfl⟩
  rintro rfl
  revert h
  decide

/-- R103, R174: RELEASE of a LIVE entry after QUIESCE of one of its slots goes straight to IDLE with no release order,
whether or not the departure notice has been taken by itself. -/
theorem test_release_after_quiesce :
    let s := after (exec (.quiesce 8) (tableWith (entryAt .live) linked))
    let t := after (exec (.release 102 fields102 15#4) s)
    s.notices.departCircuits = [8] ∧ (s.entry 102).state = .live ∧ (t.entry 102).state = .idle ∧
      (t.entry 102).outcome = .released ∧ (t.link 8).orders = [] ∧ (t.link 11).orders = [] ∧
      t.notices.departCircuits = [] := by decide

/-- R103, R105: a sag notice takes the departure notice of a slot that left LINKED by QUIESCE first, at whichever of the
two receivers it is taken first. -/
theorem test_sag_after_quiesce :
    let s := after (exec (.quiesce 8) (tableWith (entryAt .live) linked))
    let sag := { s with notices := { s.notices with slots := [.sag], circuits := 1 } }
    let t := after (exec .sagNoticeCircuits sag)
    let u := after (exec .sagNoticeSlots sag)
    t.notices.departCircuits = [] ∧ (t.entry 102).state = .waiting ∧ u.notices.departCircuits = [11] ∧
      (u.entry 102).state = .waiting := by decide +kernel

/-- R105: slot 8 leaves LINKED by QUIESCE and enters HELD by RESUME during the sag; once the sag notice and the departure
notice of slot 11, which the sag moved, have been taken, the late connects on both are gone, in either order. -/
theorem test_late_connect_goes_with_the_sag :
    let s := after (exec (.quiesce 8) (tableWith (entryAt .waiting fields102 .lateConnect .lateConnect) linked))
    let t := after (exec .sagNoticeSlots { s with notices := { s.notices with slots := [.sag], circuits := 1 } })
    let u := after (exec (.resume 8) t)
    let v := after (exec (.departureNoticeCircuits 11) (after (exec .sagNoticeCircuits u)))
    let w := after (exec .sagNoticeCircuits (after (exec (.departureNoticeCircuits 11) u)))
    (u.slot 8).state = .held ∧ u.notices.departCircuits = [11] ∧ (v.entry 102).noMarks = true ∧
      (w.entry 102).noMarks = true ∧ (v.entry 102).state = .waiting := by decide +kernel

/-- The slots of a LIVE entry held by a sag and recovered before the Circuit Table has taken the sag notice. -/
def sagTakenLate : State :=
  let s := tableWith { entryAt .live with doneA := true, doneB := true } linked
  after (exec .recoverNoticeSlots (after (exec .sagNoticeSlots
    { s with notices := { s.notices with slots := [.sag, .recover .short], circuits := 1 } })))

/-- R105: the lane grant of the first slot takes the sag notice, so that the entry is parked before its slots can be
LINKED again. -/
theorem test_lane_grant_takes_a_late_sag :
    let t := after (exec .laneGrant sagTakenLate)
    sagTakenLate.lateSags = 1 ∧ (sagTakenLate.entry 102).state = .live ∧ (t.slot 8).state = .training ∧
      t.notices.circuits = 0 ∧ (t.entry 102).state = .waiting ∧ (t.entry 102).noMarks = true ∧
      t.notices.departCircuits = [11] := by decide +kernel

/-- For the second part of LinksCarryTheWorkOfTheirSlot: a sag notice that the table has yet to take, with every slot
away from TRAINING, IDENTIFY and LINKED. -/
theorem witness_LinksCarryTheWorkOfTheirSlot : SagsOk sagTakenLate ∧ 0 < sagTakenLate.lateSags :=
  ⟨⟨fun _ => by decide +kernel⟩, by decide +kernel⟩

/-- RELEASE_ALL with an entry in any state outside IDLE, with any marks, between two slots that are LINKED and that are
not. -/
theorem witness_ReleaseAllReleasesEveryEntry (st : EntryState) (h : st ≠ .idle) (a b : Mark) :
    let e := entryAt st fields102 a b
    ∀ shelf ∈ [base, linked], (tableWith e shelf).PortFree ∧ AgeListOk (tableWith e shelf) ∧
      (tableWith e shelf).entry 102 = e ∧ e.state = st ∧ e.markA = a ∧ e.markB = b ∧
      (tableWith e shelf).endpointLinked (e.endpoint .a) = shelf.endpointLinked (e.endpoint .a) ∧
      linked.endpointLinked (e.endpoint .a) = true ∧ base.endpointLinked (e.endpoint .a) = false := by
  intro e shelf hs
  refine ⟨?_, ageListOk_tableWith _ _ h (by show RequestFieldsBad fields102 = false; decide),
    by rw [entry_tableWith]; rfl, rfl, rfl, rfl, rfl, rfl, rfl⟩
  simp only [List.mem_cons, List.not_mem_nil, or_false] at hs
  rcases hs with rfl | rfl <;> exact ⟨rfl, rfl, rfl, rfl⟩

/-- For ConnectDoneByMark, ConnectRefusalByMark and ReleaseResultEndsTheRelease: an order of either kind in flight on
slot 8 for endpoint A of an entry between slots 8 and 11, and for both endpoints of an entry on slot 8, with any state,
marks and flags; and the order of an entry that has since been aimed at other ports. -/
theorem witness_order_results (st : EntryState) (a b : Mark) (doneB after : Bool) (kind : OrderKind) :
    ∀ p ∈ [(fields102, Ends.one .a), (fieldsOne, Ends.both)],
      let e := { entryAt st p.1 a b with doneB := doneB, releaseAfter := after }
      let o : Order := { e.order 102 kind p.2 with inFlight := true }
      let s := shelf 8 (slotAt .linked) { linkWith (.order o) with orders := [o] } (tableWith e)
      s.por = false ∧ s.InFlight 8 ⟨.order o, 41#8, false, 10000000⟩ ∧ o.kind = kind ∧ o.ends = p.2 ∧
          s.entry o.entry = e ∧
        o.NamesOn 8 e ∧ ¬o.NamesOn 8 (entryAt st ⟨0#2, ⟨9#5, 9#6⟩, ⟨11#5, 0#6⟩⟩) := by
  intro p hp
  simp only [List.mem_cons, List.not_mem_nil, or_false] at hp
  rcases hp with rfl | rfl
  · exact ⟨rfl, rfl, rfl, rfl, entry_tableWith _ base 102, ⟨rfl, rfl⟩,
      fun h => absurd h.1 (by show ¬((9 : Nat) = 8); decide)⟩
  · exact ⟨rfl, rfl, rfl, rfl, entry_tableWith _ base 102, ⟨rfl, rfl, rfl, rfl⟩,
      fun h => absurd h.1 (by show ¬((9 : Nat) = 8); decide)⟩

/-- The sag notice, taken by the Slot Sequencer before and not, with an entry in any state outside IDLE, with any marks
and release-after, on two slots and on one. -/
theorem witness_SagNoticeParksEveryEntry (st : EntryState) (h : st ≠ .idle) (a b : Mark) (after : Bool) :
    ∀ f ∈ [fields102, fieldsOne], ∀ slots ∈ [[], [ShelfNotice.sag]],
      let e := { entryAt st f a b with releaseAfter := after }
      let s := tableWith e { linked with notices := { linked.notices with circuits := 1, slots := slots } }
      s.lateSags = 1 - slots.length ∧ s.por = false ∧ 0 < s.notices.circuits ∧ AgeListOk s ∧ s.entry 102 = e ∧ e.state = st ∧ e.markA = a ∧
          e.markB = b ∧
        e.releaseAfter = after := by
  intro f hf slots hs
  refine ⟨?_, rfl, Nat.one_pos, ageListOk_tableWith _ _ h ?_, entry_tableWith _ _ 102, rfl, rfl, rfl, rfl⟩
  · simp only [List.mem_cons, List.not_mem_nil, or_false] at hs
    rcases hs with rfl | rfl <;> rfl
  · simp only [List.mem_cons, List.not_mem_nil, or_false] at hf
    rcases hf with rfl | rfl
    · show RequestFieldsBad fields102 = false
      decide
    · show RequestFieldsBad fieldsOne = false
      decide

/-- The departure notice of slot 8 with an entry in any state outside IDLE, its other endpoint on slot 11, LINKED or
not, or on slot 8 too. -/
theorem witness_DepartureNoticeParksTheSlot (st : EntryState) (h : st ≠ .idle) (a b : Mark) (after done : Bool) :
    ∀ f ∈ [fields102, fieldsOne], ∀ st' ∈ [SlotState.linked, .pending],
      let e := { entryAt st f a b with releaseAfter := after, doneB := done }
      let s := tableWith e { linked.setSlot 11 (slotAt st') with
        notices := { linked.notices with departCircuits := [8] } }
      s.por = false ∧ 8 ∈ s.notices.departCircuits ∧ AgeListOk s ∧ s.entry 102 = e ∧ e.on .a 8 = true ∧
        e.on .b 8 = decide (f = fieldsOne) ∧ s.endpointLinked ⟨11#5, 0#6⟩ = decide (st' = .linked) ∧
        e.done .b = done := by
  intro f hf st' hs
  simp only [List.mem_cons, List.not_mem_nil, or_false] at hf hs
  refine ⟨rfl, List.mem_cons_self, ageListOk_tableWith _ _ h ?_, entry_tableWith _ _ 102, ?_, ?_, ?_, rfl⟩
  · rcases hf with rfl | rfl
    · show RequestFieldsBad fields102 = false
      decide
    · show RequestFieldsBad fieldsOne = false
      decide
  · rcases hf with rfl | rfl <;> rfl
  · rcases hf with rfl | rfl <;> rfl
  · rcases hs with rfl | rfl <;> rfl

/-- Entry 5 is the best eligible entry, with every combination of marks; no entry is eligible; the phase and the window
forbid an issue. -/
theorem witness_IssueTakesTheBestEligibleEntry :
    let s := twoWaiting 4
    let eligible := fun i : EntryNo => i ∈ s.circuits.ageList ∧ (s.entry i).state = .waiting ∧
      s.bothLinked (s.entry i) = true ∧ (s.entry i).fields.cls ≤ s.path.captured.restoreFloor ∧
      (s.entry i).fields.cls.toNat < s.restore.lowestClosed
    s.por = false ∧ eligible 5 ∧ eligible 40 ∧ (s.entry 5).fields.cls < (s.entry 40).fields.cls ∧
      s.circuits.ageList = [40, 5] ∧ s.restore.phase ≠ .sagged ∧ s.restore.restoring < 16 ∧
      (s.entry 5).markA = .none ∧ (s.entry 5).markB = .none ∧ (s.entry 5).oneSlot = false ∧
      base.circuits.ageList = [] ∧ State.reset.restore.phase = .sagged ∧
      16 ≤ ({ s with restore := { s.restore with restoring := 16 } } : State).restore.restoring := by decide

/-- A WAITING entry with any marks between two LINKED slots is eligible where its class is open. -/
theorem witness_issue_with_marks (a b : Mark) :
    let e := entryAt .waiting fields102 a b
    let s := tableWith e { linked with restore := ⟨.recovering, 4, none, 0⟩ }
    s.por = false ∧ 102 ∈ s.circuits.ageList ∧ s.entry 102 = e ∧ s.bothLinked e = true ∧
      e.fields.cls ≤ s.path.captured.restoreFloor ∧ e.fields.cls.toNat < s.restore.lowestClosed ∧
      s.restore.phase ≠ .sagged ∧ s.restore.restoring < 16 :=
  ⟨rfl, List.mem_cons_self, entry_tableWith _ _ 102, rfl, by show (0#2 : BitVec 2) ≤ 3#2; decide,
    by show (0 : Nat) < 4; decide, by show EnginePhase.recovering ≠ .sagged; decide, by show (0 : Nat) < 16; decide⟩

/-- Recovery with each lowest closed class, held by an entry and not; the timer at its expiry and stopped; the normal
phase, and every class open. -/
theorem witness_BarriersFollowNoticesAndOpenings :
    (∀ (c : Nat) (t : Timer),
      let s := { base with restore := ⟨.recovering, c, t, 0⟩ }
      s.por = false ∧ s.restore.phase = .recovering ∧ s.restore.lowestClosed = c ∧ s.restore.timer = t ∧
        s.circuits.entries = []) ∧
    (let s := tableWith (entryAt .waiting) { linked with restore := ⟨.recovering, 1, none, 0⟩ }
     s.circuits.entries = [(102, entryAt .waiting)] ∧ fields102.cls.toNat < s.restore.lowestClosed ∧
       fields102.cls ≤ s.path.captured.restoreFloor ∧ s.endpointState fields102.a = some .linked ∧
       s.endpointState fields102.b = some .linked) ∧
    reached 10000#32 10000#32 = true ∧ base.restore.phase ≠ .recovering ∧ 4 ≤ base.restore.lowestClosed :=
  ⟨fun _ _ => ⟨rfl, rfl, rfl, rfl, rfl⟩, ⟨rfl, by decide, by decide, by decide, by decide⟩, by decide, by decide, by
      decide⟩

/-- For BarriersFollowNoticesAndOpenings: each of the three notices is the next one for the Restore Engine. -/
theorem witness_barrier_notices (m : ShelfNotice) :
    let s := { base with notices := { base.notices with restore := [m] } }
    s.por = false ∧ s.notices.restore.head? = some m := ⟨rfl, rfl⟩

/-- Free counts of 0, 1, 2 and 255, with the overrun flag clear and set. -/
theorem witness_RecordsAreAcceptedOrDropped (overrun : Bool) :
    let j := fun h t => (ring h t overrun).journal
    (∀ p ∈ [(9#8, 10#8, 0), (9#8, 11#8, 1), (9#8, 12#8, 2), (0#8, 0#8, 255)],
      255 - (((j p.1 p.2.1).head - (j p.1 p.2.1).tail).toNat + (j p.1 p.2.1).records.length) = p.2.2) ∧
    (j 9#8 10#8).overrun = overrun := by
  cases overrun <;> decide

/-- A word of a record at the store port, live and abandoned, with each word in progress. -/
theorem witness_JournalWordsAndAttention (live : Bool) (k : Fin 4) :
    let s := { base with
      journal := { base.journal with records := [⟨0#8, recordOf .drift⟩], word := some k },
      path := { base.path with store := .journal (ringWordAddr 0#6 0#8 k) 7#32 live } }
    s.por = false ∧ s.path.store = .journal (ringWordAddr 0#6 0#8 k) 7#32 live ∧ s.journal.word = some k ∧
      base.PortFree := ⟨rfl, rfl, rfl, rfl, rfl, rfl, rfl⟩

/-- Tail values at the two ends of the range, and just outside each. -/
theorem witness_TailWritesStayInTheRange :
    let s := ring 5#8 250#8 false
    let off := fun v : BitVec 8 => (v.toNat + 256 - s.journal.tail.toNat) % 256
    s.PortFree ∧ off 250#8 ≤ off s.journal.head ∧ off 5#8 ≤ off s.journal.head ∧ off s.journal.head < off 6#8 ∧
      off s.journal.head < off 249#8 := by
  refine ⟨⟨rfl, rfl, rfl, rfl⟩, ?_⟩
  decide

/-- A plain word, in the shelf area and outside it; the store port idle with a waiting access, a waiting word and
neither; the store port busy, with a read and a write, claimed and abandoned. -/
theorem witness_PlainAccessesReachTheStore (access : Access) (claimed : Bool) :
    let cycle : PlainCycle := ⟨5#22, access, 3#4⟩
    let waiting := { base with path := { base.path with ctrl := .plainWaiting cycle } }
    let word := { base with journal := { base.journal with records := [⟨0#8, recordOf .drift⟩], word := some 0 } }
    let busy := { base with path := { base.path with store := .controller cycle claimed } }
    base.PortFree ∧ isPlain base.path.area 5#22 = true ∧ isPlain base.path.area 0x3FFFFF#22 = true ∧
      (waiting.por = false ∧ waiting.path.store = .idle ∧ waiting.path.ctrl = .plainWaiting cycle) ∧
      ((∀ c, word.path.ctrl ≠ .plainWaiting c) ∧ word.journal.records = [⟨0#8, recordOf .drift⟩] ∧
        word.journal.word = some 0) ∧
      ((∀ c, base.path.ctrl ≠ .plainWaiting c) ∧ base.journal.word = none) ∧
      (busy.por = false ∧ busy.path.store ≠ .idle ∧ busy.path.store = .controller cycle claimed) := by
  refine ⟨⟨rfl, rfl, rfl, rfl⟩, by decide, by decide, ⟨rfl, rfl, rfl⟩, ⟨?_, rfl, rfl⟩, ⟨?_, rfl⟩, rfl, ?_, rfl⟩
  · intro c h
    cases h
  · intro c h
    cases h
  · intro h
    cases h

/-- A window access of each direction and a deferred one, to a slot in any state, with the marker clear and set. -/
theorem witness_WindowAccessesAreOfferedOrWait (st : SlotState) (marker : Bool) (op : RegisterOp) :
    let s := { shelf 5 (slotAt st) with path := { base.path with marker := marker } }
    let d := { shelf 5 (slotAt st) with path := { base.path with marker := marker, ctrl := .windowDeferred 5 op 16#10 } }
    s.PortFree ∧ s.path.marker = marker ∧ (s.slot 5).state = st ∧ d.path.ctrl = .windowDeferred 5 op 16#10 ∧
      d.por = false ∧ d.path.marker = marker ∧ (d.slot 5).state = st :=
  ⟨⟨rfl, rfl, rfl, rfl⟩, rfl, rfl, rfl, rfl, rfl, rfl⟩

/-- A register exchange of each direction in flight, claimed and unclaimed, its timer at the expiry. -/
theorem witness_RegisterResultsEndTheWindowCycle (op : RegisterOp) (claimed : Bool) :
    let s := shelf 5 (slotAt .linked) { linkWith (.register op 16#10) with window := some ⟨op, 16#10, true, claimed⟩ }
    s.por = false ∧ s.InFlight 5 ⟨.register op 16#10, 41#8, false, 10000000⟩ ∧
      (s.link 5).window = some ⟨op, 16#10, true, claimed⟩ ∧ s.supply.microReached 10000000 = true := by
  refine ⟨rfl, rfl, rfl, ?_⟩
  show base.supply.microReached 10000000 = true
  decide +kernel

/-- A free controller port with a right journal; each way in which SL1, CW4 and CW0 have no row of their own; CW0 with
the attention enable and either request, the slot requests, and the four request fields of a request word. -/
theorem witness_SettableWordsMergeAndClamp :
    queued.PortFree ∧ JournalOk queued ∧ (0#4 : ByteEnables).getLsbD 0 = false ∧ (1#4 : ByteEnables).getLsbD 1 = false ∧
      (0x100#32 : Word).setWidth 8 = 0#8 ∧ 5#8 ≤ (5#32 : Word).setWidth 8 ∧ 3#8 ≤ (3#32 : Word).setWidth 8 ∧
      ((3#4 : ByteEnables).getLsbD 0 = true ∧ (3#4 : ByteEnables).getLsbD 1 = true ∧
        (0x101#32 : Word).setWidth 8 = 1#8 ∧ (0x102#32 : Word).setWidth 8 = 2#8) ∧
      (∀ k ∈ [1, 2, 3, 4], (BitVec.ofNat 32 k).setWidth 8 = BitVec.ofNat 8 k) ∧
      (∀ k ∈ [0, 1, 2, 3], (BitVec.ofNat 32 k).extractLsb' 0 2 = BitVec.ofNat 2 k) :=
  ⟨⟨rfl, rfl, rfl, rfl⟩, witness_relations_that_steps_keep.1.journal, by decide, by decide, by decide, by decide, by
      decide, by decide, by decide, by decide⟩

/-- R132, R145: a write of CW0 with the attention enable and RELINK_ALL captures the enable and opens the forced
episode; with its byte enable absent the enable is kept. -/
theorem test_cw0_enable_and_request :
    let s := { base with supply := { base.supply with shelf := .normal } }
    (after (exec (.settableWordWrite (.cw 0) 0x101#32 3#4) s)).path.captured.attentionEnable = true ∧
      (after (exec (.settableWordWrite (.cw 0) 0x101#32 3#4) s)).supply.shelf = .recover ∧
      (after (exec (.settableWordWrite (.cw 0) 0x101#32 1#4) s)).path.captured.attentionEnable = false := by decide

/-- R162: J3 of position 255 with the shelf area at its highest base. -/
theorem test_ring_word_address : ringWordAddr 63#6 255#8 3 = 0x3F27FF#22 := by decide

/-- The ends of the ring and of each plain range of the shelf area. -/
theorem witness_EveryOffsetHasItsRegion :
    (∀ x ∈ [0x9000, 0x9FFF], classify x = .ring) ∧
      (∀ x ∈ [0x14, 0x1C, 0x3C, 0xFC, 0x400, 0xFFC, 0xA000, 0xFFFC, 0x28000, 0x3FFFC], classify x = .plain) ∧
      classify 0x27FFC = .window 23 1023#10 ∧ classify 0x8FFC = .shadow (.entryState 4095) ∧
      areaOffset 63#6 0x3FFFFF#22 = some 0x3FFFC ∧ areaOffset 63#6 0x3EFFFF#22 = none := by decide

end Sys2Proof.Tests
end

section
/-! The edge and the lock tap of R60, as arithmetic on taps. -/

namespace Sys2Proof.Machine

/-! ## The distance of a step -/

theorem edgeDistance_eq (low high : Tap) :
    edgeDistance low high = (high.toNat + 64 - low.toNat) % 64 := by
  have hlow := low.isLt
  rw [edgeDistance, BitVec.toNat_sub]
  congr 1
  omega

theorem edgeDistance_pos {low high : Tap} (h : low ≠ high) : 0 < edgeDistance low high := by
  have hne : low.toNat ≠ high.toNat := fun he => h (BitVec.eq_of_toNat_eq he)
  rw [edgeDistance_eq]
  omega

theorem edgeDistance_add_ofNat (low : Tap) {i : Nat} (h : i < 64) :
    edgeDistance low (low + BitVec.ofNat 6 i) = i := by
  rw [edgeDistance, BitVec.add_comm, BitVec.add_sub_cancel, BitVec.toNat_ofNat, Nat.mod_eq_of_lt h]

/-! ## The edge and the lock tap -/

theorem edgeTap_toNat (low high : Tap) :
    (edgeTap low high).toNat = (low.toNat + (edgeDistance low high + 1) / 2) % 64 := by
  simp [edgeTap]

theorem edgeTap_of_edgeDistance_one {low high : Tap} (h : edgeDistance low high = 1) :
    edgeTap low high = high := by
  have hstep : high - low = 1#6 := BitVec.eq_of_toNat_eq h
  calc edgeTap low high = low + 1#6 := by rw [edgeTap, h]
    _ = low + (high - low) := by rw [hstep]
    _ = high := by rw [BitVec.add_comm, BitVec.sub_add_cancel]

/-- The margin is below 32, so widening it to a tap loses nothing. -/
theorem lockTap_toNat (e : Tap) (m : BitVec 5) : (lockTap e m).toNat = (e.toNat + m.toNat) % 64 := by
  have hm : m.toNat < 2 ^ 6 := m.isLt.trans (by decide)
  rw [lockTap, BitVec.toNat_add, BitVec.toNat_setWidth, Nat.mod_eq_of_lt hm]

/-! ## The edge within a VERIFY window -/

theorem tapAt_some_add (g : Tap) (j i : Nat) :
    tapAt (some g) j + BitVec.ofNat 6 i = tapAt (some g) (j + i) := by
  simp only [tapAt, BitVec.add_assoc, BitVec.ofNat_add]

theorem edgeDistance_tapAt_some (g : Tap) {j k : Nat} (hjk : j ≤ k) (hk : k - j < 64) :
    edgeDistance (tapAt (some g) j) (tapAt (some g) k) = k - j := by
  rw [← Nat.add_sub_of_le hjk, ← tapAt_some_add, edgeDistance_add_ofNat _ hk, Nat.add_sub_of_le hjk]

/-- The edge stands at the position halfway between the positions of LOW and HIGH. -/
theorem edgeTap_tapAt_some (g : Tap) {j k : Nat} (hjk : j ≤ k) (hk : k - j < 64) :
    edgeTap (tapAt (some g) j) (tapAt (some g) k) = tapAt (some g) (j + (k - j + 1) / 2) := by
  rw [edgeTap, edgeDistance_tapAt_some g hjk hk, tapAt_some_add]

/-- Settles O36: half of a nonzero distance, rounded up, lies between 1 and the distance (R60). -/
theorem edgeIsTheMiddleOfTheStep : Obligations.EdgeIsTheMiddleOfTheStep := by
  refine ⟨fun low high hne => ?_, fun g j k hjk hk => ?_, lockTap_toNat⟩
  · rw [← edgeDistance_eq]
    have hpos := edgeDistance_pos hne
    exact ⟨edgeTap_toNat low high, by omega, by omega, edgeTap_of_edgeDistance_one⟩
  · exact ⟨j + (k - j + 1) / 2, by omega, by omega, by omega,
      edgeTap_tapAt_some g hjk.le (by omega)⟩

end Sys2Proof.Machine
end

section
/-! The two resets: what each command leaves of a card filter, a slot, a link, and the ports. -/

namespace Sys2Proof.Machine

/-! ## What the reset commands answer -/

theorem exec_powerOnReset (area : BitVec 6) (filt : Bool) (s : State) :
    exec (.powerOnReset area filt) s = .next (s.powerOn area filt) := rfl

theorem exec_powerOnResetAsserted (s : State) : exec .powerOnResetAsserted s = .next s.assertPowerOn := rfl

theorem exec_controllerReset_of_running {s : State} (h : s.por = false) :
    exec .controllerReset s = .next s.resetController := by
  change execControllerReset s = _
  rw [execControllerReset, if_neg (ne_true_of_eq_false h)]

theorem exec_controllerResetRelease (s : State) :
    exec .controllerResetRelease s = .next { s with ctrlReset := false } := rfl

/-! ## One element after a reset has mapped its family -/

@[simp] theorem State.card_powerOn (s : State) (area : BitVec 6) (filt : Bool) (n : SlotNo) :
    (s.powerOn area filt).card n = (s.card n).release :=
  Vector.getElem_map Filter.release n.isLt

@[simp] theorem State.slot_assertPowerOn (s : State) (n : SlotNo) :
    s.assertPowerOn.slot n = (s.slot n).releaseOutput :=
  Vector.getElem_map SlotContext.releaseOutput n.isLt

@[simp] theorem State.link_assertPowerOn (s : State) (n : SlotNo) :
    s.assertPowerOn.link n = (s.link n).silence :=
  Vector.getElem_map LinkUnit.silence n.isLt

@[simp] theorem State.link_resetController (s : State) (n : SlotNo) :
    s.resetController.link n = (s.link n).unclaim :=
  Vector.getElem_map LinkUnit.unclaim n.isLt

/-! ## The controller port after its reset -/

/-- R141: released, a port that holds no cycle takes one again, where R146 leaves nothing to act on. -/
theorem State.takesCycle_released {s : State} (hpor : s.por = false) (hidle : s.path.ctrl = .idle)
    (hfloor : s.judging.floor = false) : State.takesCycle { s with ctrlReset := false } = true :=
  State.takesCycle_iff.mpr ⟨hpor, rfl, hidle, hfloor⟩

/-! ## The two statements -/

/-- Settles O14: the filters, slots and links by their elements, everything else by the record that the reset writes
(R142, R172). -/
theorem powerOnResetReturnsEveryBlock : Obligations.PowerOnResetReturnsEveryBlock := by
  refine ⟨fun area filt s => ?_, fun s => ?_⟩
  · exact ⟨s.powerOn area filt, exec_powerOnReset area filt s, rfl, rfl, s.card_powerOn area filt, rfl, rfl⟩
  · exact ⟨s.assertPowerOn, exec_powerOnResetAsserted s, rfl, s.slot_assertPowerOn, s.link_assertPowerOn, rfl⟩

/-- Settles O16: the links by their elements, and what the store port goes on with by what it serves (R84, R141, R167).
-/
theorem controllerResetKeepsTheShelf : Obligations.ControllerResetKeepsTheShelf := by
  refine ⟨fun s hpor => ?_, fun s => ?_⟩
  · refine ⟨s.resetController, exec_controllerReset_of_running hpor, s.link_resetController, ?_⟩
    rw [State.resetController]
    cases s.path.store with
    | idle => rfl
    | controller cycle claimed => rfl
    | journal addr data live => rfl
  · exact ⟨exec_controllerResetRelease s, State.takesCycle_released⟩

end Sys2Proof.Machine
end

section
/-! The Journal Writer: what becomes of a record handed over, and which tail writes are taken. -/

namespace Sys2Proof.Machine

/-! ## The free count and one accepted record (R161, R163) -/

/-- R161: an accepted record takes one free position. -/
@[simp] theorem Journal.free_accept (j : Journal) (r : Record) : (j.accept r).free = j.free - 1 := by
  simp only [Journal.free, Journal.allocated, Journal.occupancy, Journal.accept, List.length_append,
    List.length_singleton]
  omega

@[simp] theorem Journal.free_overrun (j : Journal) (b : Bool) : ({ j with overrun := b } : Journal).free = j.free := rfl

theorem Journal.accept_eq (j : Journal) (r : Record) : j.accept r =
    { j with records := j.records ++ [⟨j.head + BitVec.ofNat 8 j.records.length, r⟩],
             word := if j.records = [] then some 0 else j.word } := by
  simp only [Journal.accept, List.isEmpty_iff]

/-- The second of two records goes one position on, and the word in progress stays the one that the first chose. -/
theorem Journal.accept_accept_eq (j : Journal) (b : Bool) (r q : Record) :
    ({ j.accept r with overrun := b } : Journal).accept q =
    { j with overrun := b,
             records := j.records ++ [⟨j.head + BitVec.ofNat 8 j.records.length, r⟩,
               ⟨j.head + BitVec.ofNat 8 (j.records.length + 1), q⟩],
             word := if j.records = [] then some 0 else j.word } := by
  simp [Journal.accept_eq]

/-! ## A record judged and handed over (R163, R164) -/

theorem Journal.judge_of_free {j : Journal} (h : 0 < j.free) (r : Record) : j.judge r = j.accept r :=
  if_pos h

theorem Journal.judge_of_full {j : Journal} (h : j.free = 0) (r : Record) : j.judge r = { j with overrun := true } :=
  if_neg (Nat.not_lt.mpr h.le)

theorem Journal.handOver_of_clear {j : Journal} (h : j.overrun = false) (gap r : Record) :
    j.handOver gap r = j.judge r :=
  if_neg (ne_true_of_eq_false h)

theorem Journal.handOver_of_lost_free {j : Journal} (h : j.overrun = true) (hfree : 0 < j.free) (gap r : Record) :
    j.handOver gap r = ({ j.accept gap with overrun := false } : Journal).judge r := by
  rw [Journal.handOver, if_pos h, if_pos hfree]

/-- A full ring drops the record with the overrun flag clear or set. -/
theorem Journal.handOver_of_full {j : Journal} (h : j.free = 0) (gap r : Record) :
    j.handOver gap r = { j with overrun := true } := by
  cases hover : j.overrun with
  | false => rw [Journal.handOver_of_clear hover, Journal.judge_of_full h]
  | true =>
    calc j.handOver gap r = j := by rw [Journal.handOver, if_pos hover, if_neg (Nat.not_lt.mpr h.le)]
      _ = { j with overrun := true } := by rw [← hover]

/-- Settles O52: with the overrun flag set the gap record takes one free position, so the record behind it is dropped
where that was the only one and accepted where another is left (R163, R164). -/
theorem recordsAreAcceptedOrDropped : Obligations.RecordsAreAcceptedOrDropped := by
  refine ⟨fun j gap r => ?_, fun s r => rfl⟩
  refine ⟨fun hfull => ?_, fun hfree hclear => ?_, fun hone hlost => ?_, fun htwo hlost => ?_⟩
  · exact Journal.handOver_of_full hfull gap r
  · rw [Journal.handOver_of_clear hclear, Journal.judge_of_free hfree]
    exact j.accept_eq r
  · have hfree : j.free = 1 := hone
    have hfull : ({ j.accept gap with overrun := false } : Journal).free = 0 := by simp [hfree]
    rw [Journal.handOver_of_lost_free hlost (by omega), Journal.judge_of_full hfull, Journal.accept_eq]
    rfl
  · have hfree : 2 ≤ j.free := htwo
    have hleft : 0 < ({ j.accept gap with overrun := false } : Journal).free := by
      rw [Journal.free_overrun, Journal.free_accept]
      omega
    rw [Journal.handOver_of_lost_free hlost (by omega), Journal.judge_of_free hleft, Journal.accept_accept_eq]
    rfl

/-! ## A written tail (R165) -/

theorem exec_journalTailWrite_of_portFree {s : State} (h : s.PortFree) (v : BitVec 8) :
    exec (.journalTailWrite v) s = .next (s.judged ((s.takeTail v).answered .written)) :=
  State.cycle_of h

theorem journalOffset_eq (v tail : BitVec 8) : (v - tail).toNat = (v.toNat + 256 - tail.toNat) % 256 := by
  have htail := tail.isLt
  rw [BitVec.toNat_sub]
  congr 1
  omega

theorem Journal.acceptsTail_iff (j : Journal) (v : BitVec 8) : j.acceptsTail v = true ↔
    (v.toNat + 256 - j.tail.toNat) % 256 ≤ (j.head.toNat + 256 - j.tail.toNat) % 256 := by
  rw [Journal.acceptsTail, decide_eq_true_iff, journalOffset_eq, journalOffset_eq]

theorem State.takeTail_of_accepted {s : State} {v : BitVec 8} (h : s.journal.acceptsTail v = true) :
    s.takeTail v = { s with journal := { s.journal with
      tail := v, attention := s.path.captured.attentionEnable && s.journal.head != v } } := by
  rw [State.takeTail, if_pos h]
  rfl

theorem State.takeTail_of_ignored {s : State} {v : BitVec 8} (h : ¬ s.journal.acceptsTail v = true) :
    s.takeTail v = s :=
  if_neg h

/-- Settles O54: a written tail is taken exactly where its offset from the captured tail is no greater than the head's
(R165). -/
theorem tailWritesStayInTheRange : Obligations.TailWritesStayInTheRange := by
  intro v s hport
  refine ⟨fun hin => ?_, fun hout => ?_⟩
  · rw [exec_journalTailWrite_of_portFree hport, State.takeTail_of_accepted ((s.journal.acceptsTail_iff v).mpr hin)]
  · have hignored : ¬ s.journal.acceptsTail v = true := by
      rw [Journal.acceptsTail_iff]
      exact Nat.not_le.mpr hout
    rw [exec_journalTailWrite_of_portFree hport, State.takeTail_of_ignored hignored]

end Sys2Proof.Machine
end

section
/-! A write of a shadow word, and the two operations a request-word write is made of, said once for relations that a
step keeps. -/

namespace Sys2Proof.Machine

/-- What a relation must be kept by for a slot request to keep it (R45). -/
structure KeptBySlotRequests (P : State → Prop) : Prop where
  relink : ∀ s n, P s → P (s.takeRelink n)
  relinkReset : ∀ s n, P s → P (s.takeRelinkReset n)
  quiesce : ∀ s n, P s → P (s.takeQuiesce n)
  resume : ∀ s n, P s → P (s.takeResume n)

/-- What a relation must be kept by for a request-word write to keep it (R91, R103). -/
structure KeptByRequestWrites (P : State → Prop) : Prop where
  park : ∀ s n, n ∈ s.notices.departCircuits → P s → P (s.parkSlot n)
  write : ∀ s i c f e, P s → P (s.writeRequest i c f e)
  bad : ∀ s i e, P s → P (s.writeBad i e)
  releaseOne : ∀ s i, P s → P (s.releaseOne i)

/-- What a relation must be kept by for a capture of settable words to keep it (R131). -/
structure KeptByCaptures (P : State → Prop) : Prop where
  attention : ∀ s b, P s → P (s.enableAttention b)
  cw1 : ∀ s d e, P s → P (s.writeCw1 d e)
  cw2 : ∀ s d e, P s → P (s.writeCw2 d e)
  cw3 : ∀ s d e, P s → P (s.writeCw3 d e)
  sl0 : ∀ s n d e, P s → P (s.writeSl0 n d e)
  tail : ∀ s v, P s → P (s.takeTail v)

theorem State.slotRequest_keeps {P : State → Prop} (h : KeptBySlotRequests P) {s : State} (hs : P s) (n : SlotNo)
    (code : Byte) : P (s.slotRequest n code) := by
  unfold State.slotRequest
  split
  · exact h.relink s n hs
  split
  · exact h.relinkReset s n hs
  split
  · exact h.quiesce s n hs
  split
  · exact h.resume s n hs
  · exact hs

theorem State.releaseWalk_keeps {P : State → Prop} (h : ∀ s i, P s → P (s.releaseOne i)) {s : State} (hs : P s) :
    P s.releaseWalk := by
  unfold State.releaseWalk
  generalize s.circuits.ageList = l
  induction l generalizing s with
  | nil => exact hs
  | cons i l ih => exact ih (h s i hs)

theorem State.takeReleaseAll_keeps {P : State → Prop} (h : KeptByRequestWrites P) {s : State} (hs : P s) :
    P s.takeReleaseAll :=
  State.releaseWalk_keeps h.releaseOne (State.reachAll_keeps h.park hs)

theorem State.writeCircuit_keeps {P : State → Prop} (h : KeptByRequestWrites P) {s : State} (hs : P s) (i : EntryNo)
    (d : Word) (e : ByteEnables) : P (s.writeCircuit i d e) := by
  have hr : P (s.reachEntry i) := State.reachEntry_keeps h.park hs i
  unfold State.writeCircuit
  split
  · exact h.write _ _ _ _ _ hr
  split
  · exact h.write _ _ _ _ _ hr
  split
  · exact h.write _ _ _ _ _ hr
  · exact h.bad _ _ _ hr

theorem State.shelfRequest_keeps {P : State → Prop} (hr : KeptByRequestWrites P)
    (ha : ∀ s : State, P s → P s.takeRelinkAll) {s : State} (hs : P s) (code : Byte) : P (s.shelfRequest code) := by
  unfold State.shelfRequest
  split
  · exact ha s hs
  split
  · exact State.takeReleaseAll_keeps hr hs
  · exact hs

theorem State.writeControl_keeps {P : State → Prop} (hc : KeptByCaptures P) (hr : KeptByRequestWrites P)
    (ha : ∀ s : State, P s → P s.takeRelinkAll) {s : State} (hs : P s) (k : Fin 5) (d : Word) (e : ByteEnables) :
    P (s.writeControl k d e) := by
  unfold State.writeControl
  split
  · unfold State.writeCw0
    dsimp only
    have hv := fun b => hc.attention s b hs
    split
    · exact State.shelfRequest_keeps hr ha (hv _) _
    · exact hv _
  · exact hc.cw1 s d e hs
  · exact hc.cw2 s d e hs
  · exact hc.cw3 s d e hs
  · split
    · exact hc.tail s _ hs
    · exact hs

/-- A write of a shadow word keeps what every operation that such a write hands on to keeps (R131 to R133). -/
theorem State.writeShadow_keeps {P : State → Prop} (hc : KeptByCaptures P) (hq : KeptBySlotRequests P)
    (hr : KeptByRequestWrites P) (ha : ∀ s : State, P s → P s.takeRelinkAll) {s : State} (hs : P s) (w : ShadowWord)
    (d : Word) (e : ByteEnables) : P (s.writeShadow w d e) := by
  cases w with
  | cw k => exact State.writeControl_keeps hc hr ha hs k d e
  | sl0 n => exact hc.sl0 s n d e hs
  | sl1 n =>
    unfold State.writeShadow
    dsimp only
    split
    · exact State.slotRequest_keeps hq hs n _
    · exact hs
  | request i => exact State.writeCircuit_keeps hr hs i d e
  | sw k => exact hs
  | ss n k => exact hs
  | entryState i => exact hs

/-! ## Every answer of a command -/

/-- A command answers the state as it was, or the effect of a row of the table: its own, or for a frame that R69 takes
the row that the frame stands for. -/
theorem exec_effect {c : Instr} {s t : State} (h : exec c s = .next t) :
    t = s ∨ ∃ c' u, Effect s u c' ∧ (∀ n f, c' ≠ .discardedFrame n f) ∧ (c' = c ∨ isFrameRow c' = true) ∧
      (t = u ∨ t = s.judged u) := by
  by_cases hd : ∃ n f, c = .discardedFrame n f
  · obtain ⟨n, f, rfl⟩ := hd
    change execDiscardedFrame n f s = _ at h
    unfold execDiscardedFrame at h
    split at h
    · rcases takeFrame_cases h with ⟨c, hc, u, he, hu⟩ | rfl
      · exact .inr ⟨c, u, he, (by rintro n f rfl; cases hc), .inr hc, hu⟩
      · exact .inl rfl
    · cases h
      exact .inl rfl
  · rcases exec_cases h with ⟨u, he, hu⟩ | rfl
    · exact .inr ⟨c, u, he, fun n f e => hd ⟨n, f, e⟩, .inl rfl, hu⟩
    · exact .inl rfl

end Sys2Proof.Machine
end

section
/-! Supply Watch: what each operation does to the filters, the shelf state and the time base, and the relation between
them that every step keeps (R1, R2, R4, R9). -/

namespace Sys2Proof.Machine

/-! ## Filters (R2, R3) -/

theorem Filter.timed_sense (f : Filter) (clock time : Word) (l : Level) : (f.sense clock time l).Timed := by
  unfold Filter.sense Filter.Timed
  split
  · intro h
    exact absurd ‹_› h
  · simp

theorem Filter.timed_declare (f : Filter) (clock : Word) (l : Level) : (f.declare clock l).Timed := by
  intro h
  simp only [Filter.declare] at h ⊢
  simp [h]

theorem Filter.timed_release (f : Filter) : f.release.Timed := by
  intro h
  have hraw : f.raw = .good := by
    cases hr : f.raw with
    | low => exact absurd hr h
    | good => rfl
  simp [Filter.release, hraw]

@[simp] theorem Filter.sense_declared (f : Filter) (clock time : Word) (l : Level) :
    (f.sense clock time l).declared = f.declared := by
  unfold Filter.sense
  split <;> rfl

/-! ## The relation, part by part -/

/-- The relation reads Supply Watch and the power-on reset alone. -/
theorem SupplyOk.congr {s t : State} (h : SupplyOk s) (hs : t.supply = s.supply) (hp : t.por = s.por) :
    SupplyOk t := by
  obtain ⟨low, settle, rail, cards, micro, elapsed⟩ := h
  refine ⟨?_, ?_, ?_, ?_, ?_, ?_⟩ <;> simp only [State.card, hs, hp] at * <;> assumption

/-- A move of the shelf state, with the rail filter that goes with it: filters, time base and reset as they were. -/
theorem SupplyOk.moveShelf {s t : State} (h : SupplyOk s)
    (hrail : t.supply.rail = s.supply.rail ∨ t.supply.rail.Timed)
    (hlow : t.supply.rail.declared = .low ↔ t.supply.shelf = .sag)
    (hsettle : t.supply.settleTimer.isSome = true ↔ t.supply.shelf = .settle)
    (hcards : t.supply.cards = s.supply.cards) (hmicro : t.supply.micro = s.supply.micro)
    (helapsed : t.supply.elapsed = s.supply.elapsed) (hclock : t.supply.clock = s.supply.clock)
    (hp : t.por = s.por) : SupplyOk t := by
  refine ⟨hlow, hsettle, fun hpor => ?_, fun hpor n => ?_, by rw [hmicro]; exact h.micro_lt, ?_⟩
  · rcases hrail with e | ht
    · rw [e]
      exact h.rail_timed (hp ▸ hpor)
    · exact ht
  · have := h.cards_timed (hp ▸ hpor) n
    rwa [State.card, hcards]
  · rw [Supply.micros, helapsed, hmicro, hclock]
    exact h.elapsed

/-- A card filter set to one that times its raw input. -/
theorem SupplyOk.setCard {s : State} (h : SupplyOk s) (n : SlotNo) {f : Filter} (hf : s.por = false → f.Timed) :
    SupplyOk (s.setCard n f) := by
  refine ⟨h.low_iff_sag, h.settle_timer, h.rail_timed, fun hp m => ?_, h.micro_lt, h.elapsed⟩
  rw [State.card_setCard]
  split
  · exact hf hp
  · exact h.cards_timed hp m

/-! ## The time base (R1, R72) -/

theorem SupplyOk.advanceClock {s : State} (h : SupplyOk s) : SupplyOk s.advanceClock := by
  refine ⟨h.low_iff_sag, h.settle_timer, h.rail_timed, h.cards_timed, by simp [State.advanceClock], ?_⟩
  have hmicro := h.micro_lt
  have helapsed := h.elapsed
  have hclock := s.supply.clock.isLt
  simp only [State.advanceClock, Supply.micros, BitVec.toNat_add, BitVec.toNat_ofNat] at *
  unfold microSpan at *
  omega

theorem SupplyOk.tick {s : State} (h : SupplyOk s) : SupplyOk s.tick := by
  unfold State.tick
  split
  · exact h
  split
  · rename_i hmicro
    refine ⟨h.low_iff_sag, h.settle_timer, h.rail_timed, h.cards_timed, hmicro, ?_⟩
    have helapsed := h.elapsed
    have hclock := s.supply.clock.isLt
    simp only [Supply.micros] at *
    unfold microSpan at *
    omega
  · exact h.advanceClock

/-! ## The filters' inputs -/

theorem SupplyOk.senseRail {s : State} (h : SupplyOk s) (l : Level) : SupplyOk (s.senseRail l) := by
  unfold State.senseRail
  refine ⟨?_, h.settle_timer, fun hp => ?_, h.cards_timed, h.micro_lt, h.elapsed⟩
  · rw [← h.low_iff_sag]
    dsimp only
    split <;> simp
  · dsimp only at hp ⊢
    rw [hp, if_neg Bool.false_ne_true]
    exact Filter.timed_sense _ _ _ _

theorem SupplyOk.senseCard {s : State} (h : SupplyOk s) (n : SlotNo) (l : Level) : SupplyOk (s.senseCard n l) :=
  h.setCard n fun hp => by
    rw [hp, if_neg Bool.false_ne_true]
    exact Filter.timed_sense _ _ _ _

theorem SupplyOk.declareCard {s : State} (h : SupplyOk s) (n : SlotNo) (l : Level) : SupplyOk (s.declareCard n l) :=
  h.setCard n fun _ => Filter.timed_declare _ _ _

/-! ## Shelf moves (R6 to R14) -/

theorem State.railLow_of_new {s : State} (h : s.supply.shelf = .normal ∨ s.supply.shelf = .recover) :
    s.railLow = (s.declareRail .low).beginSag := by
  rcases h with h | h <;> simp only [State.railLow, h]

theorem State.railLow_of_settle {s : State} (h : s.supply.shelf = .settle) :
    s.railLow = ((s.declareRail .low).setShelf .sag none).raiseSagBegin auxContinued := by
  simp only [State.railLow, h]

theorem State.railLow_of_sag {s : State} (h : s.supply.shelf = .sag) : s.railLow = s.declareRail .low := by
  simp only [State.railLow, h]

theorem State.railGood_of_sag {s : State} (h : s.supply.shelf = .sag) : s.railGood = (s.declareRail .good).endSag := by
  simp only [State.railGood, h]

theorem State.railGood_of_not_sag {s : State} (h : s.supply.shelf ≠ .sag) : s.railGood = s.declareRail .good := by
  unfold State.railGood
  split <;> simp_all

/-- The rail declared at the level that the shelf state goes with. -/
theorem SupplyOk.declareRail {s : State} (h : SupplyOk s) {l : Level} (hl : l = .low ↔ s.supply.shelf = .sag) :
    SupplyOk (s.declareRail l) :=
  h.moveShelf (.inr (Filter.timed_declare _ _ _)) hl h.settle_timer rfl rfl rfl rfl rfl

/-- The rail declared low, with the shelf in SAG. -/
theorem SupplyOk.sagged {s t : State} (h : SupplyOk s) (hrail : t.supply.rail = s.supply.rail.declare s.clock .low)
    (hshelf : t.supply.shelf = .sag) (htimer : t.supply.settleTimer = none) (hcards : t.supply.cards = s.supply.cards)
    (hmicro : t.supply.micro = s.supply.micro) (helapsed : t.supply.elapsed = s.supply.elapsed)
    (hclock : t.supply.clock = s.supply.clock) (hp : t.por = s.por) : SupplyOk t :=
  h.moveShelf (.inr (hrail ▸ Filter.timed_declare _ _ _)) (iff_of_true (by rw [hrail]; rfl) hshelf)
    (iff_of_false (by simp [htimer]) (by simp [hshelf])) hcards hmicro helapsed hclock hp

theorem SupplyOk.railLow {s : State} (h : SupplyOk s) : SupplyOk s.railLow := by
  cases hshelf : s.supply.shelf with
  | sag =>
    rw [State.railLow_of_sag hshelf]
    exact h.declareRail (iff_of_true rfl hshelf)
  | settle =>
    rw [State.railLow_of_settle hshelf]
    exact h.sagged rfl rfl rfl rfl rfl rfl rfl rfl
  | normal =>
    rw [State.railLow_of_new (.inl hshelf)]
    exact h.sagged rfl rfl rfl rfl rfl rfl rfl rfl
  | recover =>
    rw [State.railLow_of_new (.inr hshelf)]
    exact h.sagged rfl rfl rfl rfl rfl rfl rfl rfl

theorem SupplyOk.railGood {s : State} (h : SupplyOk s) : SupplyOk s.railGood := by
  by_cases hshelf : s.supply.shelf = .sag
  · rw [State.railGood_of_sag hshelf]
    exact h.moveShelf (.inr (Filter.timed_declare _ _ _))
      (iff_of_false (by decide : Level.good ≠ .low) (by decide : ShelfState.settle ≠ .sag)) (iff_of_true rfl rfl)
      rfl rfl rfl rfl rfl
  · rw [State.railGood_of_not_sag hshelf]
    exact h.declareRail (iff_of_false (by decide) hshelf)

/-- The shelf enters RECOVER from a state other than SAG. -/
theorem SupplyOk.enterRecover {s : State} (h : SupplyOk s) (hs : s.supply.shelf ≠ .sag) (d : BitVec 16)
    (c : Classification) : SupplyOk (s.enterRecover d c) :=
  h.moveShelf (.inl rfl) (iff_of_false (fun e => hs (h.low_iff_sag.mp e)) (by decide : ShelfState.recover ≠ .sag))
    (iff_of_false (by decide : ¬(none : Timer).isSome = true)
      (by decide : ShelfState.recover ≠ .settle)) rfl rfl rfl rfl rfl

theorem SupplyOk.settleExpires {s : State} (h : SupplyOk s) (hd : s.settleDue = true) : SupplyOk s.settleExpires := by
  refine h.enterRecover ?_ _ _
  simp only [State.settleDue, Bool.and_eq_true, beq_iff_eq] at hd
  simp [hd.1]

theorem SupplyOk.endRecovery {s : State} (h : SupplyOk s) (hd : s.recovered = true) : SupplyOk s.endRecovery := by
  obtain ⟨hs, -⟩ := State.recovered_iff.mp hd
  refine h.moveShelf (.inl rfl) (iff_of_false (fun e => ?_) (by decide : ShelfState.normal ≠ .sag))
    (iff_of_false (by decide : ¬(none : Timer).isSome = true)
      (by decide : ShelfState.normal ≠ .settle)) rfl rfl rfl rfl rfl
  have := h.low_iff_sag.mp e
  rw [hs] at this
  cases this

theorem SupplyOk.takeRelinkAll {s : State} (h : SupplyOk s) : SupplyOk s.takeRelinkAll := by
  unfold State.takeRelinkAll
  split
  · rename_i hs
    have ho : SupplyOk ((s.openEpisode s.clock).sendSag) :=
      ⟨h.low_iff_sag, h.settle_timer, h.rail_timed, h.cards_timed, h.micro_lt, h.elapsed⟩
    exact ho.enterRecover (by simp [State.openEpisode, hs]) _ _
  · exact h

/-! ## Resets -/

theorem SupplyOk.powerOn (s : State) (area : BitVec 6) (filt : Bool) : SupplyOk (s.powerOn area filt) where
  low_iff_sag := iff_of_true rfl rfl
  settle_timer := iff_of_false (by decide : ¬(none : Timer).isSome = true) (by decide : ShelfState.sag ≠ .settle)
  rail_timed _ := Filter.timed_release _
  cards_timed _ n := by
    rw [State.card_powerOn]
    exact Filter.timed_release _
  micro_lt := by simp [State.powerOn, Supply.initial]
  elapsed := by simp [State.powerOn, Supply.initial, Supply.micros]

/-- Power-on reset asserted asks nothing of the filters. -/
theorem SupplyOk.assertPowerOn {s : State} (h : SupplyOk s) : SupplyOk s.assertPowerOn :=
  ⟨h.low_iff_sag, h.settle_timer, nofun, nofun, h.micro_lt, h.elapsed⟩

/-! ## Every command -/

theorem SupplyOk.writeShadow {s : State} (h : SupplyOk s) (w : ShadowWord) (d : Word) (e : ByteEnables) :
    SupplyOk (s.writeShadow w d e) := by
  refine State.writeShadow_keeps (P := SupplyOk) ⟨?_, ?_, ?_, ?_, ?_, ?_⟩ ⟨?_, ?_, ?_, ?_⟩ ⟨?_, ?_, ?_, ?_⟩
    (fun s hs => hs.takeRelinkAll) h w d e <;> intros <;> (refine SupplyOk.congr ‹_› ?_ ?_) <;> simp

theorem SupplyOk.of_effect {c : Instr} {s t : State} (h : SupplyOk s) (he : Effect s t c)
    (hc : ∀ n f, c ≠ .discardedFrame n f) : SupplyOk t := by
  cases c
  case powerOnReset a f => exact he ▸ .powerOn s a f
  case powerOnResetAsserted => exact he ▸ h.assertPowerOn
  case railSenseChange l => exact he ▸ h.senseRail l
  case cardGoodChange n l => exact he ▸ h.senseCard n l
  case railDeclaredLow =>
    obtain ⟨-, -, rfl⟩ := he
    exact h.railLow
  case railDeclaredGood =>
    obtain ⟨-, -, rfl⟩ := he
    exact h.railGood
  case cardGoodDeclaredGood n =>
    obtain ⟨-, -, rfl⟩ := he
    exact (h.declareCard n .good).congr (by simp) (by simp)
  case cardGoodDeclaredLow n =>
    obtain ⟨-, -, rfl⟩ := he
    exact (h.declareCard n .low).congr (by simp) (by simp)
  case settleTimerExpiry =>
    obtain ⟨-, hd, rfl⟩ := he
    exact h.settleExpires hd
  case recoveryEnds =>
    obtain ⟨-, hd, rfl⟩ := he
    exact h.endRecovery hd
  case relinkAll =>
    obtain ⟨-, rfl⟩ := he
    exact h.takeRelinkAll.congr rfl rfl
  case settableWordWrite w d e =>
    obtain ⟨-, rfl⟩ := he
    exact (h.writeShadow w d e).congr rfl rfl
  case clockAdvance =>
    obtain ⟨-, rfl⟩ := he
    exact h.advanceClock
  case controllerResetRelease => exact he ▸ h.congr rfl rfl
  case discardedFrame n f => exact absurd rfl (hc n f)
  all_goals
    simp only [Effect] at he
    casesm* _ ∧ _, _ ∨ _, ∃ _, _ <;> subst_vars <;> exact h.congr (by simp) (by simp)

/-- Settles O5: every operation on the supply by the lemma about it, every other command by leaving the supply alone. -/
theorem shelfStateFollowsTheRail : Obligations.ShelfStateFollowsTheRail := by
  intro s t h hs
  refine step_keeps (P := SupplyOk) (fun s q h => h.congr rfl rfl) (fun s t h => h.congr rfl rfl)
    (fun c s t hc h he => h.of_effect he hc) (fun s h => h.tick) h hs

end Sys2Proof.Machine
end

section
/-! The Restore Engine's barriers: what the notices and the openings do to them, and the relation that every step keeps
(R108, R116 to R121). -/

namespace Sys2Proof.Machine

/-- The relation reads phase, lowest closed class and timer alone. -/
theorem BarriersOk.congr {s t : State} (h : BarriersOk s) (hp : t.restore.phase = s.restore.phase)
    (hl : t.restore.lowestClosed = s.restore.lowestClosed) (ht : t.restore.timer = s.restore.timer) : BarriersOk t := by
  obtain ⟨lowest, normal, timer⟩ := h
  exact ⟨by rwa [hl], by rwa [hp, hl], by rwa [hp, hl, ht]⟩

@[simp] theorem State.barrierTimer_isSome (s : State) : s.barrierTimer.isSome = true := rfl

/-! ## Notices -/

theorem BarriersOk.sagRestore {s : State} (h : BarriersOk s) : BarriersOk s.sagRestore where
  lowest := h.lowest
  normal := nofun
  timer := iff_of_false (by decide : ¬(none : Timer).isSome = true)
    (fun hp => absurd hp.1 (by decide : EnginePhase.sagged ≠ .recovering))

theorem BarriersOk.normalRestore (s : State) : BarriersOk s.normalRestore where
  lowest := (by decide : 1 ≤ 4 ∧ 4 ≤ 4)
  normal _ := rfl
  timer := iff_of_false (by decide : ¬(none : Timer).isSome = true)
    (fun hp => absurd hp.1 (by decide : EnginePhase.normal ≠ .recovering))

theorem BarriersOk.recoverRestore (s : State) : BarriersOk s.recoverRestore := by
  unfold State.recoverRestore
  split
  · exact ⟨(by decide : 1 ≤ 4 ∧ 4 ≤ 4), fun _ => rfl, iff_of_false (by simp) (by simp)⟩
  · exact ⟨(by decide : 1 ≤ 1 ∧ 1 ≤ 4), nofun, iff_of_true rfl ⟨rfl, (by decide : 1 < 4)⟩⟩

/-! ## Openings -/

@[simp] theorem State.openBarrier_phase (s : State) (cause : BitVec 8) :
    (s.openBarrier cause).restore.phase = s.restore.phase := rfl
@[simp] theorem State.openBarrier_lowestClosed (s : State) (cause : BitVec 8) :
    (s.openBarrier cause).restore.lowestClosed = s.restore.lowestClosed + 1 := rfl
theorem State.openBarrier_timer (s : State) (cause : BitVec 8) : (s.openBarrier cause).restore.timer =
    if s.restore.lowestClosed + 1 ≤ 3 then s.barrierTimer else none := rfl

theorem BarriersOk.openBarrier {s : State} (h : BarriersOk s) (hp : s.restore.phase = .recovering)
    (hl : s.restore.lowestClosed < 4) (cause : BitVec 8) : BarriersOk (s.openBarrier cause) where
  lowest := by
    have := h.lowest
    simp only [State.openBarrier_lowestClosed]
    omega
  normal hn := by
    rw [State.openBarrier_phase, hp] at hn
    cases hn
  timer := by
    simp only [State.openBarrier_timer, State.openBarrier_phase, State.openBarrier_lowestClosed, hp, true_and]
    split
    · simp only [State.barrierTimer_isSome, true_iff]
      omega
    · simp only [Option.isSome_none, Bool.false_eq_true, false_iff]
      omega

theorem State.drainedNow_recovering {s : State} (h : s.drainedNow = true) :
    s.restore.phase = .recovering ∧ s.restore.lowestClosed < 4 := by
  simp only [State.drainedNow, Bool.and_eq_true, beq_iff_eq, decide_eq_true_eq] at h
  exact h.1

theorem State.barrierDue_iff {s : State} : s.barrierDue = true ↔
    s.restore.phase = .recovering ∧ s.restore.lowestClosed < 4 ∧ timerDue s.clock s.restore.timer = true := by
  simp [State.barrierDue, and_assoc]

/-! ## Every command -/

/-- Only the notices, the openings and power-on reset move the barriers. -/
theorem Effect.barriers {c : Instr} {s t : State} (he : Effect s t c) (hc : ∀ n f, c ≠ .discardedFrame n f) :
    (t.restore.phase = s.restore.phase ∧ t.restore.lowestClosed = s.restore.lowestClosed ∧
      t.restore.timer = s.restore.timer) ∨
    t.restore = State.reset.restore ∨ t = s.sagRestore ∨ (c = .recoverNoticeRestore ∧ t = s.recoverRestore) ∨
    t = s.normalRestore ∨
    (s.restore.phase = .recovering ∧ s.restore.lowestClosed < 4 ∧ ∃ cause, t = s.openBarrier cause) := by
  cases c
  case powerOnReset a f => exact .inr (.inl (he ▸ rfl))
  case sagNoticeRestore =>
    obtain ⟨-, -, rfl⟩ := he
    exact .inr (.inr (.inl rfl))
  case recoverNoticeRestore =>
    obtain ⟨-, -, rfl⟩ := he
    exact .inr (.inr (.inr (.inl ⟨rfl, rfl⟩)))
  case normalNotice =>
    obtain ⟨-, -, rfl⟩ := he
    exact .inr (.inr (.inr (.inr (.inl rfl))))
  case drained =>
    obtain ⟨-, hd, rfl⟩ := he
    obtain ⟨hp, hl⟩ := State.drainedNow_recovering hd
    exact .inr (.inr (.inr (.inr (.inr ⟨hp, hl, _, rfl⟩))))
  case barrierTimerExpiry =>
    obtain ⟨-, hd, rfl⟩ := he
    obtain ⟨hp, hl, -⟩ := State.barrierDue_iff.mp hd
    exact .inr (.inr (.inr (.inr (.inr ⟨hp, hl, _, rfl⟩))))
  case discardedFrame n f => exact absurd rfl (hc n f)
  all_goals
    left
    simp only [Effect] at he
    (try casesm* _ ∧ _, _ ∨ _, ∃ _, _) <;> subst_vars <;> simp

theorem BarriersOk.of_effect {c : Instr} {s t : State} (h : BarriersOk s) (he : Effect s t c)
    (hc : ∀ n f, c ≠ .discardedFrame n f) : BarriersOk t := by
  rcases he.barriers hc with ⟨hp, hl, ht⟩ | hr | rfl | ⟨-, rfl⟩ | rfl | ⟨hp, hl, cause, rfl⟩
  · exact h.congr hp hl ht
  · constructor <;> rw [hr] <;> decide
  · exact h.sagRestore
  · exact .recoverRestore s
  · exact .normalRestore s
  · exact h.openBarrier hp hl cause

/-- An opened barrier stays open: only the recover notice lowers the lowest closed class (R117, R120). -/
theorem BarriersOk.lowestClosed_le {c : Instr} {s t : State} (h : BarriersOk s) (he : Effect s t c)
    (hc : ∀ n f, c ≠ .discardedFrame n f) (hr : c ≠ .recoverNoticeRestore) :
    s.restore.lowestClosed ≤ t.restore.lowestClosed := by
  have hle := h.lowest.2
  rcases he.barriers hc with ⟨-, hl, -⟩ | e | rfl | ⟨e, -⟩ | rfl | ⟨-, -, cause, rfl⟩
  · exact hl.ge
  · rw [e]
    exact hle
  · exact Nat.le_refl _
  · exact absurd e hr
  · exact hle
  · exact Nat.le_succ _

/-- Settles O11: the barriers move by the cases of `Effect.barriers`, and each keeps the relation. -/
theorem barriersStayOrdered : Obligations.BarriersStayOrdered := by
  refine ⟨fun s t h hs => ?_, fun c s t h hx hlt => ?_⟩
  · exact step_keeps (P := BarriersOk) (fun s q h => h.congr rfl rfl rfl) (fun s t h => h.congr rfl rfl rfl)
      (fun c s t hc h he => h.of_effect he hc) (fun s h => h.congr (by simp) (by simp) (by simp)) h hs
  · rcases exec_effect hx with rfl | ⟨c', u, he, hd, hrow, hu⟩
    · exact absurd hlt (Nat.lt_irrefl _)
    have hlow : t.restore.lowestClosed = u.restore.lowestClosed := by rcases hu with rfl | rfl <;> rfl
    have hc' : c' = .recoverNoticeRestore := by
      by_contra hne
      have := h.lowestClosed_le he hd hne
      omega
    subst hc'
    rcases hrow with e | e
    · exact e.symm
    · cases e

end Sys2Proof.Machine
end

section
/-! The Journal Writer: what a handed-over record, a completed word, a tail and a reset do to the list and the ring, and
the relation that every step keeps (R161 to R167). -/

namespace Sys2Proof.Machine

/-! ## What the window operations leave of the two ports -/

section
variable (s : State) (n : SlotNo)

/-- Handing orders back does not reach the Pass-Through Path. -/
@[simp] theorem State.path_departLink : (s.departLink n).path = (s.departWindow (s.link n).window).path := by
  unfold State.departLink
  rw [foldl_leaves (fun t : State => t.path) (fun s o => by simp)]
  unfold State.departWindow
  split
  · rfl
  · dsimp only
    split <;> rfl

@[simp] theorem State.departWindow_store (w : Option WindowRequest) : (s.departWindow w).path.store = s.path.store := by
  unfold State.departWindow
  split
  · rfl
  · dsimp only
    split <;> rfl

@[simp] theorem State.departLink_store : (s.departLink n).path.store = s.path.store := by
  rw [State.path_departLink, State.departWindow_store]

/-- A grant reaches the Pass-Through Path by the winner's departure notice alone. -/
theorem State.path_grant (l : LaneNo) : (s.grant n l).path = (s.finishLink n).path := by
  simp [State.grant, State.finishDeparture]

@[simp] theorem State.grant_store (l : LaneNo) : (s.grant n l).path.store = s.path.store := by
  rw [State.path_grant]
  unfold State.finishLink
  split
  · exact s.departLink_store n
  · rfl

@[simp] theorem State.endWindow_store (w : WindowRequest) (a : CycleAnswer) :
    (s.endWindow n w a).path.store = s.path.store := by
  unfold State.endWindow
  split <;> rfl

@[simp] theorem State.failWindow_store (w : WindowRequest) (r : BitVec 8) :
    (s.failWindow n w r).path.store = s.path.store := by
  simp [State.failWindow]

@[simp] theorem State.openPlain_store (c : PlainCycle) : (s.openPlain c).path.store = s.path.store := rfl

@[simp] theorem State.offerWindow_store (op : RegisterOp) (k : BitVec 10) :
    (s.offerWindow n op k).path.store = s.path.store := by
  unfold State.offerWindow
  split <;> rfl

@[simp] theorem State.accessWindow_store (op : RegisterOp) (k : BitVec 10) :
    (s.accessWindow n op k).path.store = s.path.store := by
  unfold State.accessWindow
  split
  · rfl
  · exact s.offerWindow_store n op k

end

/-! ## The journal on its own -/

/-- The clauses of the relation that read the journal alone (R161, R163). -/
structure Journal.Sound (j : Journal) : Prop where
  room : j.allocated ≤ 255
  positions : ∀ k p, j.records[k]? = some p → p.position = j.head + BitVec.ofNat 8 k
  word : j.word.isSome = true ↔ j.records ≠ []

/-- A journal as it was, or with one record handed over. -/
def Journal.Extends (j k : Journal) : Prop := k = j ∨ ∃ gap r, k = j.handOver gap r

theorem Journal.Extends.refl (j : Journal) : j.Extends j := .inl rfl

theorem State.raise_extends (s : State) (r : Record) : s.journal.Extends (s.raise r).journal := .inr ⟨_, r, rfl⟩

theorem Journal.Sound.accept {j : Journal} (h : j.Sound) (hf : 0 < j.free) (r : Record) : (j.accept r).Sound where
  room := by
    have hroom : (j.accept r).allocated = j.allocated + 1 := by
      simp only [Journal.allocated, Journal.occupancy, Journal.accept, List.length_append, List.length_singleton]
      omega
    simp only [Journal.free] at hf
    omega
  positions k p hk := by
    simp only [Journal.accept] at hk ⊢
    rcases Nat.lt_trichotomy k j.records.length with hlt | rfl | hgt
    · rw [List.getElem?_append_left hlt] at hk
      exact h.positions k p hk
    · simp only [List.getElem?_concat_length, Option.some.injEq] at hk
      rw [← hk]
    · rw [List.getElem?_eq_none (by simp; omega)] at hk
      cases hk
  word := by
    refine iff_of_true ?_ (by simp [Journal.accept])
    rw [Journal.accept_eq]
    split
    · rfl
    · exact h.word.mpr ‹_›

theorem Journal.Sound.overrun {j : Journal} (h : j.Sound) (b : Bool) : ({ j with overrun := b } : Journal).Sound :=
  ⟨h.room, h.positions, h.word⟩

theorem Journal.Sound.judge {j : Journal} (h : j.Sound) (r : Record) : (j.judge r).Sound := by
  unfold Journal.judge
  split
  · exact h.accept ‹_› r
  · exact h.overrun true

theorem Journal.Sound.handOver {j : Journal} (h : j.Sound) (gap r : Record) : (j.handOver gap r).Sound := by
  unfold Journal.handOver
  split
  · split
    · exact ((h.accept ‹_› gap).overrun false).judge r
    · exact h
  · exact h.judge r

/-- What a record judged leaves: head, tail and attention output, the records before it, and the word in progress. -/
theorem Journal.judge_leaves (j : Journal) (r : Record) :
    (j.judge r).head = j.head ∧ (j.judge r).tail = j.tail ∧ (j.judge r).attention = j.attention ∧
    (∃ added, (j.judge r).records = j.records ++ added) ∧ (j.records ≠ [] → (j.judge r).word = j.word) := by
  unfold Journal.judge
  split
  · exact ⟨rfl, rfl, rfl, ⟨_, rfl⟩, fun hr => by rw [Journal.accept_eq, if_neg hr]⟩
  · exact ⟨rfl, rfl, rfl, ⟨[], by simp⟩, fun _ => rfl⟩

/-- And what one handed over leaves. -/
theorem Journal.Extends.leaves {j k : Journal} (h : j.Extends k) :
    k.head = j.head ∧ k.tail = j.tail ∧ k.attention = j.attention ∧
    (∃ added, k.records = j.records ++ added) ∧ (j.records ≠ [] → k.word = j.word) := by
  rcases h with rfl | ⟨gap, r, rfl⟩
  · exact ⟨rfl, rfl, rfl, ⟨[], by simp⟩, fun _ => rfl⟩
  unfold Journal.handOver
  split
  · split
    · obtain ⟨hh, ht, ha, ⟨added, hrec⟩, hw⟩ := ({ j.accept gap with overrun := false } : Journal).judge_leaves r
      refine ⟨hh, ht, ha, ⟨_, hrec.trans (List.append_assoc ..)⟩, fun hr => ?_⟩
      rw [hw (by simp [Journal.accept])]
      show (j.accept gap).word = _
      rw [Journal.accept_eq, if_neg hr]
    · exact ⟨rfl, rfl, rfl, ⟨[], by simp⟩, fun _ => rfl⟩
  · exact j.judge_leaves r

theorem Journal.Extends.sound {j k : Journal} (h : j.Extends k) (hj : j.Sound) : k.Sound := by
  rcases h with rfl | ⟨gap, r, rfl⟩
  · exact hj
  · exact hj.handOver gap r

/-! ## The word waiting for the store port -/

theorem State.journalWrite_eq_some {s : State} {a : WordAddr} {d : Word} : s.journalWrite = some (a, d) ↔
    ∃ p rest k, s.journal.records = p :: rest ∧ s.journal.word = some k ∧
      ringWordAddr s.path.area p.position k = a ∧ p.record.word k = d := by
  unfold State.journalWrite
  cases s.journal.records <;> cases s.journal.word <;> simp

/-- A record handed over does not move the word that is being written. -/
theorem State.journalWrite_extends {s t : State} {a : WordAddr} {d : Word} (h : s.journal.Extends t.journal)
    (harea : t.path.area = s.path.area) (hw : s.journalWrite = some (a, d)) : t.journalWrite = some (a, d) := by
  obtain ⟨p, rest, k, hrec, hword, ha, hd⟩ := State.journalWrite_eq_some.mp hw
  obtain ⟨-, -, -, ⟨added, hadd⟩, hkeep⟩ := h.leaves
  refine State.journalWrite_eq_some.mpr ⟨p, rest ++ added, k, ?_, ?_, by rwa [harea], hd⟩
  · rw [hadd, hrec, List.cons_append]
  · rw [hkeep (by simp [hrec]), hword]

/-! ## The relation after the operations of other blocks -/

theorem JournalOk.sound {s : State} (h : JournalOk s) : s.journal.Sound := ⟨h.room, h.positions, h.word⟩

theorem JournalOk.of_sound {s : State} (h : s.journal.Sound)
    (ha : s.journal.attention = (!s.por && s.path.captured.attentionEnable && s.journal.head != s.journal.tail))
    (hs : ∀ a d, s.path.store = .journal a d true → s.journalWrite = some (a, d)) : JournalOk s :=
  ⟨h.room, h.positions, h.word, ha, hs⟩

/-- An operation keeps the relation that hands over at most one record, and leaves the reset, the attention enable, the
place of the ring, and a journal word at the store port. -/
theorem JournalOk.extend {s t : State} (h : JournalOk s) (hj : s.journal.Extends t.journal) (hp : t.por = s.por)
    (he : t.path.captured.attentionEnable = s.path.captured.attentionEnable) (harea : t.path.area = s.path.area)
    (hs : ∀ a d, t.path.store = .journal a d true → s.path.store = .journal a d true) : JournalOk t := by
  refine .of_sound (hj.sound h.sound) ?_ fun a d hst => State.journalWrite_extends hj harea (h.serving a d (hs a d hst))
  obtain ⟨hhead, htail, hatt, -⟩ := hj.leaves
  rw [hatt, hhead, htail, hp, he]
  exact h.attention

/-- And so does one that leaves the journal alone. -/
theorem JournalOk.congr {s t : State} (h : JournalOk s) (hj : t.journal = s.journal) (hp : t.por = s.por)
    (he : t.path.captured.attentionEnable = s.path.captured.attentionEnable) (harea : t.path.area = s.path.area)
    (hs : t.path.store = s.path.store) : JournalOk t :=
  h.extend (.inl hj) hp he harea fun _ _ e => hs ▸ e

/-! ## Records that the blocks raise -/

section
variable (s : State) (n : SlotNo)

theorem State.goLinked_extends : s.journal.Extends (s.goLinked n).journal := .inr ⟨_, _, rfl⟩
theorem State.goMismatch_extends : s.journal.Extends (s.goMismatch n).journal := .inr ⟨_, _, rfl⟩

theorem State.failAttempt_extends (r : FailReason) : s.journal.Extends (s.failAttempt n r).journal := by
  unfold State.failAttempt
  dsimp only
  split
  · exact .inl (by simp)
  · exact .inr ⟨_, _, rfl⟩

theorem State.takeLoss_extends : s.journal.Extends (s.takeLoss n).journal := by
  unfold State.takeLoss
  simp only [State.goPending_leaves, State.endWork_leaves]
  exact s.raise_extends _

theorem State.cardLeaves_extends : s.journal.Extends (s.cardLeaves n).journal := by
  unfold State.cardLeaves
  dsimp only
  split
  · exact .inl (by simp)
  · simp only [State.goEmpty_leaves, State.endWork_leaves]
    unfold State.raiseLost
    split
    · exact .inr ⟨_, _, rfl⟩
    · exact .inl (by simp)

theorem State.identified_extends (a b : BitVec 16) : s.journal.Extends (s.identified n a b).journal := by
  have hj : ((s.freeLink n).recordIdentity n a b).journal = s.journal := by simp
  unfold State.identified
  dsimp only
  split
  · split
    · exact hj ▸ State.goLinked_extends _ n
    · exact .inl (by simp)
  · exact hj ▸ State.goMismatch_extends _ n

theorem State.raiseDrift_extends (m : Mode) (k : LockResults) : s.journal.Extends (s.raiseDrift n m k).journal := by
  unfold State.raiseDrift
  split
  · exact s.raise_extends _
  · exact .refl _

theorem State.failSweep_extends (l : LaneNo) (m : Mode) (r : FailReason) :
    s.journal.Extends (s.failSweep l n m r).journal := by
  have hj : (s.releaseLane n).journal = s.journal := by simp
  unfold State.failSweep
  split
  · exact .inl (by simp)
  · exact hj ▸ State.failAttempt_extends _ n r

theorem State.lockSweep_extends (w : Sweep) (a b : Tap) : s.journal.Extends (s.lockSweep n w a b).journal := by
  unfold State.lockSweep
  simp only [State.enterIdentify_leaves, State.releaseLane_leaves]
  exact s.raiseDrift_extends n _ _

theorem State.endProbe_extends (b : Bool) : s.journal.Extends (s.endProbe n b).journal := by
  have hj : (s.freeLink n).journal = s.journal := by simp
  unfold State.endProbe
  split
  · unfold State.sampled
    split
    · exact .inl (by simp)
    split
    · exact .inl (by simp)
    unfold State.concludeSweep
    split
    · exact hj ▸ State.failSweep_extends _ n _ _ _
    split
    · exact hj ▸ State.failSweep_extends _ n _ _ _
    · exact hj ▸ State.lockSweep_extends _ n _ _ _
  · exact .inl hj

theorem State.raiseWindowFault_extends (w : WindowRequest) (r : BitVec 8) :
    s.journal.Extends (s.raiseWindowFault n w r).journal := by
  unfold State.raiseWindowFault
  split
  · exact s.raise_extends _
  · exact .refl _

theorem State.failWindow_extends (w : WindowRequest) (r : BitVec 8) :
    s.journal.Extends (s.failWindow n w r).journal := by
  unfold State.failWindow
  simp only [State.endWindow_leaves]
  exact s.raiseWindowFault_extends n w r

end

theorem State.foldl_dealOther_journal (s : State) (i : EntryNo) (l : List Side) :
    (l.foldl (fun t x => t.dealOther i x) s).journal = s.journal :=
  foldl_leaves (fun t : State => t.journal) (fun s x => by simp) l s

theorem State.takeConnectRefusal_extends (s : State) (n : SlotNo) (o : Order) (r : RefusalReason) :
    s.journal.Extends (s.takeConnectRefusal n o r).journal := by
  unfold State.takeConnectRefusal
  split
  · unfold State.connectRefused
    split
    · split
      · unfold State.entryRefused
        simp only [State.resolveFaulted_leaves, State.foldl_dealOther_journal, State.putEntry_journal]
        exact s.raise_extends _
      · exact .refl _
    · exact .inl (by simp)
    · exact .inl (by simp)
    · exact .refl _
    · exact .refl _
  · exact .refl _

theorem State.railLow_extends (s : State) : s.journal.Extends s.railLow.journal := by
  cases hshelf : s.supply.shelf with
  | sag => rw [State.railLow_of_sag hshelf]; exact .inl (by simp)
  | settle => rw [State.railLow_of_settle hshelf]; exact .inr ⟨_, _, rfl⟩
  | normal => rw [State.railLow_of_new (.inl hshelf)]; exact .inr ⟨_, _, rfl⟩
  | recover => rw [State.railLow_of_new (.inr hshelf)]; exact .inr ⟨_, _, rfl⟩

theorem State.railGood_extends (s : State) : s.journal.Extends s.railGood.journal := by
  by_cases hshelf : s.supply.shelf = .sag
  · rw [State.railGood_of_sag hshelf]
    exact .inr ⟨_, _, rfl⟩
  · rw [State.railGood_of_not_sag hshelf]
    exact .inl (by simp)

theorem State.takeRelinkAll_extends (s : State) : s.journal.Extends s.takeRelinkAll.journal := by
  unfold State.takeRelinkAll
  split
  · exact .inr ⟨_, _, rfl⟩
  · exact .refl _

/-! ## The journal's own operations -/

/-- A completed word (R162): after J3 the head takes the place that the record's promise held. -/
theorem Journal.Sound.wordDone {j : Journal} (h : j.Sound) : j.wordDone.Sound := by
  have hword := h.word
  unfold Journal.wordDone
  split
  case h_4 hw =>
    have hne : j.records ≠ [] := hword.mp (by simp [hw])
    obtain ⟨p, rest, hrec⟩ := List.exists_cons_of_ne_nil hne
    refine ⟨?_, fun k q hk => ?_, ?_⟩
    · have hroom := h.room
      have hhead := j.head.isLt
      have htail := j.tail.isLt
      simp only [Journal.allocated, Journal.occupancy, hrec, List.length_cons, List.tail_cons, BitVec.toNat_sub,
        BitVec.toNat_add, BitVec.toNat_ofNat] at *
      omega
    · have := h.positions (k + 1) q (by simpa [hrec] using hk)
      rw [this, BitVec.ofNat_add, BitVec.add_assoc, BitVec.add_comm (1#8)]
    · simp only [hrec, List.tail_cons]
      cases rest <;> simp
  case h_5 => exact h
  all_goals exact ⟨h.room, h.positions, iff_of_true rfl (hword.mp (by simp [*]))⟩

/-- An accepted tail (R165) leaves no more records unconsumed. -/
theorem Journal.Sound.takeTail {j : Journal} (h : j.Sound) {v : BitVec 8} (hv : j.acceptsTail v = true) :
    ({ j with tail := v } : Journal).Sound := by
  refine ⟨?_, h.positions, h.word⟩
  have hroom := h.room
  have hle := (j.acceptsTail_iff v).mp hv
  have hhead := j.head.isLt
  have htail := j.tail.isLt
  have hvlt := v.isLt
  simp only [Journal.allocated, Journal.occupancy, BitVec.toNat_sub] at *
  omega

theorem Journal.Sound.restart (j : Journal) : j.restart.Sound where
  room := (by decide : (0#8 - 0#8).toNat + 0 ≤ 255)
  positions k p hk := by simp [Journal.restart] at hk
  word := iff_of_false (by simp [Journal.restart]) (by simp [Journal.restart])

/-- The attention output driven: its clause holds, whatever it was (R166). -/
theorem JournalOk.driveAttention {s : State} (h : s.journal.Sound) (hp : s.por = false)
    (hs : ∀ a d, s.path.store = .journal a d true → s.journalWrite = some (a, d)) : JournalOk s.driveAttention :=
  .of_sound ⟨h.room, h.positions, h.word⟩ (by simp [State.driveAttention, hp]) hs

theorem JournalOk.enableAttention {s : State} (h : JournalOk s) (hp : s.por = false) (b : Bool) :
    JournalOk (s.enableAttention b) :=
  .driveAttention (s := s.capture { s.path.captured with attentionEnable := b }) h.sound hp h.serving

theorem JournalOk.takeTail {s : State} (h : JournalOk s) (hp : s.por = false) (v : BitVec 8) :
    JournalOk (s.takeTail v) := by
  unfold State.takeTail
  split
  · exact .driveAttention (s := { s with journal := { s.journal with tail := v } }) (h.sound.takeTail ‹_›) hp h.serving
  · exact h

theorem JournalOk.storeJournal {s : State} (h : JournalOk s) (hp : s.por = false) (a : WordAddr) (d : Word)
    (live : Bool) : JournalOk (s.storeJournal a d live) := by
  unfold State.storeJournal
  dsimp only
  split
  · exact .driveAttention h.sound.wordDone hp nofun
  · exact h.extend (.refl _) rfl rfl rfl nofun

theorem JournalOk.arbitrate {s : State} (h : JournalOk s) : JournalOk s.arbitrate := by
  unfold State.arbitrate
  split
  · exact h.extend (.refl _) rfl rfl rfl nofun
  · rename_i a d hw _
    refine .of_sound h.sound h.attention fun a d hst => ?_
    cases hst
    exact hw
  · exact h

/-- A controller reset abandons the word being served with its record (R167). -/
theorem JournalOk.resetController (s : State) : JournalOk s.resetController :=
  .of_sound (.restart s.journal) (by simp [State.resetController, Journal.restart]) fun a d hst => by
    simp only [State.resetController] at hst
    cases hs : s.path.store <;> simp [hs, StorePort.disown] at hst

theorem JournalOk.assertPowerOn {s : State} (h : JournalOk s) : JournalOk s.assertPowerOn :=
  .of_sound ⟨h.room, h.positions, h.word⟩ rfl nofun

theorem JournalOk.powerOn (s : State) (area : BitVec 6) (filt : Bool) : JournalOk (s.powerOn area filt) :=
  .of_sound (.restart .initial) rfl nofun

/-! ## Every command -/

theorem JournalOk.writeShadow {s : State} (h : JournalOk s) (hp : s.por = false) (w : ShadowWord) (d : Word)
    (e : ByteEnables) : JournalOk (s.writeShadow w d e) := by
  refine (State.writeShadow_keeps (P := fun s => JournalOk s ∧ s.por = false) ⟨?_, ?_, ?_, ?_, ?_, ?_⟩ ⟨?_, ?_, ?_, ?_⟩
    ⟨?_, ?_, ?_, ?_⟩ (fun s hs => ⟨?_, ?_⟩) ⟨h, hp⟩ w d e).1
  case refine_1 => exact fun s b hs => ⟨hs.1.enableAttention hs.2 b, by simp [hs.2]⟩
  case refine_6 => exact fun s v hs => ⟨hs.1.takeTail hs.2 v, by simp [hs.2]⟩
  case refine_15 => exact hs.1.extend s.takeRelinkAll_extends (by simp) (by simp) (by simp) (by simp)
  case refine_16 => simp [hs.2]
  case refine_2 =>
    exact fun s d e hs => ⟨hs.1.congr (by simp) (by simp) rfl (by simp) rfl, by simp [hs.2]⟩
  case refine_3 =>
    exact fun s d e hs => ⟨hs.1.congr (by simp) (by simp) rfl (by simp) rfl, by simp [hs.2]⟩
  case refine_4 =>
    exact fun s d e hs => ⟨hs.1.congr (by simp) (by simp) rfl (by simp) rfl, by simp [hs.2]⟩
  case refine_5 =>
    exact fun s n d e hs => ⟨hs.1.congr (by simp) (by simp) rfl (by simp) rfl, by simp [hs.2]⟩
  all_goals
    intros
    rename_i hs
    exact ⟨hs.1.congr (by simp) (by simp) (by simp) (by simp) (by simp), by simp [hs.2]⟩

theorem JournalOk.of_effect {c : Instr} {s t : State} (h : JournalOk s) (he : Effect s t c)
    (hc : ∀ n f, c ≠ .discardedFrame n f) : JournalOk t := by
  cases c
  case powerOnReset a f => exact he ▸ .powerOn s a f
  case powerOnResetAsserted => exact he ▸ h.assertPowerOn
  case controllerReset =>
    rcases he with ⟨-, rfl⟩ | ⟨-, rfl⟩
    · exact h.congr rfl rfl rfl rfl rfl
    · exact .resetController s
  case journalWordDone =>
    obtain ⟨hp, a, d, live, -, rfl⟩ := he
    exact h.storeJournal hp a d live
  case storePortArbitration =>
    obtain ⟨-, -, rfl⟩ := he
    exact h.arbitrate
  case plainAccessDone w =>
    obtain ⟨-, c, claimed, -, rfl⟩ := he
    refine h.extend (.inl (by simp)) (by simp) (by simp) (by simp) fun a d hst => ?_
    unfold State.completePlain at hst
    dsimp only at hst
    split at hst <;> cases hst
  case attentionEnableWrite b =>
    obtain ⟨hf, rfl⟩ := he
    exact (h.enableAttention hf.1 b).congr rfl rfl rfl rfl rfl
  case journalTailWrite v =>
    obtain ⟨hf, rfl⟩ := he
    exact (h.takeTail hf.1 v).congr rfl rfl rfl rfl rfl
  case settableWordWrite w d e =>
    obtain ⟨hf, rfl⟩ := he
    exact (h.writeShadow hf.1 w d e).congr rfl rfl rfl rfl rfl
  case railDeclaredLow =>
    obtain ⟨-, -, rfl⟩ := he
    exact h.extend s.railLow_extends (by simp) (by simp) (by simp) (by simp)
  case railDeclaredGood =>
    obtain ⟨-, -, rfl⟩ := he
    exact h.extend s.railGood_extends (by simp) (by simp) (by simp) (by simp)
  case cardGoodDeclaredLow n =>
    obtain ⟨-, -, rfl⟩ := he
    exact h.extend (s.declareCard n .low |>.cardLeaves_extends n) (by simp) (by simp) (by simp) (by simp)
  case settleTimerExpiry =>
    obtain ⟨-, -, rfl⟩ := he
    exact h.extend (.inr ⟨_, _, rfl⟩) rfl rfl rfl fun _ _ e => e
  case recoveryEnds =>
    obtain ⟨-, -, rfl⟩ := he
    exact h.extend (.inr ⟨_, _, rfl⟩) rfl rfl rfl fun _ _ e => e
  case bootTimeout n =>
    obtain ⟨-, -, rfl⟩ := he
    have hj : (s.endWork n).journal = s.journal := by simp
    exact h.extend (hj ▸ State.failAttempt_extends _ n _) (by simp) (by simp) (by simp) (by simp)
  case identTimeout n =>
    obtain ⟨-, -, rfl⟩ := he
    have hj : (s.freeLink n).journal = s.journal := by simp
    exact h.extend (hj ▸ State.failAttempt_extends _ n _) (by simp) (by simp) (by simp) (by simp)
  case sampleReply n tag bit =>
    obtain ⟨-, -, rfl⟩ := he
    exact h.extend (s.endProbe_extends n _) (by simp) (by simp) (by simp) (by simp)
  case probeTimeout n =>
    obtain ⟨-, -, rfl⟩ := he
    exact h.extend (s.endProbe_extends n _) (by simp) (by simp) (by simp) (by simp)
  case identityReply n tag type revision =>
    obtain ⟨-, -, rfl⟩ := he
    exact h.extend (s.identified_extends n _ _) (by simp) (by simp) (by simp) (by simp)
  case clearOrderDone n tag =>
    obtain ⟨-, -, rfl⟩ := he
    have hj : (s.freeLink n).journal = s.journal := by simp
    exact h.extend (hj ▸ State.goLinked_extends _ n) (by simp) (by simp) (by simp) (by simp)
  case connectRefusal n tag reason =>
    obtain ⟨-, o, -, rfl⟩ := he
    have hj : ((s.reachEntry o.entry).completeOrder n).journal = s.journal := by simp
    exact h.extend (hj ▸ State.takeConnectRefusal_extends _ n o reason) (by simp) (by simp) (by simp) (by simp)
  case registerRefusal n tag reason =>
    obtain ⟨-, w, -, rfl⟩ := he
    exact h.extend (s.failWindow_extends n w _) (by simp) (by simp) (by simp) (by simp)
  case registerTimeout n =>
    obtain ⟨-, w, -, rfl⟩ := he
    exact h.extend (s.failWindow_extends n w _) (by simp) (by simp) (by simp) (by simp)
  case linkLoss n =>
    obtain ⟨-, -, rfl⟩ := he
    exact h.extend (s.takeLoss_extends n) (by simp) (by simp) (by simp) (by simp)
  case drained =>
    obtain ⟨-, -, rfl⟩ := he
    exact h.extend (.inr ⟨_, _, rfl⟩) rfl rfl rfl fun _ _ e => e
  case barrierTimerExpiry =>
    obtain ⟨-, -, rfl⟩ := he
    exact h.extend (.inr ⟨_, _, rfl⟩) rfl rfl rfl fun _ _ e => e
  case relinkAll =>
    obtain ⟨-, rfl⟩ := he
    exact h.extend s.takeRelinkAll_extends (by simp) (by simp) (by simp) (by simp)
  case restoreFloorWrite d e =>
    obtain ⟨-, rfl⟩ := he
    exact h.congr (by simp) (by simp) rfl (by simp) rfl
  case discardedFrame n f => exact absurd rfl (hc n f)
  all_goals
    simp only [Effect] at he
    try casesm* _ ∧ _, ∃ _, _
    subst_vars
    exact h.congr (by simp) (by simp) (by simp) (by simp) (by simp)

/-- Settles O12: a record is accepted only into a free position, and every other operation on the ring by its lemma. -/
theorem journalNeverOverwrites : Obligations.JournalNeverOverwrites := by
  intro s t h hs
  exact step_keeps (P := JournalOk) (fun s q h => h.congr rfl rfl rfl rfl rfl)
    (fun s t h => h.congr rfl rfl rfl rfl rfl)
    (fun c s t hc h he => h.of_effect he hc)
    (fun s h => h.congr (by simp) (by simp) (by simp) (by simp) (by simp)) h hs

end Sys2Proof.Machine
end

section
/-! The Circuit Table: every operation on it is a chain of five elementary moves. A relation that the five keep is
kept by every operation, so no later proof goes through the operations again. -/

namespace Sys2Proof.Machine

/-- An elementary move of the Circuit Table and the order lists: an entry written without leaving or entering IDLE or
entering RESTORING, an entry that becomes IDLE (R102), a CONNECT accepted (R92), an order appended to a LINKED slot's
list (R77), an order withdrawn from one (R78). -/
inductive CircuitMove (s : State) : State → Prop
  | put (i : EntryNo) (e : Entry) (hidle : e.state = .idle ↔ (s.entry i).state = .idle)
      (hrest : e.state = .restoring → (s.entry i).state = .restoring)
      (hfields : (s.entry i).state ≠ .idle → e.fields = (s.entry i).fields) : CircuitMove s (s.putEntry i e)
  | becomeIdle (i : EntryNo) (hstate : (s.entry i).state ≠ .idle) : CircuitMove s (s.becomeIdle i)
  | connect (i : EntryNo) (f : RequestFields) (hstate : (s.entry i).state = .idle) (hgood : RequestFieldsBad f = false)
      (hfree : s.portInUse f = false) : CircuitMove s (s.acceptConnect i f)
  | append (n : SlotNo) (o : Order) (hlinked : s.linked n = true) (hflight : o.inFlight = false) :
      CircuitMove s (s.setLink n { s.link n with orders := (s.link n).orders ++ [o] })
  | withdraw (n : SlotNo) (i : EntryNo) (ends : Ends) : CircuitMove s (s.setLink n ((s.link n).withdraw i ends))

/-- A chain of elementary moves. -/
def CircuitMoves : State → State → Prop := Relation.ReflTransGen CircuitMove

namespace CircuitMoves

theorem refl (s : State) : CircuitMoves s s := Relation.ReflTransGen.refl

theorem trans {s t u : State} (h : CircuitMoves s t) (k : CircuitMoves t u) : CircuitMoves s u :=
  Relation.ReflTransGen.trans h k

theorem of_move {s t : State} (h : CircuitMove s t) : CircuitMoves s t := Relation.ReflTransGen.single h

/-- A relation that every elementary move keeps. -/
theorem keeps {P : State → Prop} (h : ∀ s t, CircuitMove s t → P s → P t) {s t : State} (hm : CircuitMoves s t)
    (hs : P s) : P t := by
  induction hm with
  | refl => exact hs
  | tail _ hmove ih => exact h _ _ hmove ih

/-- An operation applied along a list. -/
theorem foldl {α : Type} {f : State → α → State} (h : ∀ s a, CircuitMoves s (f s a)) (l : List α) (s : State) :
    CircuitMoves s (l.foldl f s) := by
  induction l generalizing s with
  | nil => exact .refl s
  | cons a l ih => exact (h s a).trans (ih _)

/-- An entry written in a state outside IDLE and RESTORING, or in the state it was in. -/
theorem put {s : State} {i : EntryNo} {e : Entry} (hstate : e.state = (s.entry i).state)
    (hfields : e.fields = (s.entry i).fields) : CircuitMoves s (s.putEntry i e) :=
  of_move (.put i e (by rw [hstate]) (by rw [hstate]; exact id) fun _ => hfields)

theorem put_of_busy {s : State} {i : EntryNo} {e : Entry} (hs : (s.entry i).state ≠ .idle) (hi : e.state ≠ .idle)
    (hr : e.state ≠ .restoring) (hfields : e.fields = (s.entry i).fields) : CircuitMoves s (s.putEntry i e) :=
  of_move (.put i e (iff_of_false hi hs) (fun h => absurd h hr) fun _ => hfields)

/-- An IDLE entry written. -/
theorem put_of_idle {s : State} {i : EntryNo} {e : Entry} (hs : (s.entry i).state = .idle) (he : e.state = .idle) :
    CircuitMoves s (s.putEntry i e) :=
  of_move (.put i e (iff_of_true he hs) (fun h => by rw [he] at h; cases h) fun h => absurd hs h)

theorem becomeIdle {s : State} {i : EntryNo} (h : (s.entry i).state ≠ .idle) : CircuitMoves s (s.becomeIdle i) :=
  of_move (.becomeIdle i h)

end CircuitMoves

/-! ## Entries with marks or done flags set keep state and fields -/

section
variable (e : Entry)

@[simp] theorem Entry.setMarks_state (d : Ends) (m : Mark) : (e.setMarks d m).state = e.state := by
  cases d <;> simp [Entry.setMarks, Ends.sides]
@[simp] theorem Entry.setMarks_fields (d : Ends) (m : Mark) : (e.setMarks d m).fields = e.fields := by
  cases d <;> simp [Entry.setMarks, Ends.sides]
@[simp] theorem Entry.setDones_state (d : Ends) (b : Bool) : (e.setDones d b).state = e.state := by
  cases d <;> simp [Entry.setDones, Ends.sides]
@[simp] theorem Entry.setDones_fields (d : Ends) (b : Bool) : (e.setDones d b).fields = e.fields := by
  cases d <;> simp [Entry.setDones, Ends.sides]
@[simp] theorem Entry.endRelease_state (x : Side) : (e.endRelease x).state = e.state := by
  unfold Entry.endRelease
  split <;> simp
@[simp] theorem Entry.endRelease_fields (x : Side) : (e.endRelease x).fields = e.fields := by
  unfold Entry.endRelease
  split <;> simp
@[simp] theorem Entry.dropConnect_state (x : Side) : (e.dropConnect x).state = e.state := by
  unfold Entry.dropConnect
  split <;> simp
@[simp] theorem Entry.dropConnect_fields (x : Side) : (e.dropConnect x).fields = e.fields := by
  unfold Entry.dropConnect
  split <;> simp
@[simp] theorem Entry.clearOn_state (n : SlotNo) : (e.clearOn n).state = e.state := by
  simp only [Entry.clearOn, List.foldl]
  (repeat' split) <;> simp
@[simp] theorem Entry.clearOn_fields (n : SlotNo) : (e.clearOn n).fields = e.fields := by
  simp only [Entry.clearOn, List.foldl]
  (repeat' split) <;> simp
@[simp] theorem Entry.undoLate_state : e.undoLate.state = e.state := rfl
@[simp] theorem Entry.undoLate_fields : e.undoLate.fields = e.fields := rfl
@[simp] theorem Entry.clearDone_state : e.clearDone.state = e.state := rfl
@[simp] theorem Entry.clearDone_fields : e.clearDone.fields = e.fields := rfl
@[simp] theorem Entry.toWaiting_state : e.toWaiting.state = .waiting := rfl
@[simp] theorem Entry.toWaiting_fields : e.toWaiting.fields = e.fields := rfl
@[simp] theorem Entry.toIdle_state : e.toIdle.state = .idle := rfl
@[simp] theorem Entry.toIdle_fields : e.toIdle.fields = e.fields := rfl

end

/-! ## Orders handed back, appended and withdrawn -/

section
variable (s : State) (n : SlotNo) (i : EntryNo)

theorem State.settleReleasing_moves : CircuitMoves s (s.settleReleasing i) := by
  unfold State.settleReleasing
  split
  · rename_i h
    exact .becomeIdle (by simp [h.1])
  · exact .refl s

theorem State.releaseEnded_moves (d : Ends) : CircuitMoves s (s.releaseEnded i d) := by
  unfold State.releaseEnded
  split
  · refine CircuitMoves.trans (.put ?_ ?_) (State.settleReleasing_moves _ i) <;> cases d <;> simp [Ends.sides]
  · exact .refl s

theorem State.connectDropped_moves (d : Ends) : CircuitMoves s (s.connectDropped i d) := by
  unfold State.connectDropped
  split
  · refine .put ?_ ?_ <;> cases d <;> simp [Ends.sides]
  · exact .refl s

theorem State.handBack_moves (o : Order) : CircuitMoves s (s.handBack n o) := by
  unfold State.handBack
  split
  · split
    · exact s.connectDropped_moves _ _
    · exact s.releaseEnded_moves _ _
  · exact .refl s

theorem State.appendOrder_moves (k : OrderKind) (d : Ends) : CircuitMoves s (s.appendOrder i k d) := by
  unfold State.appendOrder
  split
  · unfold State.appendTo
    split
    · exact .of_move (.append _ _ ‹_› rfl)
    · exact s.handBack_moves _ _
  · exact .refl s

theorem State.appendBoth_moves (k : OrderKind) : CircuitMoves s (s.appendBoth i k) := by
  unfold State.appendBoth
  split
  · exact s.appendOrder_moves i k _
  · exact (s.appendOrder_moves i k _).trans (State.appendOrder_moves _ i k _)

theorem State.releaseBoth_moves {e : Entry} (hs : (s.entry i).state ≠ .idle) (hf : e.fields = (s.entry i).fields) :
    CircuitMoves s (s.releaseBoth i e) :=
  CircuitMoves.trans (by exact .put_of_busy hs (by simp) (by simp) hf) (State.appendBoth_moves _ i _)

theorem State.withdrawOrder_moves (d : Ends) : CircuitMoves s (s.withdrawOrder i d) := by
  unfold State.withdrawOrder
  split
  · exact .of_move (.withdraw _ i d)
  · exact .refl s

@[simp] theorem State.entry_withdrawOrder (d : Ends) (j : EntryNo) : (s.withdrawOrder i d).entry j = s.entry j := by
  simp

theorem State.withdrawConnect_moves (d : Ends) (m : Mark) : CircuitMoves s (s.withdrawConnect i d m) :=
  (s.withdrawOrder_moves i d).trans (.put (by simp) (by simp))

theorem State.entry_withdrawConnect (d : Ends) (m : Mark) (j : EntryNo) : (s.withdrawConnect i d m).entry j =
    if i = j then (s.entry i).setMarks d
      (markAfterWithdraw (s.withdrawAnswer i d) m ((s.entry i).mark d.lead))
    else s.entry j := by
  simp [State.withdrawConnect]

theorem State.undoJoin_moves (x : Side) : CircuitMoves s (s.undoJoin i x) :=
  CircuitMoves.trans (.put (by simp) (by simp)) (State.appendOrder_moves _ i _ _)

/-! ## Parking at a departure notice (R103, R104) -/

theorem State.parkOther_moves (x : Side) : CircuitMoves s (s.parkOther i x) := by
  unfold State.parkOther
  split
  · split
    · exact s.withdrawConnect_moves i _ _
    · exact .refl s
  · exact .put (by simp) (by simp)

@[simp] theorem State.parkOther_state (x : Side) (j : EntryNo) :
    ((s.parkOther i x).entry j).state = (s.entry j).state := by
  unfold State.parkOther
  split
  · split
    · rw [State.entry_withdrawConnect]
      split <;> simp_all
    · rfl
  · rw [State.entry_putEntry]
    split <;> simp_all

theorem State.parkReleased_moves (x : Side) (hs : (s.entry i).state = .restoring) :
    CircuitMoves s (s.parkReleased i x) := by
  have hbusy : (s.entry i).state ≠ .idle := by simp [hs]
  unfold State.parkReleased
  dsimp only
  split
  · exact .put_of_busy hbusy (by simp) (by simp) rfl
  split
  · exact CircuitMoves.trans (by exact .put_of_busy hbusy (by simp) (by simp) rfl) (State.undoJoin_moves _ i x)
  · exact CircuitMoves.trans (by exact .put rfl rfl) (.becomeIdle (by simp [hs]))

theorem State.parkResolve_moves (x : Side) (hs : (s.entry i).state = .restoring) :
    CircuitMoves s (s.parkResolve i x) := by
  unfold State.parkResolve
  split
  · exact s.parkReleased_moves i x hs
  · exact .put_of_busy (by simp [hs]) (by simp) (by simp) rfl

theorem State.parkRestoring_moves (hs : (s.entry i).state = .restoring) : CircuitMoves s (s.parkRestoring n i) := by
  unfold State.parkRestoring
  dsimp only
  split
  · exact CircuitMoves.trans (by exact .put (by simp) (by simp)) (State.parkResolve_moves _ i _ (by simp [hs]))
  · exact ((s.parkOther_moves i _).trans (.put (by simp) (by simp))).trans
      (State.parkResolve_moves _ i _ (by simp [hs]))

theorem State.parkEntry_moves : CircuitMoves s (s.parkEntry n i) := by
  unfold State.parkEntry
  dsimp only
  split
  · split
    case h_1 => exact .refl s
    case h_2 => exact .put (by simp) (by simp)
    case h_3 h => exact s.parkRestoring_moves n i h
    case h_4 h => exact .put_of_busy (by simp [h]) (by simp) (by simp) (by simp)
    case h_5 => exact CircuitMoves.trans (by exact .put (by simp) (by simp)) (State.settleReleasing_moves _ i)
    case h_6 => exact .put (by simp) (by simp)
  · exact .refl s

/-- A departure notice taken: the notice leaves its channel, and the table moves. -/
theorem State.parkSlot_moves : CircuitMoves
    { s with notices := { s.notices with departCircuits := s.notices.departCircuits.erase n } } (s.parkSlot n) :=
  CircuitMoves.foldl (fun s i => s.parkEntry_moves n i) _ _

/-! ## Request-word writes and RELEASE_ALL (R91 to R96) -/

theorem State.setOutcome_moves (o : ReqOutcome) : CircuitMoves s (s.setOutcome i o) := .put rfl rfl

theorem State.captureCode_moves (c : RequestCode) : CircuitMoves s (s.captureCode i c) := .put rfl rfl

theorem State.connectIdle_moves (f : RequestFields) (hs : (s.entry i).state = .idle) :
    CircuitMoves s (s.connectIdle i f) := by
  unfold State.connectIdle
  split
  · exact s.setOutcome_moves i _
  split
  · exact s.setOutcome_moves i _
  · exact .of_move (.connect i f hs (Bool.eq_false_of_not_eq_true ‹_›) (Bool.eq_false_of_not_eq_true ‹_›))

theorem State.applyRelease_moves : CircuitMoves s (s.applyRelease i) := by
  unfold State.applyRelease
  dsimp only
  split
  case h_1 => exact .refl s
  case h_2 h =>
    split
    · exact .becomeIdle (by simp [h])
    · exact .put_of_busy (by simp [h]) (by simp) (by simp) rfl
  case h_3 => exact .put rfl rfl
  case h_4 h => exact s.releaseBoth_moves i (by simp [h]) rfl
  case h_5 => exact .put rfl rfl
  case h_6 h =>
    split
    · exact .becomeIdle (by simp [h])
    · exact .put_of_busy (by simp [h]) (by simp) (by simp) rfl

theorem State.writeRequest_moves (c : RequestCode) (f : RequestFields) (b : ByteEnables) :
    CircuitMoves s (s.writeRequest i c f b) := by
  unfold State.writeRequest
  split
  · exact s.setOutcome_moves i _
  split
  · rename_i hs
    cases c with
    | none => exact .put_of_idle hs hs
    | release => exact .put_of_idle hs hs
    | connect => exact s.connectIdle_moves i f hs
  · unfold State.writeBusy
    split
    · cases c with
      | none => exact s.captureCode_moves i _
      | connect => exact (s.captureCode_moves i _).trans (State.setOutcome_moves _ i _)
      | release => exact (s.captureCode_moves i _).trans (State.applyRelease_moves _ i)
    · exact s.setOutcome_moves i _

theorem State.writeBad_moves (b : ByteEnables) : CircuitMoves s (s.writeBad i b) := by
  unfold State.writeBad
  split <;> exact s.setOutcome_moves i _

theorem State.releaseOne_moves : CircuitMoves s (s.releaseOne i) :=
  (s.captureCode_moves i _).trans (State.applyRelease_moves _ i)

/-! ## Results of orders (R98 to R101) -/

theorem State.connectCompleted_moves (d : Ends) (hs : (s.entry i).state = .restoring) :
    CircuitMoves s (s.connectCompleted i d) := by
  have hbusy : (s.entry i).state ≠ .idle := by simp [hs]
  unfold State.connectCompleted
  dsimp only
  split
  · unfold State.joined
    split
    · exact s.releaseBoth_moves i hbusy (by simp)
    · exact .put_of_busy hbusy (by simp) (by simp) (by simp)
  · exact .put (by simp) (by simp)

theorem State.takeConnectDone_moves (o : Order) : CircuitMoves s (s.takeConnectDone n o) := by
  unfold State.takeConnectDone
  split
  · unfold State.connectDone
    split
    · split
      · exact s.connectCompleted_moves _ _ ‹_›
      · exact .refl s
    · exact CircuitMoves.trans (by exact .put (by simp) (by simp)) (State.appendOrder_moves _ _ _ _)
    · exact .put (by simp) (by simp)
    · exact .refl s
    · exact .refl s
  · exact .refl s

theorem State.dealOther_moves (x : Side) : CircuitMoves s (s.dealOther i x) := by
  unfold State.dealOther
  split
  · exact s.withdrawConnect_moves i _ _
  split
  · exact s.undoJoin_moves i x
  · exact .refl s

theorem State.resolveFaulted_moves (b : Bool) : CircuitMoves s (s.resolveFaulted i b) := by
  unfold State.resolveFaulted
  split
  · exact s.applyRelease_moves i
  · exact .refl s

/-- After ENTRY_FAULTED has been raised the table moves. -/
theorem State.entryRefused_moves (d : Ends) (r : RefusalReason) (hs : (s.entry i).state = .restoring) :
    CircuitMoves (s.raise (s.faultRecord n i r)) (s.entryRefused n i d r) := by
  unfold State.entryRefused
  dsimp only
  refine CircuitMoves.trans ?_ (State.resolveFaulted_moves _ i _)
  refine CircuitMoves.trans ?_ (CircuitMoves.foldl (fun t x => t.dealOther_moves i x) _ _)
  exact .put_of_busy (by simp [hs]) (by simp) (by simp) (by simp)

theorem State.takeConnectRefusal_moves (o : Order) (r : RefusalReason) :
    CircuitMoves s (s.takeConnectRefusal n o r) ∨
    CircuitMoves (s.raise (s.faultRecord n o.entry r)) (s.takeConnectRefusal n o r) := by
  unfold State.takeConnectRefusal
  split
  · unfold State.connectRefused
    split
    · split
      · exact .inr (s.entryRefused_moves n _ _ r ‹_›)
      · exact .inl (.refl s)
    · exact .inl (CircuitMoves.trans (.put (by simp) (by simp)) (State.settleReleasing_moves _ _))
    · exact .inl (.put (by simp) (by simp))
    · exact .inl (.refl s)
    · exact .inl (.refl s)
  · exact .inl (.refl s)

theorem State.takeReleaseEnd_moves (o : Order) : CircuitMoves s (s.takeReleaseEnd n o) := by
  unfold State.takeReleaseEnd
  split
  · exact s.releaseEnded_moves _ _
  · exact .refl s

/-! ## Parking at a sag notice (R105) -/

theorem State.sagWithdraw_moves (d : Ends) : CircuitMoves s (s.sagWithdraw i d) := by
  unfold State.sagWithdraw
  split
  · exact s.withdrawConnect_moves i _ _
  · exact .refl s

@[simp] theorem State.sagWithdraw_state (d : Ends) (j : EntryNo) :
    ((s.sagWithdraw i d).entry j).state = (s.entry j).state := by
  unfold State.sagWithdraw
  split
  · rw [State.entry_withdrawConnect]
    split <;> simp_all
  · rfl

theorem State.sagResolve_moves (hs : (s.entry i).state = .restoring) : CircuitMoves s (s.sagResolve i) := by
  have hbusy : (s.entry i).state ≠ .idle := by simp [hs]
  unfold State.sagResolve
  dsimp only
  split
  · split
    · exact CircuitMoves.trans (by exact .put rfl rfl) (.becomeIdle (by simp [hs]))
    · exact .put_of_busy hbusy (by simp) (by simp) rfl
  · exact .put_of_busy hbusy (by simp) (by simp) rfl

theorem State.sagEntry_moves : CircuitMoves s (s.sagEntry i) := by
  unfold State.sagEntry
  dsimp only
  split
  case h_1 => exact .refl s
  case h_2 => exact .refl s
  case h_3 h =>
    refine (CircuitMoves.foldl (fun s d => s.sagWithdraw_moves i d) _ s).trans (State.sagResolve_moves _ i ?_)
    rw [foldl_leaves (fun t : State => (t.entry i).state) (fun s d => s.sagWithdraw_state i d i), h]
  case h_4 h => exact .put_of_busy (by simp [h]) (by simp) (by simp) rfl
  case h_5 => exact CircuitMoves.trans (by exact .put rfl rfl) (State.settleReleasing_moves _ i)
  case h_6 => exact .put rfl rfl

theorem State.sagCircuits_moves : CircuitMoves
    { s with notices := { s.notices with circuits := s.notices.circuits - 1 } } s.sagCircuits :=
  CircuitMoves.foldl (fun s i => s.sagEntry_moves i) _ _

/-! ## Issue (R97) -/

theorem State.appendConnect_moves (d : Ends) (m : Mark) : CircuitMoves s (s.appendConnect i d m) := by
  unfold State.appendConnect
  split
  · exact s.appendOrder_moves i _ _
  · exact .refl s

/-- An entry issued is written as RESTORING, and the table moves. -/
theorem State.issueEntry_moves : CircuitMoves (s.putEntry i (s.entry i).toRestoring) (s.issueEntry i) := by
  unfold State.issueEntry
  dsimp only
  split
  · exact State.appendConnect_moves _ i _ _
  · exact (State.appendConnect_moves _ i _ _).trans (State.appendConnect_moves _ i _ _)

end

/-! ## Relations that every move keeps -/

/-- A notice of slot n taken from the channel of departure notices to the Circuit Table. -/
def State.dropDeparture (s : State) (n : SlotNo) : State :=
  { s with notices := { s.notices with departCircuits := s.notices.departCircuits.erase n } }

/-- A notice taken from the channel of sag notices to the Circuit Table. -/
def State.dropSag (s : State) : State := { s with notices := { s.notices with circuits := s.notices.circuits - 1 } }

/-- A relation kept by every elementary move, and by the taking of a notice from the table's two channels. -/
structure KeptByMoves (P : State → Prop) : Prop where
  move : ∀ s t, CircuitMove s t → P s → P t
  departed : ∀ s n, P s → P (s.dropDeparture n)
  sagged : ∀ s, P s → P s.dropSag

namespace KeptByMoves

variable {P : State → Prop} (h : KeptByMoves P)
include h

theorem moves {s t : State} (hm : CircuitMoves s t) (hs : P s) : P t := hm.keeps h.move hs

theorem parkSlot {s : State} (n : SlotNo) (hs : P s) : P (s.parkSlot n) :=
  h.moves (s.parkSlot_moves n) (h.departed s n hs)

theorem requestWrites : KeptByRequestWrites P where
  park _ n _ hs := h.parkSlot n hs
  write _ i c f e hs := h.moves (State.writeRequest_moves _ i c f e) hs
  bad s i e hs := h.moves (s.writeBad_moves i e) hs
  releaseOne s i hs := h.moves (s.releaseOne_moves i) hs

theorem reachEntry {s : State} (i : EntryNo) (hs : P s) : P (s.reachEntry i) :=
  State.reachEntry_keeps (fun _ n _ => h.parkSlot n) hs i

theorem takeDepartures {s : State} (hs : P s) : P s.takeDepartures :=
  State.takeDepartures_keeps (fun _ n => h.parkSlot n) hs

theorem takeSagCircuits {s : State} (hs : P s) : P s.takeSagCircuits :=
  h.moves (State.sagCircuits_moves _) (h.sagged _ (State.reachSag_keeps (fun _ n => h.parkSlot n) hs))

theorem finishSags {s : State} (hs : P s) : P s.finishSags :=
  State.finishSags_keeps (fun t ht => h.takeSagCircuits (s := t) ht) hs

theorem finishCircuits {s : State} (n : SlotNo) (hs : P s) : P (s.finishCircuits n) := by
  unfold State.finishCircuits
  split
  · exact h.parkSlot n hs
  · exact hs

theorem handBackAll {s : State} (n : SlotNo) (l : List Order) (hs : P s) : P (l.foldl (State.handBack n) s) :=
  h.moves (CircuitMoves.foldl (fun s o => s.handBack_moves n o) l s) hs

end KeptByMoves

end Sys2Proof.Machine
end

section
/-! The Circuit Table's counts (R90, R97, R111): what each elementary move does to them, and that only ISSUE moves an
entry to RESTORING. -/

namespace Sys2Proof.Machine

/-! ## Relations that read the Circuit Table alone -/

/-- A relation kept by every elementary move that reads the table and the count of RESTORING entries alone. -/
structure KeptByTable (P : State → Prop) : Prop where
  move : ∀ s t, CircuitMove s t → P s → P t
  congr : ∀ s t : State, t.circuits = s.circuits → t.restore.restoring = s.restore.restoring → P s → P t

theorem KeptByTable.keptByMoves {P : State → Prop} (h : KeptByTable P) : KeptByMoves P :=
  ⟨h.move, fun s _ hs => h.congr s _ rfl rfl hs, fun s hs => h.congr s _ rfl rfl hs⟩

section
variable (s : State)

@[simp] theorem State.sagRestore_restoring : s.sagRestore.restore.restoring = s.restore.restoring := rfl
@[simp] theorem State.normalRestore_restoring : s.normalRestore.restore.restoring = s.restore.restoring := rfl
@[simp] theorem State.openBarrier_restoring (cause : BitVec 8) :
    (s.openBarrier cause).restore.restoring = s.restore.restoring := rfl
@[simp] theorem State.recoverRestore_restoring : s.recoverRestore.restore.restoring = s.restore.restoring := by
  unfold State.recoverRestore
  split <;> rfl

end

theorem KeptByTable.departLink {P : State → Prop} (h : KeptByTable P) {s : State} (n : SlotNo) (hs : P s) :
    P (s.departLink n) :=
  h.keptByMoves.handBackAll n _ (h.congr s _ (by simp) (by simp) hs)

theorem KeptByTable.finishLink {P : State → Prop} (h : KeptByTable P) {s : State} (n : SlotNo) (hs : P s) :
    P (s.finishLink n) := by
  unfold State.finishLink
  split
  · exact h.departLink n hs
  · exact hs

/-- Every row but ISSUE and POWER_ON_RESET moves the table by elementary moves. -/
theorem KeptByTable.of_effect {P : State → Prop} (h : KeptByTable P) {c : Instr} {s t : State} (he : Effect s t c)
    (hc : ∀ n f, c ≠ .discardedFrame n f) (hissue : c ≠ .issue) (hpower : ∀ a f, c ≠ .powerOnReset a f) (hs : P s) :
    P t := by
  have hm := h.keptByMoves
  cases c
  case powerOnReset a f => exact absurd rfl (hpower a f)
  case issue => exact absurd rfl hissue
  case discardedFrame n f => exact absurd rfl (hc n f)
  case sagNoticeCircuits =>
    obtain ⟨-, -, rfl⟩ := he
    exact hm.takeSagCircuits hs
  case departureNoticeCircuits n =>
    obtain ⟨-, -, rfl⟩ := he
    exact hm.parkSlot n hs
  case departureNoticeLink n =>
    obtain ⟨-, -, rfl⟩ := he
    exact h.departLink n hs
  case laneGrant =>
    obtain ⟨-, n, l, -, rfl⟩ := he
    exact h.congr (s.finishDeparture n) _ (by simp [State.grant]) (by simp [State.grant])
      (hm.finishCircuits n (hm.finishSags (h.finishLink n hs)))
  case sagNoticeSlots =>
    obtain ⟨-, -, ht⟩ := he
    subst_vars
    exact h.congr _ _ (by simp [State.sagSlots]) (by simp [State.sagSlots]) (hm.takeDepartures hs)
  case connectDone n tag =>
    obtain ⟨-, o, -, rfl⟩ := he
    have hr := hm.reachEntry o.entry hs
    exact hm.moves (State.takeConnectDone_moves _ n o) (h.congr _ _ (by simp) (by simp) hr)
  case connectRefusal n tag reason =>
    obtain ⟨-, o, -, rfl⟩ := he
    have hr := h.congr _ ((s.reachEntry o.entry).completeOrder n) (by simp) (by simp) (hm.reachEntry o.entry hs)
    rcases State.takeConnectRefusal_moves ((s.reachEntry o.entry).completeOrder n) n o reason with k | k
    · exact hm.moves k hr
    · exact hm.moves k (h.congr _ _ (by simp) (by simp) hr)
  case releaseResult n tag answer =>
    obtain ⟨-, o, -, rfl⟩ := he
    have hr := hm.reachEntry o.entry hs
    exact hm.moves (State.takeReleaseEnd_moves _ n o) (h.congr _ _ (by simp) (by simp) hr)
  case settableWordWrite w d e =>
    obtain ⟨-, rfl⟩ := he
    refine h.congr (s.writeShadow w d e) _ (by simp) (by simp)
      (State.writeShadow_keeps ⟨?_, ?_, ?_, ?_, ?_, ?_⟩ ⟨?_, ?_, ?_, ?_⟩ hm.requestWrites ?_ hs w d e)
    all_goals
      intros
      rename_i hs
      refine h.congr _ _ ?_ ?_ hs <;> simp
  case releaseAll =>
    obtain ⟨-, rfl⟩ := he
    exact h.congr s.takeReleaseAll _ (by simp) (by simp) (State.takeReleaseAll_keeps hm.requestWrites hs)
  case connect i f e =>
    obtain ⟨-, rfl⟩ := he
    exact h.congr _ _ (by simp) (by simp) (hm.requestWrites.write _ i .connect f e (hm.reachEntry i hs))
  case release i f e =>
    obtain ⟨-, rfl⟩ := he
    exact h.congr _ _ (by simp) (by simp) (hm.requestWrites.write _ i .release f e (hm.reachEntry i hs))
  case noneRequest i f e =>
    obtain ⟨-, rfl⟩ := he
    exact h.congr _ _ (by simp) (by simp) (hm.requestWrites.write _ i .none f e (hm.reachEntry i hs))
  case badRequest i e =>
    obtain ⟨-, rfl⟩ := he
    exact h.congr _ _ (by simp) (by simp) (hm.requestWrites.bad _ i e (hm.reachEntry i hs))
  all_goals
    simp only [Effect] at he
    try casesm* _ ∧ _, _ ∨ _, ∃ _, _
    all_goals
      subst_vars
      refine h.congr s _ (by simp) (by simp) hs

/-! ## Counts -/

/-- 1 where a table lists a key with a value that satisfies a test, and otherwise 0. -/
def Sparse.hits {α : Type} (p : Nat × α → Bool) (l : List (Nat × α)) (k : Nat) : Nat :=
  ((Sparse.lookup l k).elim false fun v => p (k, v)).toNat

/-- A key below every listed key is not listed. -/
theorem Sparse.lookup_of_below {α : Type} {l : List (Nat × α)} {k : Nat} (h : ∀ p ∈ l, k < p.1) :
    Sparse.lookup l k = none := by
  induction l with
  | nil => rfl
  | cons p rest ih =>
    obtain ⟨j, v⟩ := p
    have hj : k < j := h (j, v) (List.mem_cons_self ..)
    simp [Sparse.lookup, hj.ne', ih fun q hq => h q (List.mem_cons_of_mem _ hq)]

theorem Sparse.countP_erase {α : Type} {p : Nat × α → Bool} {l : List (Nat × α)} (h : Sparse.wf l) (k : Nat) :
    (Sparse.erase l k).countP p + Sparse.hits p l k = l.countP p := by
  induction l with
  | nil => rfl
  | cons q rest ih =>
    obtain ⟨j, v⟩ := q
    obtain ⟨hq, hr⟩ := List.pairwise_cons.mp h
    by_cases hk : j = k
    · subst hk
      have hnone := Sparse.lookup_of_below hq
      have hrest := ih hr
      simp only [Sparse.hits, hnone, Option.elim_none, Bool.toNat_false, Nat.add_zero] at hrest
      have he : Sparse.erase ((j, v) :: rest) j = Sparse.erase rest j := by simp [Sparse.erase]
      rw [he, hrest, List.countP_cons]
      simp [Sparse.hits, Sparse.lookup, Bool.toNat, Bool.cond_eq_ite]
    · have he : Sparse.erase ((j, v) :: rest) k = (j, v) :: Sparse.erase rest k := by simp [Sparse.erase, hk]
      have hh : Sparse.hits p ((j, v) :: rest) k = Sparse.hits p rest k := by simp [Sparse.hits, Sparse.lookup, hk]
      rw [he, hh, List.countP_cons, List.countP_cons, ← ih hr]
      omega

theorem Sparse.countP_insert {α : Type} {p : Nat × α → Bool} {l : List (Nat × α)} (h : Sparse.wf l) (k : Nat) (v : α) :
    (Sparse.insert l k v).countP p + Sparse.hits p l k = l.countP p + (p (k, v)).toNat := by
  induction l with
  | nil => simp [Sparse.insert, Sparse.hits, Sparse.lookup, List.countP_cons, Bool.toNat, Bool.cond_eq_ite]
  | cons q rest ih =>
    obtain ⟨j, w⟩ := q
    obtain ⟨hq, hr⟩ := List.pairwise_cons.mp h
    unfold Sparse.insert
    split
    · rename_i hlt
      have hnone : Sparse.lookup ((j, w) :: rest) k = none :=
        Sparse.lookup_of_below fun q hm => (List.mem_cons.mp hm).elim (fun e => e ▸ hlt) fun hm => hlt.trans (hq q hm)
      rw [Sparse.hits, hnone, List.countP_cons (a := (k, v))]
      simp [Bool.toNat, Bool.cond_eq_ite]
    · split
      · rename_i _ he
        subst he
        simp only [List.countP_cons, Sparse.hits, Sparse.lookup, if_true, Option.elim_some, Bool.toNat,
          Bool.cond_eq_ite]
        omega
      · rename_i hlt hne
        have hh : Sparse.hits p ((j, w) :: rest) k = Sparse.hits p rest k := by
          simp [Sparse.hits, Sparse.lookup, Ne.symm hne]
        have := ih hr
        simp only [hh, List.countP_cons]
        omega

/-- The number of entries in a state other than IDLE moves as `moveCount` says. -/
theorem inState_putEntry (s : State) (i : EntryNo) (e : Entry) {st : EntryState} (hst : st ≠ .idle)
    (h : Sparse.wf s.circuits.entries) : (s.putEntry i e).circuits.inState st =
      moveCount st (s.entry i).state e.state (s.circuits.inState st) := by
  have hold : Sparse.hits (fun q => q.2.state == st) s.circuits.entries i.val =
      if (s.entry i).state = st then 1 else 0 := by
    have hi : Entry.initial.state ≠ st := hst.symm
    rw [State.entry, Sparse.hits]
    cases Sparse.lookup s.circuits.entries i.val <;> simp [hi, Bool.toNat, Bool.cond_eq_ite]
  rw [moveCount, ← hold]
  simp only [CircuitTable.inState, State.putEntry, putEntries]
  split
  · rename_i he
    have hi : e.state ≠ st := by rw [he]; exact hst.symm
    have := Sparse.countP_erase (p := fun q : Nat × Entry => q.2.state == st) h i.val
    simp only [hi, if_false]
    omega
  · have := Sparse.countP_insert (p := fun q : Nat × Entry => q.2.state == st) h i.val e
    simp only [Bool.toNat, Bool.cond_eq_ite, beq_iff_eq] at this
    omega

theorem CountsOk.putEntry {s : State} (h : CountsOk s) (i : EntryNo) (e : Entry)
    (hwin : moveCount .restoring (s.entry i).state e.state s.restore.restoring ≤ 16) : CountsOk (s.putEntry i e) where
  listed := putEntries_wf h.listed i e
  indices p hp := by
    simp only [State.putEntry, putEntries] at hp
    split at hp
    · exact h.indices p (List.mem_of_mem_filter hp)
    · obtain rfl | hp := Sparse.mem_insert hp
      · exact i.isLt
      · exact h.indices p hp
  waiting := by
    rw [inState_putEntry s i e (by decide) h.listed, ← h.waiting]
    rfl
  live := by
    rw [inState_putEntry s i e (by decide) h.listed, ← h.live]
    rfl
  faulted := by
    rw [inState_putEntry s i e (by decide) h.listed, ← h.faulted]
    rfl
  restoring := by
    rw [inState_putEntry s i e (by decide) h.listed, ← h.restoring]
    rfl
  window := hwin

/-- The relation reads the entries and the counts alone. -/
theorem CountsOk.congr {s t : State} (h : CountsOk s) (he : t.circuits.entries = s.circuits.entries)
    (hw : t.circuits.waiting = s.circuits.waiting) (hl : t.circuits.live = s.circuits.live)
    (hf : t.circuits.faulted = s.circuits.faulted) (hr : t.restore.restoring = s.restore.restoring) : CountsOk t := by
  have hst : ∀ st, t.circuits.inState st = s.circuits.inState st := fun st => by
    rw [CircuitTable.inState, CircuitTable.inState, he]
  exact ⟨he ▸ h.listed, he ▸ h.indices, by rw [hw, hst, h.waiting], by rw [hl, hst, h.live],
    by rw [hf, hst, h.faulted], by rw [hr, hst, h.restoring], hr ▸ h.window⟩

theorem moveCount_le {st old new : EntryState} (h : new = st → old = st) (c : Nat) : moveCount st old new c ≤ c := by
  unfold moveCount
  by_cases hn : new = st
  · simp [hn, h hn]
  · simp only [hn, if_false]
    omega

theorem CountsOk.of_move {s t : State} (hm : CircuitMove s t) (h : CountsOk s) : CountsOk t := by
  have hle := h.window
  cases hm with
  | put i e hidle hrest hfields => exact h.putEntry i e ((moveCount_le hrest _).trans hle)
  | becomeIdle i hstate =>
    exact (h.putEntry i _ ((moveCount_le (by simp) _).trans hle)).congr rfl rfl rfl rfl rfl
  | connect i f hstate hgood hfree =>
    exact (h.putEntry i _ ((moveCount_le (by simp) _).trans hle)).congr rfl rfl rfl rfl rfl
  | append n o hlinked hflight => exact h.congr rfl rfl rfl rfl rfl
  | withdraw n i ends => exact h.congr rfl rfl rfl rfl rfl

theorem CountsOk.keptByTable : KeptByTable CountsOk where
  move _ _ := CountsOk.of_move
  congr _ _ hc hr h := h.congr (by rw [hc]) (by rw [hc]) (by rw [hc]) (by rw [hc]) hr

theorem State.mayIssue_iff {s : State} :
    s.mayIssue = true ↔ s.restore.phase ≠ .sagged ∧ s.restore.restoring < 16 := by
  simp [State.mayIssue]

theorem State.issueWinner_waiting {s : State} {i : EntryNo} (h : s.issueWinner = some i) :
    (s.entry i).state = .waiting := by
  obtain ⟨c, -, hc⟩ := List.exists_of_findSome?_eq_some h
  have hp := List.find?_some hc
  simp only [State.eligible, Bool.and_eq_true, beq_iff_eq] at hp
  exact hp.1.1.1.1

theorem CountsOk.reset : CountsOk State.reset where
  listed := by decide
  indices := by decide
  waiting := by decide
  live := by decide
  faulted := by decide
  restoring := by decide
  window := by decide

theorem CountsOk.of_effect {c : Instr} {s t : State} (h : CountsOk s) (he : Effect s t c)
    (hc : ∀ n f, c ≠ .discardedFrame n f) : CountsOk t := by
  by_cases hissue : c = .issue
  · subst hissue
    obtain ⟨-, i, hi, hmay, rfl⟩ := he
    have hlt := (State.mayIssue_iff.mp hmay).2
    refine (State.issueEntry_moves s i).keeps (fun _ _ => CountsOk.of_move) (h.putEntry i _ ?_)
    unfold moveCount
    split <;> split <;> omega
  by_cases hpower : ∃ a f, c = .powerOnReset a f
  · obtain ⟨a, f, rfl⟩ := hpower
    subst he
    exact CountsOk.reset.congr rfl rfl rfl rfl rfl
  · exact CountsOk.keptByTable.of_effect he hc hissue (fun a f e => hpower ⟨a, f, e⟩) h

/-! ## Only ISSUE moves an entry to RESTORING (R97, R111) -/

/-- Every entry in RESTORING was so in s. -/
def State.NoneIssued (s t : State) : Prop := ∀ i, (t.entry i).state = .restoring → (s.entry i).state = .restoring

theorem State.NoneIssued.keptByTable (s : State) : KeptByTable s.NoneIssued where
  move t u hm h i hi := by
    apply h
    cases hm with
    | put j e hidle hrest hfields =>
      rw [State.entry_putEntry] at hi
      split at hi
      · subst_vars
        exact hrest hi
      · exact hi
    | becomeIdle j hstate =>
      rw [State.entry_becomeIdle] at hi
      split at hi
      · cases hi
      · exact hi
    | connect j f hstate hgood hfree =>
      rw [State.entry_admit] at hi
      split at hi
      · cases hi
      · exact hi
    | append n o hlinked hflight => exact hi
    | withdraw n j ends => exact hi
  congr t u hc _ h i hi := h i (by simpa [State.entry, hc, -State.entries_lookup] using hi)

/-- Settles O9: the five elementary moves keep the counts, ISSUE is taken below the window's 16, and no move takes an
entry into RESTORING. -/
theorem countsStayRight : Obligations.CountsStayRight := by
  refine ⟨fun s t h hs => ?_, fun c s t i hx hold hnew => ?_⟩
  · exact step_keeps (P := CountsOk) (fun s q h => h.congr rfl rfl rfl rfl rfl)
      (fun s t h => h.congr rfl rfl rfl rfl rfl) (fun c s t hc h he => h.of_effect he hc)
      (fun s h => h.congr (by simp) (by simp) (by simp) (by simp) (by simp)) h hs
  · rcases exec_effect hx with rfl | ⟨c', u, he, hd, hrow, hu⟩
    · exact absurd hnew hold
    have hnew : (u.entry i).state = .restoring := by rcases hu with rfl | rfl <;> exact hnew
    have hc' : c' = .issue := by
      by_contra hissue
      by_cases hpower : ∃ a f, c' = .powerOnReset a f
      · obtain ⟨a, f, rfl⟩ := hpower
        subst he
        cases hnew
      · exact hold ((State.NoneIssued.keptByTable s).of_effect he hd hissue (fun a f e => hpower ⟨a, f, e⟩)
          (fun _ h => h) i hnew)
    subst hc'
    obtain ⟨-, j, hj, hmay, rfl⟩ := he
    have hij : i = j := by
      by_contra hne
      have hput := (State.issueEntry_moves s j).keeps (State.NoneIssued.keptByTable _).move (fun _ h => h) i hnew
      rw [State.entry_putEntry, if_neg (Ne.symm hne)] at hput
      exact hold hput
    subst hij
    refine ⟨?_, State.issueWinner_waiting hj, (State.mayIssue_iff.mp hmay).2⟩
    rcases hrow with e | e
    · exact e.symm
    · cases e

end Sys2Proof.Machine
end

section
/-! The age list and the endpoint index (R88, R89, R92): what each elementary move does to them. -/

namespace Sys2Proof.Machine

/-- The relation reads the entries, the age list and the index alone. -/
theorem AgeListOk.congr {s t : State} (h : AgeListOk s) (he : ∀ i, t.entry i = s.entry i)
    (ha : t.circuits.ageList = s.circuits.ageList) (hi : ∀ p, t.holder p = s.holder p) : AgeListOk t where
  once := ha ▸ h.once
  holds i := by rw [ha, he, h.holds]
  holder p i := by rw [hi, he, h.holder]
  endpoints i := by rw [he]; exact h.endpoints i

/-- An entry written that neither leaves nor enters IDLE, with the fields it holds kept. -/
theorem AgeListOk.putEntry {s : State} (h : AgeListOk s) (i : EntryNo) (e : Entry)
    (hidle : e.state = .idle ↔ (s.entry i).state = .idle)
    (hfields : (s.entry i).state ≠ .idle → e.fields = (s.entry i).fields) : AgeListOk (s.putEntry i e) := by
  have hstate : ∀ j, ((s.putEntry i e).entry j).state ≠ .idle ↔ (s.entry j).state ≠ .idle := fun j => by
    rw [State.entry_putEntry]
    split
    · subst_vars
      exact not_congr hidle
    · rfl
  have hkept : ∀ j, (s.entry j).state ≠ .idle → ((s.putEntry i e).entry j).fields = (s.entry j).fields := fun j hj => by
    rw [State.entry_putEntry]
    split
    · subst_vars
      exact hfields hj
    · rfl
  refine ⟨h.once, fun j => (h.holds j).trans (hstate j).symm, fun p j => (h.holder p j).trans ?_, fun j hj => ?_⟩
  · rw [hstate]
    exact and_congr_right fun hj => by rw [hkept j hj]
  · rw [hkept j ((hstate j).mp hj)]
    exact h.endpoints j ((hstate j).mp hj)

theorem AgeListOk.becomeIdle {s : State} (h : AgeListOk s) (i : EntryNo) (hi : (s.entry i).state ≠ .idle) :
    AgeListOk (s.becomeIdle i) := by
  have hent : ∀ j, i ≠ j → (s.becomeIdle i).entry j = s.entry j := fun j hj => by
    rw [State.entry_becomeIdle, if_neg hj]
  have hidle : ((s.becomeIdle i).entry i).state = .idle := by
    rw [State.entry_becomeIdle, if_pos rfl]
    rfl
  have hheld : ∀ p, p = (s.entry i).fields.a ∨ p = (s.entry i).fields.b → s.holder p = some i :=
    fun p hp => (h.holder p i).mpr ⟨hi, hp⟩
  refine ⟨h.once.erase i, fun j => ?_, fun p j => ?_, fun j hj => ?_⟩
  · rw [State.ageList_becomeIdle, h.once.mem_erase_iff, h.holds]
    by_cases hj : i = j
    · subst hj
      exact iff_of_false (fun hm => hm.1 rfl) fun hm => hm hidle
    · rw [hent j hj]
      exact and_iff_right (Ne.symm hj)
  · rw [State.holder_becomeIdle]
    by_cases hj : i = j
    · subst hj
      refine iff_of_false (fun hm => ?_) fun hm => hm.1 hidle
      split at hm
      · cases hm
      · rename_i hp
        exact hp ((h.holder p i).mp hm).2
    · rw [hent j hj, ← h.holder]
      split
      · rename_i hp
        rw [hheld p hp]
        exact iff_of_false nofun fun e => hj (Option.some.inj e)
      · rfl
  · by_cases hij : i = j
    · subst hij
      exact absurd hidle hj
    · rw [hent j hij] at hj ⊢
      exact h.endpoints j hj

theorem AgeListOk.acceptConnect {s : State} (h : AgeListOk s) (i : EntryNo) (f : RequestFields)
    (hi : (s.entry i).state = .idle) (hgood : RequestFieldsBad f = false) (hfree : s.portInUse f = false) :
    AgeListOk (s.acceptConnect i f) := by
  have hnew : i ∉ s.circuits.ageList := fun hm => (h.holds i).mp hm hi
  obtain ⟨ha, hb⟩ : s.holder f.a = none ∧ s.holder f.b = none := by
    simpa [State.portInUse] using hfree
  have hfree : ∀ p, p = f.a ∨ p = f.b → s.holder p = none := by
    rintro p (rfl | rfl)
    · exact ha
    · exact hb
  have hent : ∀ j, i ≠ j → (s.acceptConnect i f).entry j = s.entry j := fun j hj => by
    rw [State.entry_admit, if_neg hj]
  have hstate : ((s.acceptConnect i f).entry i).state = .waiting ∧ ((s.acceptConnect i f).entry i).fields = f := by
    rw [State.entry_admit, if_pos rfl]
    exact ⟨rfl, rfl⟩
  have hage : (s.acceptConnect i f).circuits.ageList = s.circuits.ageList ++ [i] := rfl
  refine ⟨?_, fun j => ?_, fun p j => ?_, fun j hj => ?_⟩
  · rw [hage, List.nodup_append]
    exact ⟨h.once, List.nodup_singleton i, fun a ham b hb => by
      rw [List.mem_singleton.mp hb]
      exact fun e => hnew (e ▸ ham)⟩
  · rw [hage, List.mem_append, List.mem_singleton]
    by_cases hj : i = j
    · subst hj
      rw [hstate.1]
      exact iff_of_true (.inr rfl) nofun
    · rw [hent j hj, h.holds]
      exact or_iff_left (Ne.symm hj)
  · rw [State.holder_admit]
    by_cases hj : i = j
    · subst hj
      rw [hstate.1, hstate.2]
      split
      · rename_i hp
        exact iff_of_true rfl ⟨nofun, hp⟩
      · rename_i hp
        exact iff_of_false (fun e => ((h.holder p i).mp e).1 hi) fun hm => hp hm.2
    · rw [hent j hj, ← h.holder]
      split
      · rename_i hp
        rw [hfree p hp]
        exact iff_of_false (fun e => hj (Option.some.inj e)) nofun
      · rfl
  · by_cases hij : i = j
    · subst hij
      rw [hstate.2]
      exact hgood
    · rw [hent j hij] at hj ⊢
      exact h.endpoints j hj

theorem AgeListOk.of_move {s t : State} (hm : CircuitMove s t) (h : AgeListOk s) : AgeListOk t := by
  cases hm with
  | put i e hidle hrest hfields => exact h.putEntry i e hidle hfields
  | becomeIdle i hstate => exact h.becomeIdle i hstate
  | connect i f hstate hgood hfree => exact h.acceptConnect i f hstate hgood hfree
  | append n o hlinked hflight => exact h.congr (fun _ => rfl) rfl fun _ => rfl
  | withdraw n i ends => exact h.congr (fun _ => rfl) rfl fun _ => rfl

theorem AgeListOk.keptByTable : KeptByTable AgeListOk where
  move _ _ := AgeListOk.of_move
  congr s t hc _ h := h.congr (fun i => by rw [State.entry, hc, State.entries_lookup]) (by rw [hc])
    (fun p => by rw [State.holder, hc, State.index_lookup])

theorem AgeListOk.reset : AgeListOk State.reset where
  once := List.nodup_nil
  holds _ := iff_of_false (List.not_mem_nil) fun h => h rfl
  holder _ _ := iff_of_false nofun fun h => h.1 rfl
  endpoints _ h := absurd rfl h

theorem AgeListOk.of_effect {c : Instr} {s t : State} (h : AgeListOk s) (he : Effect s t c)
    (hc : ∀ n f, c ≠ .discardedFrame n f) : AgeListOk t := by
  by_cases hissue : c = .issue
  · subst hissue
    obtain ⟨-, i, hi, hmay, rfl⟩ := he
    have hw := State.issueWinner_waiting hi
    exact (State.issueEntry_moves s i).keeps (fun _ _ => AgeListOk.of_move)
      (h.putEntry i _ (iff_of_false nofun (by simp [hw])) fun _ => rfl)
  by_cases hpower : ∃ a f, c = .powerOnReset a f
  · obtain ⟨a, f, rfl⟩ := hpower
    subst he
    exact AgeListOk.reset.congr (fun _ => rfl) rfl fun _ => rfl
  · exact AgeListOk.keptByTable.of_effect he hc hissue (fun a f e => hpower ⟨a, f, e⟩) h

/-- Settles O10: the five elementary moves keep the age list and the index, and ISSUE takes a WAITING entry on. -/
theorem ageListAndIndexStayRight : Obligations.AgeListAndIndexStayRight := by
  intro s t h hs
  exact step_keeps (P := AgeListOk) (fun s q h => h.congr (fun _ => rfl) rfl fun _ => rfl)
    (fun s t h => h.congr (fun _ => rfl) rfl fun _ => rfl) (fun c s t hc h he => h.of_effect he hc)
    (fun s h => AgeListOk.keptByTable.congr s _ (by simp) (by simp) h) h hs

end Sys2Proof.Machine
end

section
/-! The Slot Sequencer: every operation on a slot leaves a state, its work ended (R24), and enters one that needs no
lane, or changes nothing that lanes, links and windows hang on. A relation on those that the two keep is kept by every
operation. -/

namespace Sys2Proof.Machine

/-! ## What lanes, links and windows hang on -/

/-- The part of a slot context that lanes and links hang on. -/
def SlotContext.work (c : SlotContext) : SlotState × Option LaneNo × Mode := (c.state, c.lane, c.mode)

/-- The work that a Link Unit holds. -/
def LinkUnit.held (l : LinkUnit) : Option Exchange × List Order × Option WindowRequest × Bool :=
  (l.exchange, l.orders, l.window, l.lossDeclared)

/-- Two states that agree on what lanes, links and windows hang on. -/
structure SameWork (s t : State) : Prop where
  slot : ∀ n, (t.slot n).work = (s.slot n).work
  link : ∀ n, (t.link n).held = (s.link n).held
  lane : ∀ l, t.lane l = s.lane l
  notices : t.notices = s.notices
  ctrl : t.path.ctrl = s.path.ctrl
  marker : t.path.marker = s.path.marker
  por : t.por = s.por

namespace SameWork

theorem refl (s : State) : SameWork s s := ⟨fun _ => rfl, fun _ => rfl, fun _ => rfl, rfl, rfl, rfl, rfl⟩

theorem trans {s t u : State} (h : SameWork s t) (k : SameWork t u) : SameWork s u :=
  ⟨fun n => (k.slot n).trans (h.slot n), fun n => (k.link n).trans (h.link n), fun l => (k.lane l).trans (h.lane l),
    k.notices.trans h.notices, k.ctrl.trans h.ctrl, k.marker.trans h.marker, k.por.trans h.por⟩

theorem symm {s t : State} (h : SameWork s t) : SameWork t s :=
  ⟨fun n => (h.slot n).symm, fun n => (h.link n).symm, fun l => (h.lane l).symm, h.notices.symm, h.ctrl.symm,
    h.marker.symm, h.por.symm⟩

theorem raise (s : State) (r : Record) : SameWork s (s.raise r) :=
  ⟨fun _ => rfl, fun _ => rfl, fun _ => rfl, rfl, rfl, rfl, rfl⟩

/-- One slot context written that keeps state, lane and mode. -/
theorem setSlot {s : State} {n : SlotNo} {c : SlotContext} (h : c.work = (s.slot n).work) :
    SameWork s (s.setSlot n c) where
  slot m := by
    rw [State.slot_setSlot]
    split
    · subst_vars
      exact h
    · rfl
  link _ := rfl
  lane _ := rfl
  notices := rfl
  ctrl := rfl
  marker := rfl
  por := rfl

/-- One Link Unit written that keeps its work. -/
theorem setLink {s : State} {n : SlotNo} {l : LinkUnit} (h : l.held = (s.link n).held) :
    SameWork s (s.setLink n l) where
  slot _ := rfl
  link m := by
    rw [State.link_setLink]
    split
    · subst_vars
      exact h
    · rfl
  lane _ := rfl
  notices := rfl
  ctrl := rfl
  marker := rfl
  por := rfl

/-- A slot written in both. -/
theorem setSlot_congr {s t : State} (h : SameWork s t) (n : SlotNo) (c : SlotContext) :
    SameWork (s.setSlot n c) (t.setSlot n c) where
  slot m := by
    rw [State.slot_setSlot, State.slot_setSlot]
    split
    · rfl
    · exact h.slot m
  link := h.link
  lane := h.lane
  notices := h.notices
  ctrl := h.ctrl
  marker := h.marker
  por := h.por

end SameWork

section
variable (s : State) (n : SlotNo)

theorem State.stopListening_same : SameWork s (s.stopListening n) := .setLink rfl

theorem State.endBootWait_same : SameWork s (s.endBootWait n) := by
  refine SameWork.trans ?_ (State.stopListening_same _ n)
  exact .setSlot rfl

theorem State.listen_same (rate : Rate) : SameWork s (s.listen n rate) := .setLink rfl

theorem State.startBootWait_same : SameWork s (s.startBootWait n) := by
  refine SameWork.trans ?_ (State.listen_same _ n _)
  exact .setSlot rfl

theorem State.endPulse_same : SameWork s (s.endPulse n) := by
  unfold State.endPulse
  dsimp only
  split
  · refine SameWork.trans ?_ (State.startBootWait_same _ n)
    exact .setSlot rfl
  · exact .setSlot rfl

theorem State.clearForce_same : SameWork s (s.clearForce n) := .setSlot rfl

theorem State.recordCardGood_same (l : Level) : SameWork s (s.recordCardGood n l) := .setSlot rfl

theorem State.recordIdentity_same (t r : BitVec 16) : SameWork s (s.recordIdentity n t r) := .setSlot rfl

theorem State.releaseReset_same : SameWork s (s.releaseReset n) := .setSlot rfl

theorem State.raiseLost_same : SameWork s (s.raiseLost n) := by
  unfold State.raiseLost
  split
  · exact .raise s _
  · exact .refl s

theorem State.slot_openEpisode (stamp : Word) : (s.openEpisode stamp).slot n = (s.slot n).markEpisode :=
  Vector.getElem_map ..

theorem State.judgeOnce_same : SameWork s s.judgeOnce := ⟨fun _ => rfl, fun _ => rfl, fun _ => rfl, rfl, rfl, rfl, rfl⟩

theorem State.openEpisode_same (stamp : Word) : SameWork s (s.openEpisode stamp) where
  slot m := by
    rw [State.slot_openEpisode]
    rfl
  link _ := rfl
  lane _ := rfl
  notices := rfl
  ctrl := rfl
  marker := rfl
  por := rfl

end

/-! ## Entering a state that needs no lane -/

/-- The states that neither hold a lane nor have an exchange or an order of their own. -/
def SlotState.Away (x : SlotState) : Prop := x ≠ .training ∧ x ≠ .identify ∧ x ≠ .linked

/-- A slot enters a state that needs no lane, its lane field untouched. -/
def State.Enters (s : State) (n : SlotNo) (t : State) : Prop :=
  ∃ c : SlotContext, c.state.Away ∧ c.lane = (s.slot n).lane ∧ SameWork (s.setSlot n c) t

section
variable (s : State) (n : SlotNo)

/-- A slot context written in such a state. -/
theorem State.enters_setSlot {c : SlotContext} (hc : c.state.Away) (hl : c.lane = (s.slot n).lane) :
    s.Enters n (s.setSlot n c) := ⟨c, hc, hl, .refl _⟩

theorem State.Enters.then_same {s : State} {n : SlotNo} {t u : State} (h : s.Enters n t) (k : SameWork t u) :
    s.Enters n u := by
  obtain ⟨c, hc, hl, ht⟩ := h
  exact ⟨c, hc, hl, ht.trans k⟩

/-- A change of the slot context before the move is overwritten by it. -/
theorem State.Enters.of_setSlot {s : State} {n : SlotNo} {d : SlotContext} {t : State} (h : (s.setSlot n d).Enters n t)
    (hl : d.lane = (s.slot n).lane) : s.Enters n t := by
  obtain ⟨c, hc, hcl, ht⟩ := h
  rw [State.slot_setSlot, if_pos rfl] at hcl
  rw [State.setSlot_setSlot] at ht
  exact ⟨c, hc, hcl.trans hl, ht⟩

theorem State.bootWithReset_enters (k : Nat) : s.Enters n (s.bootWithReset n k) :=
  s.enters_setSlot n ⟨nofun, nofun, nofun⟩ rfl

theorem State.bootWithoutReset_enters : s.Enters n (s.bootWithoutReset n) := by
  refine State.Enters.then_same ?_ (State.startBootWait_same _ n)
  exact s.enters_setSlot n ⟨nofun, nofun, nofun⟩ rfl

theorem State.goPending_enters (m : Mode) (k : Nat) : s.Enters n (s.goPending n m k) :=
  s.enters_setSlot n ⟨nofun, nofun, nofun⟩ rfl

theorem State.goHeld_enters (f r : Bool) : s.Enters n (s.goHeld n f r) := s.enters_setSlot n ⟨nofun, nofun, nofun⟩ rfl

theorem State.startHeld_enters (r : Bool) : s.Enters n (s.startHeld n r) :=
  s.enters_setSlot n ⟨nofun, nofun, nofun⟩ rfl

theorem State.goEmpty_enters : s.Enters n (s.goEmpty n) := s.enters_setSlot n ⟨nofun, nofun, nofun⟩ rfl

theorem State.goOffline_enters : s.Enters n (s.goOffline n) := s.enters_setSlot n ⟨nofun, nofun, nofun⟩ rfl

theorem State.goFailed_enters (r : FailReason) : s.Enters n (s.goFailed n r) := by
  refine State.Enters.then_same ?_ (.raise _ _)
  exact s.enters_setSlot n ⟨nofun, nofun, nofun⟩ rfl

theorem State.goMismatch_enters : s.Enters n (s.goMismatch n) := by
  refine State.Enters.then_same ?_ (.raise _ _)
  exact s.enters_setSlot n ⟨nofun, nofun, nofun⟩ rfl

theorem State.failAttempt_enters (r : FailReason) : s.Enters n (s.failAttempt n r) := by
  unfold State.failAttempt
  dsimp only
  split
  · exact State.Enters.of_setSlot (State.bootWithReset_enters _ n _) rfl
  · exact State.Enters.of_setSlot (State.goFailed_enters _ n _) rfl

end

/-! ## The work of a state ended -/

section
variable {s : State} {n : SlotNo}

theorem State.endWork_of_training (h : (s.slot n).state = .training) : s.endWork n = (s.releaseLane n).freeLink n := by
  rw [State.endWork, h]

/-- A failed FULL sweep frees the link before it gives the lane back (R64). -/
theorem State.releaseLane_freeLink (h : (s.slot n).state = .training) : (s.freeLink n).releaseLane n = s.endWork n := by
  rw [State.endWork_of_training h]
  unfold State.releaseLane State.freeLink
  simp only [State.slot_setLink]
  split <;> rfl

theorem State.endWork_of_identify (h : (s.slot n).state = .identify) : s.endWork n = s.freeLink n := by
  rw [State.endWork, h]

theorem State.endWork_of_linked (h : (s.slot n).state = .linked) : s.endWork n = s.sendDeparture n := by
  rw [State.endWork, h]

/-- A state that needs no lane has no work that lanes and links hang on. -/
theorem State.endWork_same (h : (s.slot n).state.Away) : SameWork s (s.endWork n) := by
  obtain ⟨ht, hi, hl⟩ := h
  unfold State.endWork
  split
  case h_1 => exact s.endBootWait_same n
  case h_2 h => exact absurd h ht
  case h_3 h => exact absurd h hi
  case h_4 h => exact absurd h hl
  all_goals exact .refl s

end

/-! ## Relations that every move of a slot keeps -/

/-- A relation that reads what lanes, links and windows hang on, and that a slot's move to a state without a lane
keeps. -/
structure KeptBySlotMoves (P : State → Prop) : Prop where
  congr : ∀ s t, SameWork s t → P s → P t
  leave : ∀ s n (c : SlotContext), c.state.Away → c.lane = ((s.endWork n).slot n).lane → P s →
    P ((s.endWork n).setSlot n c)

namespace KeptBySlotMoves

variable {P : State → Prop} (h : KeptBySlotMoves P)
include h

/-- The work of a state ended, and a state entered. -/
theorem enters {s : State} {n : SlotNo} {t : State} (hm : (s.endWork n).Enters n t) (hs : P s) : P t := by
  obtain ⟨c, hc, hl, ht⟩ := hm
  exact h.congr _ _ ht (h.leave s n c hc hl hs)

/-- A state entered from one without work. -/
theorem enters_of_away {s : State} {n : SlotNo} {t : State} (hn : (s.slot n).state.Away) (hm : s.Enters n t)
    (hs : P s) : P t := by
  obtain ⟨c, hc, hl, ht⟩ := hm
  have he := State.endWork_same hn
  have hlane : c.lane = ((s.endWork n).slot n).lane := hl.trans (congrArg (·.2.1) (he.slot n)).symm
  exact h.congr _ _ ((he.symm.setSlot_congr n c).trans ht) (h.leave s n c hc hlane hs)

theorem alive {s : State} (n : SlotNo) (hs : P s) : P (s.alive n) := h.enters (State.goPending_enters _ n _ _) hs

theorem takeLoss {s : State} (n : SlotNo) (hs : P s) : P (s.takeLoss n) :=
  h.enters (State.goPending_enters _ n _ _) (h.congr _ _ (.raise s _) hs)

theorem bootTimeout {s : State} (n : SlotNo) (r : FailReason) (hs : P s) : P ((s.endWork n).failAttempt n r) :=
  h.enters (State.failAttempt_enters _ n r) hs

theorem identTimeout {s : State} {n : SlotNo} (hi : (s.slot n).state = .identify) (r : FailReason) (hs : P s) :
    P ((s.freeLink n).failAttempt n r) := by
  rw [← State.endWork_of_identify hi]
  exact h.bootTimeout n r hs

theorem failTraining {s : State} {n : SlotNo} (ht : (s.slot n).state = .training) (r : FailReason) (hs : P s) :
    P (((s.freeLink n).releaseLane n).failAttempt n r) := by
  rw [State.releaseLane_freeLink ht]
  exact h.bootTimeout n r hs

theorem mismatch {s : State} {n : SlotNo} (hi : (s.slot n).state = .identify) (t r : BitVec 16) (hs : P s) :
    P (((s.freeLink n).recordIdentity n t r).goMismatch n) := by
  rw [← State.endWork_of_identify hi]
  exact h.enters (State.Enters.of_setSlot (State.goMismatch_enters _ n) rfl) hs

theorem cardArrives {s : State} (n : SlotNo) (hs : P s) : P (s.cardArrives n) := by
  unfold State.cardArrives
  dsimp only
  have hr := h.congr _ _ (s.recordCardGood_same n .good) hs
  split
  · rename_i he
    have ha : ((s.recordCardGood n .good).slot n).state.Away := by simp [State.recordCardGood, SlotState.Away, he]
    split
    · exact h.enters_of_away ha (State.startHeld_enters _ n _) hr
    · exact h.enters_of_away ha (State.bootWithoutReset_enters _ n) hr
  · exact hr

theorem cardLeaves {s : State} (n : SlotNo) (hs : P s) : P (s.cardLeaves n) := by
  unfold State.cardLeaves
  dsimp only
  have hr := h.congr _ _ (s.recordCardGood_same n .low) hs
  split
  · exact hr
  · exact h.enters (State.goEmpty_enters _ n) (h.congr _ _ (State.raiseLost_same _ n) hr)

theorem holdSlot {s : State} (n : SlotNo) (hs : P s) : P (s.holdSlot n) := by
  unfold State.holdSlot
  split
  · exact h.enters (State.goHeld_enters _ n _ _) hs
  · exact hs

theorem recoverSlot {s : State} (cls : Classification) (n : SlotNo) (hs : P s) : P (s.recoverSlot cls n) := by
  unfold State.recoverSlot
  split
  · rename_i he
    have ha : ((s.clearForce n).slot n).state.Away := by simp [State.clearForce, SlotState.Away, he]
    have hr := h.congr _ _ (s.clearForce_same n) hs
    split
    · exact h.enters_of_away ha (State.bootWithReset_enters _ n _) hr
    · exact h.enters_of_away ha (State.goPending_enters _ n _ _) hr
  · exact hs

theorem holdSlots {s : State} (hs : P (s.takeSlotsNotice true)) : P s.holdSlots := by
  unfold State.holdSlots
  generalize allSlots = l, s.takeSlotsNotice true = t at *
  induction l generalizing t with
  | nil => exact hs
  | cons n l ih => exact ih _ (h.holdSlot n hs)

theorem recoverSlots {s : State} (cls : Classification) (hs : P (s.takeSlotsNotice false)) :
    P (s.recoverSlots cls) := by
  refine h.congr _ _ (State.judgeOnce_same _) ?_
  generalize allSlots = l, s.takeSlotsNotice false = t at *
  induction l generalizing t with
  | nil => exact hs
  | cons n l ih => exact ih _ (h.recoverSlot cls n hs)

theorem resetNow {s : State} (n : SlotNo) (hs : P s) : P (s.resetNow n) := by
  unfold State.resetNow
  split
  · exact hs
  · exact h.enters (State.bootWithReset_enters _ n _) hs

theorem resetResting {s : State} {n : SlotNo} (hn : (s.slot n).state.Away) (hs : P s) : P (s.resetResting n) := by
  unfold State.resetResting
  split
  · exact h.enters_of_away hn (State.startHeld_enters _ n _) hs
  · exact h.enters_of_away hn (State.bootWithReset_enters _ n _) hs

theorem takeRelink {s : State} (n : SlotNo) (hs : P s) : P (s.takeRelink n) := by
  have resting (hn : (s.slot n).state.Away) :
      P (if s.watching then s.startHeld n (s.slot n).forceReset else s.goPending n .full 1) := by
    split
    · exact h.enters_of_away hn (State.startHeld_enters _ n _) hs
    · exact h.enters_of_away hn (State.goPending_enters _ n _ _) hs
  unfold State.takeRelink
  split
  case h_1 =>
    split
    · exact hs
    · exact h.enters (State.goPending_enters _ n _ _) hs
  case h_2 e => exact resting (by simp [e, SlotState.Away])
  case h_3 e => exact resting (by simp [e, SlotState.Away])
  case h_4 e => exact h.enters_of_away (by simp [e, SlotState.Away]) (State.goHeld_enters _ n _ _) hs
  all_goals exact hs

theorem takeRelinkReset {s : State} (n : SlotNo) (hs : P s) : P (s.takeRelinkReset n) := by
  unfold State.takeRelinkReset
  split
  case h_6 e => exact h.resetResting (by simp [e, SlotState.Away]) hs
  case h_7 e => exact h.resetResting (by simp [e, SlotState.Away]) hs
  case h_8 e => exact h.enters_of_away (by simp [e, SlotState.Away]) (State.goHeld_enters _ n _ _) hs
  case h_9 => exact hs
  case h_10 => exact hs
  all_goals exact h.resetNow n hs

theorem takeQuiesce {s : State} (n : SlotNo) (hs : P s) : P (s.takeQuiesce n) := by
  unfold State.takeQuiesce
  split
  · exact hs
  · exact h.enters (State.goOffline_enters _ n) hs

theorem takeResume {s : State} (n : SlotNo) (hs : P s) : P (s.takeResume n) := by
  unfold State.takeResume
  split
  · rename_i e
    have ha : ((s.releaseReset n).slot n).state.Away := by simp [State.releaseReset, e, SlotState.Away]
    have hr := h.congr _ _ (s.releaseReset_same n) hs
    split
    · exact h.enters_of_away ha (State.bootWithoutReset_enters _ n) hr
    · exact h.enters_of_away ha (State.startHeld_enters _ n _) hr
    · exact h.enters_of_away ha (State.enters_setSlot _ n ⟨nofun, nofun, nofun⟩ rfl) hr
  · exact hs

theorem slotRequests : KeptBySlotRequests P where
  relink _ n hs := h.takeRelink n hs
  relinkReset _ n hs := h.takeRelinkReset n hs
  quiesce _ n hs := h.takeQuiesce n hs
  resume _ n hs := h.takeResume n hs

end KeptBySlotMoves

end Sys2Proof.Machine
end

section
/-! The lanes and the slots in TRAINING (R51, R52, R54, R55): what a grant, a probe, a failed sweep and a lock do to
them. -/

namespace Sys2Proof.Machine

/-- The relation reads the slots' states, lanes and modes, and the lanes. -/
theorem LanesOk.congr {s t : State} (h : LanesOk s) (hs : ∀ n, (t.slot n).work = (s.slot n).work)
    (hl : ∀ l, t.lane l = s.lane l) : LanesOk t := by
  have hstate : ∀ n, (t.slot n).state = (s.slot n).state := fun n => congrArg (·.1) (hs n)
  have hlane : ∀ n, (t.slot n).lane = (s.slot n).lane := fun n => congrArg (·.2.1) (hs n)
  have hmode : ∀ n, (t.slot n).mode = (s.slot n).mode := fun n => congrArg (·.2.2) (hs n)
  refine ⟨fun n => ?_, fun n l hn => ?_, fun l w hw => ?_⟩
  · rw [hlane, hstate]
    exact h.training n
  · rw [hl]
    exact h.bound n l (by rw [← hlane]; exact hn)
  · rw [hlane, hmode]
    exact h.served l w (by rw [← hl]; exact hw)

theorem LanesOk.same {s t : State} (h : LanesOk s) (k : SameWork s t) : LanesOk t := h.congr k.slot k.lane

/-- A slot that is not in TRAINING holds no lane. -/
theorem LanesOk.lane_eq_none {s : State} (h : LanesOk s) {n : SlotNo} (hn : (s.slot n).state ≠ .training) :
    (s.slot n).lane = none := by
  by_contra hc
  exact hn ((h.training n).mp (Option.isSome_iff_ne_none.mpr hc))

/-- Where one slot's context is written and one lane set, every other slot and lane stays. -/
theorem LanesOk.lane_ne {s : State} (h : LanesOk s) {n m : SlotNo} {l k : LaneNo} (hnm : n ≠ m)
    (hn : (s.slot n).lane = some l) (hm : (s.slot m).lane = some k) : l ≠ k := by
  rintro rfl
  obtain ⟨w, hw, hwn⟩ := h.bound n l hn
  obtain ⟨v, hv, hvm⟩ := h.bound m l hm
  rw [hw] at hv
  exact hnm (hwn.symm.trans ((congrArg Sweep.slot (Option.some.inj hv)).trans hvm))

/-- The work of a slot's state ended, and a state entered that holds no lane. -/
theorem LanesOk.leave {s : State} (h : LanesOk s) (n : SlotNo) (c : SlotContext) (hc : c.state ≠ .training)
    (hl : c.lane = ((s.endWork n).slot n).lane) : LanesOk ((s.endWork n).setSlot n c) := by
  have hnone : c.lane = none := by
    rw [hl, State.slot_endWork, if_pos rfl]
    split
    · rfl
    · exact h.lane_eq_none ‹_›
  have hslot : ∀ m, n ≠ m → ((s.endWork n).setSlot n c).slot m = s.slot m := fun m hm => by
    rw [State.slot_setSlot, if_neg hm, State.slot_endWork, if_neg hm]
  have hself : ((s.endWork n).setSlot n c).slot n = c := by rw [State.slot_setSlot, if_pos rfl]
  have hlane : ∀ l, ((s.endWork n).setSlot n c).lane l = if (s.slot n).lane = some l then none else s.lane l :=
    fun l => by
      rw [State.lane_setSlot, State.lane_endWork]
      by_cases ht : (s.slot n).state = .training
      · simp [ht]
      · simp [ht, h.lane_eq_none ht]
  refine ⟨fun m => ?_, fun m l hm => ?_, fun l w hw => ?_⟩
  · by_cases hm : n = m
    · subst hm
      rw [hself, hnone]
      exact iff_of_false nofun hc
    · rw [hslot m hm]
      exact h.training m
  · by_cases hnm : n = m
    · subst hnm
      rw [hself, hnone] at hm
      cases hm
    · rw [hslot m hnm] at hm
      rw [hlane, if_neg fun e => h.lane_ne hnm e hm rfl]
      exact h.bound m l hm
  · rw [hlane] at hw
    split at hw
    · cases hw
    · rename_i hne
      obtain ⟨hsw, hmode, hok⟩ := h.served l w hw
      have hm : n ≠ w.slot := fun e => hne (e ▸ hsw)
      rw [hslot _ hm]
      exact ⟨hsw, hmode, hok⟩

theorem LanesOk.keptBySlotMoves : KeptBySlotMoves LanesOk where
  congr _ _ k h := h.same k
  leave _ n c hc hl h := h.leave n c hc.1 hl

/-! ## A lane bound -/

/-- A slot in TRAINING given a lane that is idle or its own, with a sweep of its own in its mode. -/
theorem LanesOk.bind {s : State} (h : LanesOk s) {n : SlotNo} {l : LaneNo} {c : SlotContext} {w : Sweep}
    (hfree : s.lane l = none ∨ (s.slot n).lane = some l) (hold : (s.slot n).lane = none ∨ (s.slot n).lane = some l)
    (hstate : c.state = .training) (hlane : c.lane = some l) (hslot : w.slot = n) (hmode : c.mode = w.mode)
      (hok : w.Ok) :
    LanesOk ((s.setSlot n c).setLane l (some w)) := by
  have hother : ∀ m, n ≠ m → (s.slot m).lane ≠ some l := fun m hm hml => by
    rcases hfree with hf | hf
    · obtain ⟨v, hv, -⟩ := h.bound m l hml
      rw [hf] at hv
      cases hv
    · exact h.lane_ne hm hf hml rfl
  refine ⟨fun m => ?_, fun m k hm => ?_, fun k v hv => ?_⟩
  · rw [State.slot_setLane, State.slot_setSlot]
    split
    · exact iff_of_true (by simp [hlane]) hstate
    · exact h.training m
  · rw [State.slot_setLane, State.slot_setSlot] at hm
    rw [State.lane_setLane, State.lane_setSlot]
    split at hm
    · rename_i e
      rw [hlane] at hm
      obtain rfl := Option.some.inj hm
      rw [if_pos rfl]
      exact ⟨w, rfl, hslot.trans e⟩
    · rename_i hnm
      rw [if_neg (by rintro rfl; exact hother m hnm hm)]
      exact h.bound m k hm
  · rw [State.lane_setLane, State.lane_setSlot] at hv
    rw [State.slot_setLane, State.slot_setSlot]
    split at hv
    · rename_i e
      obtain rfl := Option.some.inj hv
      subst e
      rw [if_pos hslot.symm]
      exact ⟨hlane, hmode, hok⟩
    · rename_i hk
      obtain ⟨hsw, hm, ho⟩ := h.served k v hv
      have hne : n ≠ v.slot := by
        rintro rfl
        rcases hold with e | e <;> rw [e] at hsw
        · cases hsw
        · exact hk (Option.some.inj hsw)
      rw [if_neg hne]
      exact ⟨hsw, hm, ho⟩

/-- What a sweep holds as it starts (R54). -/
theorem Sweep.ok_start {w : Sweep} (hc : w.centre.isSome = true ↔ w.mode = .verify) (hp : w.position = 0)
    (hb : w.probe = 1) (ho : w.ones = 0) (hr : w.readings = []) : w.Ok where
  centre := hc
  position := by
    rw [hp]
    cases w.mode <;> decide
  readings := by rw [hr, hp, List.length_nil]
  probe := by
    rw [hb]
    decide
  ones := by
    rw [hb, ho]
    decide

theorem State.freshSweep_ok (s : State) (n : SlotNo) (mode : Mode) : (s.freshSweep n mode).Ok :=
  Sweep.ok_start (by cases mode <;> simp [State.freshSweep]) rfl rfl rfl rfl

/-- A sweep begins with the first probe at the captured rate (R54). -/
theorem State.beginSweep_eq (s : State) (l : LaneNo) (n : SlotNo) (mode : Mode) :
    s.beginSweep l n mode = (s.setRate n (s.sl0 n).rate).continueSweep l n (s.freshSweep n mode) := by
  cases mode <;> rfl

/-- A sweep begun by a slot in TRAINING. -/
theorem LanesOk.beginSweep {s : State} (h : LanesOk s) {n : SlotNo} {l : LaneNo} {c : SlotContext} {mode : Mode}
    (hfree : s.lane l = none ∨ (s.slot n).lane = some l) (hold : (s.slot n).lane = none ∨ (s.slot n).lane = some l)
    (hstate : c.state = .training) (hlane : c.lane = some l) (hmode : c.mode = mode) :
    LanesOk ((s.setSlot n c).beginSweep l n mode) := by
  rw [State.beginSweep_eq]
  exact (h.bind hfree hold hstate hlane rfl hmode (State.freshSweep_ok _ n mode)).congr (fun _ => rfl) fun _ => rfl

/-- A VERIFY failure goes on as a FULL sweep on the same lane (R65). -/
theorem LanesOk.failVerify {s : State} (h : LanesOk s) {n : SlotNo} {l : LaneNo} (hlane : (s.slot n).lane = some l)
    (r : FailReason) : LanesOk (s.failVerify l n r) :=
  h.beginSweep (.inr hlane) (.inr hlane) ((h.training n).mp (by rw [hlane]; rfl)) hlane rfl

/-- A lane bound to a slot that holds none (R31, R54). -/
theorem LanesOk.bindLane {s : State} (h : LanesOk s) {n : SlotNo} {l : LaneNo} (hfree : s.lane l = none)
    (hold : (s.slot n).lane = none) : LanesOk (s.bindLane n l) := by
  unfold State.bindLane State.startSweep
  rw [State.slot_setSlot, if_pos rfl]
  split
  · exact h.beginSweep (.inl hfree) (.inl hold) rfl rfl ‹_›
  · split
    · exact h.beginSweep (.inl hfree) (.inl hold) rfl rfl ‹_›
    · unfold State.failVerify
      rw [State.setSlot_setSlot, State.slot_setSlot, if_pos rfl]
      exact h.beginSweep (.inl hfree) (.inl hold) rfl rfl rfl

/-- The next probe of a sweep sent. -/
theorem LanesOk.continueSweep {s : State} (h : LanesOk s) {n : SlotNo} {l : LaneNo} {w : Sweep}
    (hlane : (s.slot n).lane = some l) (hslot : w.slot = n) (hmode : (s.slot n).mode = w.mode) (hok : w.Ok) :
    LanesOk (s.continueSweep l n w) := by
  have hstate : (s.slot n).state = .training := (h.training n).mp (by rw [hlane]; rfl)
  refine (h.bind (.inr hlane) (.inr hlane) hstate hlane hslot hmode hok).congr (fun m => ?_) fun k => ?_
  · rw [State.slot_setLane, State.slot_setSlot]
    split
    · subst_vars
      rfl
    · rfl
  · rfl

/-! ## A probe that ends -/

theorem Sweep.Ok.count {w : Sweep} (h : w.Ok) (bit : Bool) (hp : w.probe < 8) :
    Sweep.Ok { w.count bit with probe := w.probe + 1 } where
  centre := h.centre
  position := h.position
  readings := h.readings
  probe := ⟨Nat.le_add_left 1 _, hp⟩
  ones := by
    have := h.ones
    simp only [Sweep.count]
    split <;> omega

theorem Sweep.Ok.record {w : Sweep} (h : w.Ok) (bit : Bool) (hp : w.position + 1 < w.mode.positions) :
    (w.count bit).record.Ok where
  centre := h.centre
  position := hp
  readings := by simp [Sweep.record, Sweep.count, h.readings]
  probe := (by decide : 1 ≤ 1 ∧ 1 ≤ 8)
  ones := Nat.zero_lt_one

theorem State.sweepOf_eq_some {s : State} {n : SlotNo} {l : LaneNo} {w : Sweep} :
    s.sweepOf n = some (l, w) ↔ s.Sweeping n l w := by
  unfold State.sweepOf State.Sweeping
  split
  · rename_i k hk
    rw [hk]
    cases hv : s.lane k with
    | none => exact iff_of_false nofun (by rintro ⟨e, h⟩; cases e; rw [hv] at h; cases h)
    | some v =>
      simp only [Option.map_some, Option.some.injEq, Prod.mk.injEq]
      constructor
      · rintro ⟨rfl, rfl⟩
        exact ⟨rfl, hv⟩
      · rintro ⟨rfl, h⟩
        rw [hv] at h
        exact ⟨rfl, Option.some.inj h⟩
  · rename_i hk
    rw [hk]
    exact iff_of_false nofun fun h => nomatch h.1

/-- The slot context after a lock (R32, R35, R63). -/
theorem State.slot_lockSweep (s : State) (n m : SlotNo) (w : Sweep) (low high : Tap) :
    (s.lockSweep n w low high).slot m = if n = m then { s.slot n with
      state := .identify, lane := none, lock := s.lockOf n w low high, expected := (s.sl0 n).expectedType }
    else s.slot m := by
  simp only [State.lockSweep, State.enterIdentify, State.send_leaves, State.tuneLink, State.slot_setLink,
    State.slot_setSlot, State.slot_releaseLane, State.raiseDrift_leaves, State.releaseLane_leaves]
  split <;> simp

theorem State.lane_lockSweep (s : State) (n : SlotNo) (l : LaneNo) (w : Sweep) (low high : Tap) :
    (s.lockSweep n w low high).lane l = if (s.slot n).lane = some l then none else s.lane l := by
  simp only [State.lockSweep, State.enterIdentify_leaves, State.lane_releaseLane, State.raiseDrift_leaves]

/-- A lock: the lane released, IDENTIFY entered (R63). -/
theorem LanesOk.lockSweep {s : State} (h : LanesOk s) {n : SlotNo} (ht : (s.slot n).state = .training) (w : Sweep)
    (low high : Tap) : LanesOk (s.lockSweep n w low high) := by
  have hself := s.slot_lockSweep n n w low high
  rw [if_pos rfl] at hself
  refine (h.leave n ((s.lockSweep n w low high).slot n) ?_ ?_).congr (fun m => ?_) fun l => ?_
  · rw [hself]
    nofun
  · rw [hself, State.slot_endWork, if_pos rfl, if_pos ht]
  · rw [State.slot_setSlot, State.slot_endWork]
    split
    · subst_vars
      rfl
    · rw [State.slot_lockSweep, if_neg ‹_›]
  · rw [State.lane_lockSweep, State.lane_setSlot, State.lane_endWork]
    simp only [ht, true_and]

/-- A sweep whose examination is complete: a lock, a failed VERIFY sweep, or a failed FULL one. -/
theorem LanesOk.concludeSweep {s : State} (h : LanesOk s) {n : SlotNo} {l : LaneNo} (w : Sweep)
    (hlane : (s.slot n).lane = some l) : LanesOk ((s.freeLink n).concludeSweep l n w) := by
  have ht : (s.slot n).state = .training := (h.training n).mp (by rw [hlane]; rfl)
  have hf : LanesOk (s.freeLink n) := h.congr (fun _ => rfl) fun _ => rfl
  have fail (r : FailReason) : LanesOk ((s.freeLink n).failSweep l n w.mode r) := by
    unfold State.failSweep
    split
    · exact hf.failVerify hlane r
    · exact LanesOk.keptBySlotMoves.failTraining ht r h
  unfold State.concludeSweep
  split
  · exact fail _
  · split
    · exact fail _
    · exact hf.lockSweep ht w _ _

theorem LanesOk.endProbe {s : State} (h : LanesOk s) (n : SlotNo) (bit : Bool) : LanesOk (s.endProbe n bit) := by
  have hf : LanesOk (s.freeLink n) := h.congr (fun _ => rfl) fun _ => rfl
  unfold State.endProbe
  split
  · rename_i l w hw
    obtain ⟨hlane, hl⟩ := State.sweepOf_eq_some.mp hw
    obtain ⟨v, hv, hslot⟩ := h.bound n l hlane
    obtain rfl : w = v := Option.some.inj (hl.symm.trans hv)
    obtain ⟨-, hmode, hok⟩ := h.served l w hl
    rw [hslot] at hmode
    unfold State.sampled
    split
    · exact hf.continueSweep hlane hslot hmode (hok.count bit ‹_›)
    split
    · exact hf.continueSweep hlane hslot hmode (hok.record bit ‹_›)
    · exact h.concludeSweep _ hlane
  · exact hf

/-- LINKED entered from IDENTIFY, where no lane is held. -/
theorem LanesOk.goLinked {s : State} (h : LanesOk s) {n : SlotNo} (hn : (s.slot n).state = .identify) :
    LanesOk (s.goLinked n) := by
  have hnone : (s.slot n).lane = none := h.lane_eq_none (by simp [hn])
  refine (h.leave n ((s.goLinked n).slot n) ?_ ?_).congr (fun m => ?_) fun l => ?_
  · simp [State.goLinked]
  · simp [State.goLinked, State.slot_endWork, hn, hnone, SlotContext.unbooted]
  · simp only [State.goLinked, State.slot_raise, State.slot_setSlot, State.slot_endWork, if_true]
    split <;> rfl
  · rw [State.lane_setSlot, State.lane_endWork, if_neg (by simp [hn])]
    rfl

theorem LanesOk.identified {s : State} (h : LanesOk s) {n : SlotNo} (hn : (s.slot n).state = .identify)
    (t r : BitVec 16) : LanesOk (s.identified n t r) := by
  have hr : LanesOk ((s.freeLink n).recordIdentity n t r) :=
    (h.congr (t := s.freeLink n) (fun _ => rfl) fun _ => rfl).same (State.recordIdentity_same _ n t r)
  unfold State.identified
  dsimp only
  split
  · split
    · exact hr.goLinked (by simp [State.recordIdentity, State.freeLink, hn])
    · exact hr.congr (fun _ => by simp) fun _ => by simp
  · exact LanesOk.keptBySlotMoves.mismatch hn t r h

/-! ## Grants and every other row -/

theorem State.grantWinner_waits {s : State} {n : SlotNo} (h : s.grantWinner = some n) :
    (s.slot n).state = .pending := by
  obtain ⟨c, -, hc⟩ := List.exists_of_findSome?_eq_some h
  have hp := List.find?_some hc
  simp only [State.waits, Bool.and_eq_true, beq_iff_eq] at hp
  exact hp.1

theorem State.idleLane_idle {s : State} {l : LaneNo} (h : s.idleLane = some l) : s.lane l = none := by
  simpa using List.find?_some h

theorem State.grantDue_iff {s : State} {n : SlotNo} {l : LaneNo} :
    s.grantDue = some (n, l) ↔ s.grantWinner = some n ∧ s.idleLane = some l := by
  unfold State.grantDue
  split
  · rename_i hn hl
    rw [hn, hl]
    simp
  · rename_i h
    exact iff_of_false nofun fun e => h n l e.1 e.2

theorem LanesOk.finishDeparture {s : State} (h : LanesOk s) (n : SlotNo) : LanesOk (s.finishDeparture n) :=
  h.congr (fun _ => by simp) fun _ => by simp

theorem LanesOk.grant {s : State} (h : LanesOk s) {n : SlotNo} {l : LaneNo} (hd : s.grantDue = some (n, l)) :
    LanesOk (s.grant n l) := by
  obtain ⟨hn, hl⟩ := State.grantDue_iff.mp hd
  have hnone : (s.slot n).lane = none := h.lane_eq_none (by simp [State.grantWinner_waits hn])
  exact (h.finishDeparture n).bindLane (by simpa using State.idleLane_idle hl) (by simpa using hnone)

theorem State.slot_reset (n : SlotNo) : State.reset.slot n = .initial := Vector.getElem_replicate ..

theorem State.lane_reset (l : LaneNo) : State.reset.lane l = none := Vector.getElem_replicate ..

theorem LanesOk.reset : LanesOk State.reset where
  training n := by
    rw [State.slot_reset]
    decide
  bound n l h := by
    rw [State.slot_reset] at h
    cases h
  served l w h := by
    rw [State.lane_reset] at h
    cases h

/-- The rail declared low moves no slot. -/
theorem State.work_railLow (s : State) (n : SlotNo) : (s.railLow.slot n).work = (s.slot n).work := by
  have hnew : ((s.declareRail .low).beginSag.slot n).work = (s.slot n).work :=
    (State.openEpisode_same (s.declareRail .low) (s.declareRail .low).changeTime).slot n
  unfold State.railLow
  dsimp only
  split
  · exact hnew
  · exact hnew
  · rfl
  · rfl

/-- Nor does RELINK_ALL, until its notices are taken. -/
theorem State.work_takeRelinkAll (s : State) (n : SlotNo) : (s.takeRelinkAll.slot n).work = (s.slot n).work := by
  unfold State.takeRelinkAll
  split
  · exact (State.openEpisode_same s s.clock).slot n
  · rfl

theorem State.identityTaken_iff {s : State} {n : SlotNo} {tag : BitVec 8} {t r : BitVec 16} :
    s.identityTaken n tag t r = true ↔
      (s.slot n).state = .identify ∧ (s.link n).takesReply tag (.identity t r) = true := by
  simp [State.identityTaken]

theorem State.clearTaken_iff {s : State} {n : SlotNo} {tag : BitVec 8} :
    s.clearTaken n tag = true ↔ (s.slot n).state = .identify ∧ (s.link n).takesReply tag .done = true := by
  simp [State.clearTaken]

theorem State.identDue_state {s : State} {n : SlotNo} (h : s.identDue n = true) : (s.slot n).state = .identify := by
  unfold State.identDue at h
  split at h
  · simp only [Bool.and_eq_true, beq_iff_eq] at h
    exact h.1.1
  · cases h

theorem LanesOk.writeShadow {s : State} (h : LanesOk s) (w : ShadowWord) (d : Word) (e : ByteEnables) :
    LanesOk (s.writeShadow w d e) := by
  refine State.writeShadow_keeps ⟨?_, ?_, ?_, ?_, ?_, ?_⟩ LanesOk.keptBySlotMoves.slotRequests ⟨?_, ?_, ?_, ?_⟩
    (fun s h => h.congr s.work_takeRelinkAll fun _ => by simp) h w d e
  case refine_7 => exact fun s n _ h => h.congr (fun _ => by simp) fun _ => by simp
  all_goals
    intros
    rename_i h
    exact h.congr (fun _ => by simp) fun _ => by simp

theorem LanesOk.of_effect {c : Instr} {s t : State} (h : LanesOk s) (he : Effect s t c)
    (hc : ∀ n f, c ≠ .discardedFrame n f) : LanesOk t := by
  have hk := LanesOk.keptBySlotMoves
  cases c
  case powerOnReset a f =>
    subst he
    exact LanesOk.reset.congr (fun _ => rfl) fun _ => rfl
  case powerOnResetAsserted =>
    subst he
    exact h.congr (fun n => by rw [State.slot_assertPowerOn]; rfl) fun _ => rfl
  case controllerReset => rcases he with ⟨-, rfl⟩ | ⟨-, rfl⟩ <;> exact h.congr (fun _ => rfl) fun _ => rfl
  case railDeclaredLow =>
    obtain ⟨-, -, rfl⟩ := he
    exact h.congr s.work_railLow fun _ => by simp
  case cardGoodDeclaredGood n =>
    obtain ⟨-, -, rfl⟩ := he
    exact hk.cardArrives n (h.congr (fun _ => rfl) fun _ => rfl)
  case cardGoodDeclaredLow n =>
    obtain ⟨-, -, rfl⟩ := he
    exact hk.cardLeaves n (h.congr (fun _ => rfl) fun _ => rfl)
  case sagNoticeSlots =>
    obtain ⟨-, -, ht⟩ := he
    rw [ht]
    exact hk.holdSlots (h.congr (fun _ => by simp) fun _ => by simp)
  case recoverNoticeSlots =>
    obtain ⟨-, cls, -, ht⟩ := he
    rw [ht]
    exact hk.recoverSlots cls (h.congr (fun _ => rfl) fun _ => rfl)
  case resetPulseExpiry n =>
    obtain ⟨-, -, rfl⟩ := he
    exact h.same (s.endPulse_same n)
  case bootTimeout n =>
    obtain ⟨-, -, rfl⟩ := he
    exact hk.bootTimeout n _ h
  case idleFrame n =>
    obtain ⟨-, -, rfl⟩ := he
    exact hk.alive n h
  case laneGrant =>
    obtain ⟨-, n, l, hd, rfl⟩ := he
    exact h.grant hd
  case sampleReply n tag bit =>
    obtain ⟨-, -, rfl⟩ := he
    exact h.endProbe n bit
  case probeTimeout n =>
    obtain ⟨-, -, rfl⟩ := he
    exact h.endProbe n false
  case identityReply n tag type revision =>
    obtain ⟨-, hi, rfl⟩ := he
    exact h.identified (State.identityTaken_iff.mp hi).1 _ _
  case clearOrderDone n tag =>
    obtain ⟨-, hi, rfl⟩ := he
    have hf : LanesOk (s.freeLink n) := h.congr (fun _ => rfl) fun _ => rfl
    exact hf.goLinked (State.clearTaken_iff.mp hi).1
  case identTimeout n =>
    obtain ⟨-, hi, rfl⟩ := he
    exact hk.identTimeout (State.identDue_state hi) _ h
  case linkLoss n =>
    obtain ⟨-, -, rfl⟩ := he
    exact hk.takeLoss n h
  case relink n =>
    obtain ⟨-, rfl⟩ := he
    exact (hk.takeRelink n h).congr (fun _ => rfl) fun _ => rfl
  case relinkReset n =>
    obtain ⟨-, rfl⟩ := he
    exact (hk.takeRelinkReset n h).congr (fun _ => rfl) fun _ => rfl
  case quiesce n =>
    obtain ⟨-, rfl⟩ := he
    exact (hk.takeQuiesce n h).congr (fun _ => rfl) fun _ => rfl
  case resume n =>
    obtain ⟨-, rfl⟩ := he
    exact (hk.takeResume n h).congr (fun _ => rfl) fun _ => rfl
  case relinkAll =>
    obtain ⟨-, rfl⟩ := he
    exact h.congr s.work_takeRelinkAll fun _ => by simp
  case settableWordWrite w d e =>
    obtain ⟨-, rfl⟩ := he
    exact (h.writeShadow w d e).congr (fun _ => rfl) fun _ => rfl
  case discardedFrame n f => exact absurd rfl (hc n f)
  all_goals
    simp only [Effect] at he
    try casesm* _ ∧ _, ∃ _, _
    subst_vars
    exact h.congr (fun _ => by simp) fun _ => by simp

/-- Settles O7: a slot's move gives its lane back, a grant binds an idle lane to a slot without one, and a sweep goes
on, fails or locks on the lane its slot holds. -/
theorem lanesStayBoundToTrainingSlots : Obligations.LanesStayBoundToTrainingSlots := by
  intro s t h hs
  exact step_keeps (P := LanesOk) (fun s q h => h.congr (fun _ => rfl) fun _ => rfl)
    (fun s t h => h.congr (fun _ => rfl) fun _ => rfl) (fun c s t hc h he => h.of_effect he hc)
    (fun s h => h.congr (fun _ => by simp) fun _ => by simp) h hs

end Sys2Proof.Machine
end

section
/-! The Pass-Through Path: clamped values, the store, the store port, and the one window request of the whole part
(R129, R131, R137, R139, R143). -/

namespace Sys2Proof.Machine

/-! ## Clamped values -/

theorem le_clampSettle (v : BitVec 16) : 50#16 ≤ clampSettle v := by
  unfold clampSettle
  split
  · exact BitVec.le_refl _
  · exact BitVec.not_lt.mp ‹_›

theorem le_clampBoot (v : BitVec 8) : 1#8 ≤ clampBoot v := by
  unfold clampBoot
  split
  · decide
  · rename_i h
    bv_omega

theorem CapturedOk.congr {s t : State} (h : CapturedOk s)
    (hs : t.path.captured.settleTime = s.path.captured.settleTime)
    (hb : t.path.captured.bootLimit = s.path.captured.bootLimit) : CapturedOk t :=
  ⟨hs ▸ h.settle, hb ▸ h.boot⟩

theorem CapturedOk.writeShadow {s : State} (h : CapturedOk s) (w : ShadowWord) (d : Word) (e : ByteEnables) :
    CapturedOk (s.writeShadow w d e) := by
  refine State.writeShadow_keeps ⟨?_, ?_, ?_, ?_, ?_, ?_⟩ ⟨?_, ?_, ?_, ?_⟩ ⟨?_, ?_, ?_, ?_⟩ ?_ h w d e
  case refine_1 => exact fun s b h => h.congr rfl rfl
  case refine_2 => exact fun s d e h => h.congr rfl rfl
  case refine_3 => exact fun s d e h => ⟨le_clampSettle _, h.boot⟩
  case refine_4 => exact fun s d e h => ⟨h.settle, le_clampBoot _⟩
  case refine_5 => exact fun s n d e h => h.congr rfl rfl
  all_goals
    intros
    rename_i h
    exact h.congr (by simp) (by simp)

theorem CapturedOk.of_effect {c : Instr} {s t : State} (h : CapturedOk s) (he : Effect s t c)
    (hc : ∀ n f, c ≠ .discardedFrame n f) : CapturedOk t := by
  cases c
  case powerOnReset a f =>
    subst he
    exact ⟨(by decide : (50#16 ≤ State.reset.path.captured.settleTime)),
      (by decide : (1#8 ≤ State.reset.path.captured.bootLimit))⟩
  case settableWordWrite w d e =>
    obtain ⟨-, rfl⟩ := he
    exact (h.writeShadow w d e).congr rfl rfl
  case restoreFloorWrite d e =>
    obtain ⟨-, rfl⟩ := he
    exact h.congr rfl rfl
  case attentionEnableWrite b =>
    obtain ⟨-, rfl⟩ := he
    exact h.congr rfl rfl
  case discardedFrame n f => exact absurd rfl (hc n f)
  all_goals
    simp only [Effect] at he
    try casesm* _ ∧ _, _ ∨ _, ∃ _, _
    all_goals
      subst_vars
      exact h.congr (by simp) (by simp)

/-! ## The store -/

theorem StoreOk.congr {s t : State} (h : StoreOk s) (hm : t.memory = s.memory) : StoreOk t := ⟨hm ▸ h.canonical⟩

/-- Only a completed access and a completed journal word reach the store. -/
theorem StoreOk.of_effect {c : Instr} {s t : State} (h : StoreOk s) (he : Effect s t c)
    (hc : ∀ n f, c ≠ .discardedFrame n f) : StoreOk t := by
  cases c
  case powerOnReset a f =>
    subst he
    exact h.congr rfl
  case plainAccessDone w =>
    obtain ⟨-, c, claimed, -, rfl⟩ := he
    have hm : (s.completePlain c claimed w).memory = c.store s.memory := by
      unfold State.completePlain
      dsimp only
      split <;> rfl
    refine ⟨?_⟩
    rw [hm]
    unfold PlainCycle.store
    split
    · exact h.canonical
    · exact Memory.wf_writeWord h.canonical _ _ _
  case journalWordDone =>
    obtain ⟨-, a, d, live, -, rfl⟩ := he
    have hm : (s.storeJournal a d live).memory = Memory.writeWord s.memory (byteAddress a) d 15#4 := by
      unfold State.storeJournal
      dsimp only
      split <;> rfl
    refine ⟨?_⟩
    rw [hm]
    exact Memory.wf_writeWord h.canonical _ _ _
  case discardedFrame n f => exact absurd rfl (hc n f)
  all_goals
    simp only [Effect] at he
    try casesm* _ ∧ _, _ ∨ _, ∃ _, _
    all_goals
      subst_vars
      exact h.congr (by simp)

/-! ## Window requests -/

/-- What a window request is to the port: its operation, and whether the port still waits for it. -/
def WindowRequest.owner (w : WindowRequest) : RegisterOp × Bool := (w.op, w.claimed)

/-- The relation reads marker and cycle, and of each window request its operation and its claim. -/
theorem WindowsOk.congr {s t : State} (h : WindowsOk s)
    (hw : ∀ n, (t.link n).window.map WindowRequest.owner = (s.link n).window.map WindowRequest.owner)
    (hm : t.path.marker = s.path.marker) (hc : t.path.ctrl = s.path.ctrl) (hp : t.por = s.por) : WindowsOk t := by
  have hsome : ∀ n, (t.link n).window.isSome = (s.link n).window.isSome := fun n => by
    simpa using congrArg Option.isSome (hw n)
  refine ⟨?_, fun n m => ?_, fun n op => ?_, fun hpor n w hn hcl => ?_⟩
  · simpa only [hm, hsome] using h.marker
  · rw [hsome, hsome]
    exact h.only n m
  · rw [hc]
    intro hctrl
    obtain ⟨v, hv, hop, hcl⟩ := h.held n op hctrl
    obtain ⟨w, hw', he⟩ := Option.map_eq_some_iff.mp ((hw n).trans (congrArg _ hv))
    obtain ⟨ho, hc'⟩ := Prod.mk.inj he
    exact ⟨w, hw', ho.trans hop, hc'.trans hcl⟩
  · obtain ⟨v, hv, he⟩ := Option.map_eq_some_iff.mp ((hw n).symm.trans (congrArg _ hn))
    obtain ⟨ho, hc'⟩ := Prod.mk.inj he
    rw [hc, h.claimed (hp ▸ hpor) n v hv (hc'.trans hcl), ho]

/-- The part of a Link Unit that the table and the port hang on. -/
def LinkUnit.kept (l : LinkUnit) : List Order × Option WindowRequest × Bool := (l.orders, l.window, l.lossDeclared)

theorem SameWork.kept {s t : State} (h : SameWork s t) (m : SlotNo) : (t.link m).kept = (s.link m).kept :=
  congrArg (·.2) (h.link m)

theorem WindowsOk.congr_kept {s t : State} (h : WindowsOk s) (hk : ∀ n, (t.link n).kept = (s.link n).kept)
    (hm : t.path.marker = s.path.marker) (hc : t.path.ctrl = s.path.ctrl) (hp : t.por = s.por) : WindowsOk t :=
  h.congr (fun n => congrArg (Option.map WindowRequest.owner) (congrArg (·.2.1) (hk n))) hm hc hp

/-! ## What keeps orders, window and declared loss of every link -/

section
variable (s : State) (n : SlotNo)

theorem State.kept_setLink {l : LinkUnit} (h : l.kept = (s.link n).kept) (m : SlotNo) :
    ((s.setLink n l).link m).kept = (s.link m).kept := by
  rw [State.link_setLink]
  split
  · subst_vars
    exact h
  · rfl

@[simp] theorem State.kept_freeLink (m : SlotNo) : ((s.freeLink n).link m).kept = (s.link m).kept := by
  apply State.kept_setLink
  rfl

@[simp] theorem State.kept_send (w : Work) (b : Bool) (m : SlotNo) :
    ((s.send n w b).link m).kept = (s.link m).kept := by
  apply State.kept_setLink
  rfl

@[simp] theorem State.kept_setRate (r : Rate) (m : SlotNo) : ((s.setRate n r).link m).kept = (s.link m).kept := by
  apply State.kept_setLink
  rfl

@[simp] theorem State.kept_tuneLink (r : Rate) (t : Tap) (m : SlotNo) :
    ((s.tuneLink n r t).link m).kept = (s.link m).kept := by
  apply State.kept_setLink
  rfl

@[simp] theorem State.kept_continueSweep (l : LaneNo) (w : Sweep) (m : SlotNo) :
    ((s.continueSweep l n w).link m).kept = (s.link m).kept := State.kept_send _ n _ _ m

@[simp] theorem State.kept_beginSweep (l : LaneNo) (mode : Mode) (m : SlotNo) :
    ((s.beginSweep l n mode).link m).kept = (s.link m).kept := by simp [State.beginSweep_eq]

@[simp] theorem State.kept_failVerify (l : LaneNo) (r : FailReason) (m : SlotNo) :
    ((s.failVerify l n r).link m).kept = (s.link m).kept := by simp [State.failVerify]

@[simp] theorem State.kept_bindLane (l : LaneNo) (m : SlotNo) : ((s.bindLane n l).link m).kept = (s.link m).kept := by
  unfold State.bindLane State.startSweep
  (repeat' split) <;> simp

theorem State.Enters.kept {s : State} {n : SlotNo} {t : State} (h : s.Enters n t) (m : SlotNo) :
    (t.link m).kept = (s.link m).kept := by
  obtain ⟨c, -, -, ht⟩ := h
  exact ht.kept m

@[simp] theorem State.kept_endProbe (bit : Bool) (m : SlotNo) : ((s.endProbe n bit).link m).kept = (s.link m).kept := by
  have fail (l : LaneNo) (md : Mode) (r : FailReason) :
      (((s.freeLink n).failSweep l n md r).link m).kept = (s.link m).kept := by
    unfold State.failSweep
    split
    · simp
    · rw [(State.failAttempt_enters _ n r).kept]
      simp
  unfold State.endProbe
  split
  · unfold State.sampled
    split
    · simp
    split
    · simp
    unfold State.concludeSweep
    split
    · exact fail _ _ _
    · split
      · exact fail _ _ _
      · simp [State.lockSweep, State.enterIdentify]
  · simp

@[simp] theorem State.kept_identified (t r : BitVec 16) (m : SlotNo) :
    ((s.identified n t r).link m).kept = (s.link m).kept := by
  unfold State.identified
  dsimp only
  split
  · split <;> simp [State.goLinked, State.recordIdentity]
  · rw [(State.goMismatch_enters _ n).kept]
    simp [State.recordIdentity]

@[simp] theorem State.kept_goLinked (m : SlotNo) : ((s.goLinked n).link m).kept = (s.link m).kept := rfl

@[simp] theorem State.kept_resend (m : SlotNo) : ((s.resend n).link m).kept = (s.link m).kept := by
  unfold State.resend
  split <;> simp

end

theorem WindowsOk.keptBySlotMoves : KeptBySlotMoves WindowsOk where
  congr _ _ k h := h.congr_kept k.kept k.marker k.ctrl k.por
  leave s n c _ _ h := h.congr_kept (fun m => by
    rw [State.link_setSlot, State.link_endWork]
    split
    · subst_vars
      rfl
    · rfl) (by simp) (by simp) (by simp)

/-- One Link Unit written, the owner of its window request kept. -/
theorem WindowsOk.setLink {s : State} (h : WindowsOk s) {n : SlotNo} {l : LinkUnit}
    (hl : l.window.map WindowRequest.owner = (s.link n).window.map WindowRequest.owner) : WindowsOk (s.setLink n l) :=
  h.congr (fun m => by
    rw [State.link_setLink]
    split
    · subst_vars
      exact hl
    · rfl) rfl rfl rfl

theorem WindowsOk.of_move {s t : State} (hm : CircuitMove s t) (h : WindowsOk s) : WindowsOk t := by
  cases hm with
  | put i e hidle hrest hfields => exact h.congr (fun _ => rfl) rfl rfl rfl
  | becomeIdle i hstate => exact h.congr (fun _ => rfl) rfl rfl rfl
  | connect i f hstate hgood hfree => exact h.congr (fun _ => rfl) rfl rfl rfl
  | append n o hlinked hflight => exact h.setLink rfl
  | withdraw n i ends => exact h.setLink rfl

theorem WindowsOk.keptByMoves : KeptByMoves WindowsOk where
  move _ _ := WindowsOk.of_move
  departed _ _ h := h.congr (fun _ => rfl) rfl rfl rfl
  sagged _ h := h.congr (fun _ => rfl) rfl rfl rfl

/-! ## A window request taken and ended -/

/-- With the marker clear no link holds a window request. -/
theorem WindowsOk.window_none {s : State} (h : WindowsOk s) (hm : s.path.marker = false) (n : SlotNo) :
    (s.link n).window = none := by
  by_contra hn
  have := h.marker.mpr ⟨n, Option.isSome_iff_ne_none.mpr hn⟩
  rw [hm] at this
  cases this

theorem WindowsOk.takeWindow {s : State} (h : WindowsOk s) (hm : s.path.marker = false) (n : SlotNo) (op : RegisterOp)
    (k : BitVec 10) : WindowsOk (s.takeWindow n op k) := by
  have hlink : ∀ m, ((s.takeWindow n op k).link m).window =
      if n = m then some { op := op, index := k, inFlight := false, claimed := true } else none := fun m => by
    rw [← h.window_none hm m]
    show ((s.setLink n _).link m).window = _
    rw [State.link_setLink]
    split <;> rfl
  refine ⟨iff_of_true rfl ⟨n, by simp [hlink]⟩, fun a b ha hb => ?_, fun a o hctrl => ?_, fun _ a w ha _ => ?_⟩
  · rw [hlink] at ha hb
    split at ha
    · split at hb
      · subst_vars
        rfl
      · cases hb
    · cases ha
  · cases hctrl
    exact ⟨_, (hlink n).trans (if_pos rfl), rfl, rfl⟩
  · rw [hlink] at ha
    split at ha
    · subst_vars
      cases ha
      rfl
    · cases ha

/-- The answer of a cycle that holds no window request. -/
theorem WindowsOk.answered {s : State} (h : WindowsOk s) (hno : ∀ n w, (s.link n).window = some w → w.claimed = false)
    (a : CycleAnswer) : WindowsOk (s.answered a) where
  marker := h.marker
  only := h.only
  held := nofun
  claimed _ n w hw hc := by
    rw [hno n w hw] at hc
    cases hc

theorem WindowsOk.offerWindow {s : State} (h : WindowsOk s) (hm : s.path.marker = false) (n : SlotNo) (op : RegisterOp)
    (k : BitVec 10) : WindowsOk (s.offerWindow n op k) := by
  unfold State.offerWindow
  split
  · exact h.takeWindow hm n op k
  · exact h.answered (fun m w hw => by rw [h.window_none hm m] at hw; cases hw) _

/-- An idle port waits for no window request. -/
theorem WindowsOk.unclaimed_of_ctrl {s : State} (h : WindowsOk s) (hp : s.por = false)
    (hc : ∀ n op, s.path.ctrl ≠ .windowHeld n op) (n : SlotNo) (w : WindowRequest) (hw : (s.link n).window = some w) :
    w.claimed = false := by
  by_contra hcl
  exact hc n w.op (h.claimed hp n w hw (Bool.eq_true_of_not_eq_false hcl))

/-- The cycle of a port that holds no window request moves to another that holds none. -/
theorem WindowsOk.setCtrl {s t : State} (h : WindowsOk s) (hp : s.por = false)
    (hs : ∀ n op, s.path.ctrl ≠ .windowHeld n op) (ht : ∀ n op, t.path.ctrl ≠ .windowHeld n op)
    (hw : ∀ n, (t.link n).window = (s.link n).window) (hm : t.path.marker = s.path.marker) : WindowsOk t where
  marker := by simpa only [hm, hw] using h.marker
  only n m := by rw [hw, hw]; exact h.only n m
  held n op e := absurd e (ht n op)
  claimed _ n w hn hc := by
    rw [hw] at hn
    rw [h.unclaimed_of_ctrl hp hs n w hn] at hc
    cases hc

/-- A window request ended: at one link, with the port answered where it waited for it. -/
theorem WindowsOk.ended {s t : State} (h : WindowsOk s) {n : SlotNo} {w : WindowRequest}
    (hn : (s.link n).window = some w) (hself : (t.link n).window = none)
    (hother : ∀ m, n ≠ m → (t.link m).window = (s.link m).window) (hm : t.path.marker = false)
    (hc : t.path.ctrl = if w.claimed then .idle else s.path.ctrl) : WindowsOk t := by
  have hnone : ∀ m, (t.link m).window = none := fun m => by
    by_cases e : n = m
    · exact e ▸ hself
    · rw [hother m e]
      by_contra hne
      exact e (h.only n m (by rw [hn]; rfl) (Option.isSome_iff_ne_none.mpr hne))
  refine ⟨?_, fun a b ha => ?_, fun a op hctrl => ?_, fun _ a v ha => ?_⟩
  · rw [hm]
    exact iff_of_false nofun fun ⟨m, h⟩ => by rw [hnone] at h; cases h
  · rw [hnone] at ha
    cases ha
  · rw [hc] at hctrl
    split at hctrl
    · cases hctrl
    · rename_i hcl
      obtain ⟨v, hv, -, hvc⟩ := h.held a op hctrl
      obtain rfl := h.only n a (by rw [hn]; rfl) (by rw [hv]; rfl)
      obtain rfl := Option.some.inj (hn.symm.trans hv)
      exact absurd hvc hcl
  · rw [hnone] at ha
    cases ha

theorem WindowsOk.endWindow {s : State} (h : WindowsOk s) {n : SlotNo} {w : WindowRequest}
    (hn : (s.link n).window = some w) (a : CycleAnswer) : WindowsOk (s.endWindow n w a) := by
  have hlink : ∀ m, ((s.endWindow n w a).link m).window = if n = m then none else (s.link m).window := fun m => by
    have hd : ((s.endWindow n w a).link m) = (s.dropWindow n).link m := by
      unfold State.endWindow
      split <;> rfl
    rw [hd]
    show ((s.setLink n _).link m).window = _
    rw [State.link_setLink]
    split <;> rfl
  refine h.ended hn ((hlink n).trans (if_pos rfl)) (fun m hm => (hlink m).trans (if_neg hm)) ?_ ?_
  · unfold State.endWindow
    split <;> rfl
  · unfold State.endWindow
    split <;> rfl

theorem WindowsOk.failWindow {s : State} (h : WindowsOk s) {n : SlotNo} {w : WindowRequest}
    (hn : (s.link n).window = some w) (r : BitVec 8) : WindowsOk (s.failWindow n w r) := by
  refine WindowsOk.endWindow (h.congr (fun _ => ?_) ?_ ?_ ?_) (by simpa using hn) _ <;> simp

theorem WindowsOk.departLink {s : State} (h : WindowsOk s) (n : SlotNo) :
    WindowsOk (s.departLink n) := by
  unfold State.departLink
  refine WindowsOk.keptByMoves.handBackAll n _ ?_
  cases hw : (s.link n).window with
  | none =>
    refine h.congr (fun m => ?_) rfl rfl rfl
    simp only [State.departWindow, State.link_setLink]
    split
    · subst_vars
      rw [hw]
      rfl
    · rfl
  | some w =>
    have hlink : ∀ u : State, (∀ m, ((u.departWindow (some w)).link m) = u.link m) := fun u m => by
      unfold State.departWindow
      dsimp only
      split <;> rfl
    refine h.ended hw ?_ (fun m hm => ?_) ?_ ?_
    · rw [hlink, State.link_setLink, if_pos rfl]
      rfl
    · rw [hlink, State.link_setLink, if_neg hm]
      rfl
    · unfold State.departWindow
      dsimp only
      split <;> rfl
    · unfold State.departWindow
      dsimp only
      split <;> rfl

theorem WindowsOk.finishLink {s : State} (h : WindowsOk s) (n : SlotNo) :
    WindowsOk (s.finishLink n) := by
  unfold State.finishLink
  split
  · exact h.departLink n
  · exact h

theorem WindowsOk.grant {s : State} (h : WindowsOk s) (n : SlotNo) (l : LaneNo) :
    WindowsOk (s.grant n l) := by
  have hf : WindowsOk (s.finishDeparture n) :=
    WindowsOk.keptByMoves.finishCircuits n (WindowsOk.keptByMoves.finishSags (h.finishLink n))
  have hb : WindowsOk ((s.finishDeparture n).bindLane n l) :=
    hf.congr_kept (State.kept_bindLane _ n l) (by simp) (by simp) (by simp)
  exact hb

/-! ## Every command -/

theorem State.windowReply_window {s : State} {n : SlotNo} {tag : BitVec 8} {c : FrameContent} {w : WindowRequest}
    (h : s.windowReply n tag c = some w) : (s.link n).window = some w := by
  unfold State.windowReply at h
  split at h
  · split at h
    · split at h
      · exact h
      · cases h
    · cases h
  · cases h

theorem State.windowTimeout_window {s : State} {n : SlotNo} {w : WindowRequest} (h : s.windowTimeout n = some w) :
    (s.link n).window = some w := by
  unfold State.windowTimeout at h
  split at h
  · split at h
    · split at h
      · exact h
      · cases h
    · cases h
  · cases h

theorem WindowsOk.writeShadow {s : State} (h : WindowsOk s) (w : ShadowWord) (d : Word) (e : ByteEnables) :
    WindowsOk (s.writeShadow w d e) := by
  refine State.writeShadow_keeps ⟨?_, ?_, ?_, ?_, ?_, ?_⟩ WindowsOk.keptBySlotMoves.slotRequests
    WindowsOk.keptByMoves.requestWrites ?_ h w d e
  all_goals
    intros
    rename_i h
    exact h.congr (fun _ => by simp) (by simp) (by simp) (by simp)

theorem WindowsOk.accessWindow {s : State} (h : WindowsOk s) (hf : s.PortFree) (n : SlotNo) (op : RegisterOp)
    (k : BitVec 10) : WindowsOk (s.accessWindow n op k) := by
  obtain ⟨hp, -, hidle, -⟩ := hf
  unfold State.accessWindow
  split
  · exact h.setCtrl hp (by simp [hidle]) nofun (fun _ => rfl) rfl
  · exact h.offerWindow (Bool.eq_false_of_not_eq_true ‹_›) n op k

/-- The answer of a request that a free port has taken whole. -/
theorem WindowsOk.answered_of_free {s t : State} (h : WindowsOk t) (hf : s.PortFree) (hp : t.por = s.por)
    (hc : t.path.ctrl = s.path.ctrl) (a : CycleAnswer) : WindowsOk (t.answered a) := by
  obtain ⟨hpor, -, hidle, -⟩ := hf
  exact h.answered (h.unclaimed_of_ctrl (hp.trans hpor) (by simp [hc, hidle])) a

theorem State.link_reset (n : SlotNo) : State.reset.link n = .initial := Vector.getElem_replicate ..

theorem WindowsOk.reset : WindowsOk State.reset where
  marker := iff_of_false (by decide) fun ⟨n, hn⟩ => by
    rw [State.link_reset] at hn
    cases hn
  only n m hn := by
    rw [State.link_reset] at hn
    cases hn
  held n op hc := by cases hc
  claimed _ n w hn := by
    rw [State.link_reset] at hn
    cases hn

theorem WindowsOk.resetController {s : State} (h : WindowsOk s) : WindowsOk s.resetController where
  marker := by
    have hm : s.resetController.path.marker = s.path.marker := rfl
    simpa [hm, LinkUnit.unclaim] using h.marker
  only n m := by simpa [LinkUnit.unclaim] using h.only n m
  held n op hc := by cases hc
  claimed _ n w hn hc := by
    rw [State.link_resetController] at hn
    simp only [LinkUnit.unclaim, Option.map_eq_some_iff] at hn
    obtain ⟨v, -, rfl⟩ := hn
    cases hc

theorem WindowsOk.assertPowerOn {s : State} (h : WindowsOk s) : WindowsOk s.assertPowerOn where
  marker := by
    have hm : s.assertPowerOn.path.marker = s.path.marker := rfl
    simpa [hm, LinkUnit.silence] using h.marker
  only n m := by simpa [LinkUnit.silence] using h.only n m
  held n op hc := by cases hc
  claimed hp := by cases hp

theorem WindowsOk.completeOrder {s : State} (h : WindowsOk s) (n : SlotNo) : WindowsOk (s.completeOrder n) :=
  h.setLink rfl

theorem WindowsOk.chooseNext {s : State} (h : WindowsOk s) (n : SlotNo) : WindowsOk (s.chooseNext n) := by
  have send {u : State} (hu : WindowsOk u) (w : Work) : WindowsOk (u.send n w false) :=
    hu.congr_kept (fun _ => by simp) (by simp) (by simp) (by simp)
  unfold State.chooseNext
  split
  · rename_i w hw
    exact send (h.setLink (by rw [hw]; rfl)) _
  · refine send ?_ _
    exact h.setLink rfl
  · exact h

/-- A served access that the store completes. -/
theorem WindowsOk.completePlain {s : State} (h : WindowsOk s) (hports : PortsOk s) (hp : s.por = false) {c : PlainCycle}
    {claimed : Bool} (hst : s.path.store = .controller c claimed) (w : Word) :
      WindowsOk (s.completePlain c claimed w) := by
  unfold State.completePlain
  dsimp only
  split
  · rename_i hcl
    subst hcl
    have hctrl := hports.served.mpr ⟨c, hst⟩
    exact h.setCtrl hp (by simp [hctrl]) nofun (fun _ => rfl) rfl
  · exact h.congr (fun _ => rfl) rfl rfl rfl

theorem WindowsOk.arbitrate {s : State} (h : WindowsOk s) (hp : s.por = false) : WindowsOk s.arbitrate := by
  unfold State.arbitrate
  split
  · rename_i hctrl
    exact h.setCtrl hp (by simp [hctrl]) nofun (fun _ => rfl) rfl
  · exact h.congr (fun _ => rfl) rfl rfl rfl
  · exact h

@[simp] theorem State.storeJournal_marker (s : State) (a : WordAddr) (d : Word) (b : Bool) :
    (s.storeJournal a d b).path.marker = s.path.marker := by
  unfold State.storeJournal
  dsimp only
  split <;> rfl

@[simp] theorem State.storeJournal_ctrl (s : State) (a : WordAddr) (d : Word) (b : Bool) :
    (s.storeJournal a d b).path.ctrl = s.path.ctrl := by
  unfold State.storeJournal
  dsimp only
  split <;> rfl

theorem WindowsOk.of_effect {c : Instr} {s t : State} (h : WindowsOk s) (hports : PortsOk s) (he : Effect s t c)
    (hc : ∀ n f, c ≠ .discardedFrame n f) : WindowsOk t := by
  have hk := WindowsOk.keptBySlotMoves
  have hm := WindowsOk.keptByMoves
  cases c
  case powerOnReset a f =>
    subst he
    exact WindowsOk.reset.congr (fun _ => rfl) rfl rfl rfl
  case powerOnResetAsserted => exact he ▸ h.assertPowerOn
  case controllerReset =>
    rcases he with ⟨-, rfl⟩ | ⟨-, rfl⟩
    · exact h.congr (fun _ => rfl) rfl rfl rfl
    · exact h.resetController
  case cardGoodDeclaredGood n =>
    obtain ⟨-, -, rfl⟩ := he
    exact hk.cardArrives n (h.congr (fun _ => rfl) rfl rfl rfl)
  case cardGoodDeclaredLow n =>
    obtain ⟨-, -, rfl⟩ := he
    exact hk.cardLeaves n (h.congr (fun _ => rfl) rfl rfl rfl)
  case sagNoticeSlots =>
    obtain ⟨-, -, ht⟩ := he
    rw [ht]
    exact hk.holdSlots ((hm.takeDepartures h).congr (fun _ => rfl) rfl rfl rfl)
  case recoverNoticeSlots =>
    obtain ⟨-, cls, -, ht⟩ := he
    rw [ht]
    exact hk.recoverSlots cls (h.congr (fun _ => rfl) rfl rfl rfl)
  case sagNoticeCircuits =>
    obtain ⟨-, -, rfl⟩ := he
    exact hm.takeSagCircuits h
  case departureNoticeCircuits n =>
    obtain ⟨-, -, rfl⟩ := he
    exact hm.parkSlot n h
  case departureNoticeLink n =>
    obtain ⟨-, -, rfl⟩ := he
    exact h.departLink n
  case resetPulseExpiry n =>
    obtain ⟨-, -, rfl⟩ := he
    exact hk.congr _ _ (s.endPulse_same n) h
  case bootTimeout n =>
    obtain ⟨-, -, rfl⟩ := he
    exact hk.bootTimeout n _ h
  case identTimeout n =>
    obtain ⟨-, hi, rfl⟩ := he
    exact hk.identTimeout (State.identDue_state hi) _ h
  case idleFrame n =>
    obtain ⟨-, -, rfl⟩ := he
    exact hk.alive n h
  case linkLoss n =>
    obtain ⟨-, -, rfl⟩ := he
    exact hk.takeLoss n h
  case laneGrant =>
    obtain ⟨-, n, l, -, rfl⟩ := he
    exact h.grant n l
  case connectDone n tag =>
    obtain ⟨-, o, -, rfl⟩ := he
    exact hm.moves (State.takeConnectDone_moves _ n o) ((hm.reachEntry o.entry h).completeOrder n)
  case connectRefusal n tag reason =>
    obtain ⟨-, o, -, rfl⟩ := he
    have hr := (hm.reachEntry o.entry h).completeOrder n
    rcases State.takeConnectRefusal_moves ((s.reachEntry o.entry).completeOrder n) n o reason with k | k
    · exact hm.moves k hr
    · exact hm.moves k (hk.congr _ _ (.raise _ _) hr)
  case releaseResult n tag answer =>
    obtain ⟨-, o, -, rfl⟩ := he
    exact hm.moves (State.takeReleaseEnd_moves _ n o) ((hm.reachEntry o.entry h).completeOrder n)
  case registerDataReply n tag data =>
    obtain ⟨-, w, hw, rfl⟩ := he
    exact h.endWindow (State.windowReply_window hw) _
  case registerWriteDone n tag =>
    obtain ⟨-, w, hw, rfl⟩ := he
    exact h.endWindow (State.windowReply_window hw) _
  case registerRefusal n tag reason =>
    obtain ⟨-, w, hw, rfl⟩ := he
    exact h.failWindow (State.windowReply_window hw) _
  case registerTimeout n =>
    obtain ⟨-, w, hw, rfl⟩ := he
    exact h.failWindow (State.windowTimeout_window hw) _
  case linkLossDeclared n =>
    obtain ⟨-, -, rfl⟩ := he
    exact h.setLink rfl
  case chooseNextExchange n =>
    obtain ⟨-, -, rfl⟩ := he
    exact h.chooseNext n
  case issue =>
    obtain ⟨-, i, -, -, rfl⟩ := he
    exact hm.moves (s.issueEntry_moves i) (h.congr (fun _ => rfl) rfl rfl rfl)
  case plainAccess a x e =>
    obtain ⟨⟨hp, -, hidle, -⟩, -, rfl⟩ := he
    exact h.setCtrl hp (by simp [hidle]) nofun (fun _ => rfl) rfl
  case plainAccessDone w =>
    obtain ⟨hp, c, claimed, hst, rfl⟩ := he
    exact h.completePlain hports hp hst w
  case storePortArbitration =>
    obtain ⟨hp, -, rfl⟩ := he
    exact h.arbitrate hp
  case windowRead n k =>
    obtain ⟨hf, rfl⟩ := he
    exact h.accessWindow hf n _ k
  case windowWrite n k d m =>
    obtain ⟨hf, rfl⟩ := he
    exact h.accessWindow hf n _ k
  case deferredWindowOffer =>
    obtain ⟨-, n, op, k, -, hmark, rfl⟩ := he
    exact h.offerWindow hmark n op k
  case settableWordWrite w d e =>
    obtain ⟨hf, rfl⟩ := he
    exact (h.writeShadow w d e).answered_of_free hf (by simp) (by simp) _
  case releaseAll =>
    obtain ⟨hf, rfl⟩ := he
    exact (State.takeReleaseAll_keeps hm.requestWrites h).answered_of_free hf (by simp) (by simp) _
  case connect i f e =>
    obtain ⟨hf, rfl⟩ := he
    exact (hm.requestWrites.write _ i _ f e (hm.reachEntry i h)).answered_of_free hf (by simp) (by simp) _
  case release i f e =>
    obtain ⟨hf, rfl⟩ := he
    exact (hm.requestWrites.write _ i _ f e (hm.reachEntry i h)).answered_of_free hf (by simp) (by simp) _
  case noneRequest i f e =>
    obtain ⟨hf, rfl⟩ := he
    exact (hm.requestWrites.write _ i _ f e (hm.reachEntry i h)).answered_of_free hf (by simp) (by simp) _
  case badRequest i e =>
    obtain ⟨hf, rfl⟩ := he
    exact (hm.requestWrites.bad _ i e (hm.reachEntry i h)).answered_of_free hf (by simp) (by simp) _
  case relink n =>
    obtain ⟨hf, rfl⟩ := he
    exact (hk.takeRelink n h).answered_of_free hf (by simp) (by simp) _
  case relinkReset n =>
    obtain ⟨hf, rfl⟩ := he
    exact (hk.takeRelinkReset n h).answered_of_free hf (by simp) (by simp) _
  case quiesce n =>
    obtain ⟨hf, rfl⟩ := he
    exact (hk.takeQuiesce n h).answered_of_free hf (by simp) (by simp) _
  case resume n =>
    obtain ⟨hf, rfl⟩ := he
    exact (hk.takeResume n h).answered_of_free hf (by simp) (by simp) _
  case restoreFloorWrite d e =>
    obtain ⟨hf, rfl⟩ := he
    exact (h.congr (t := s.writeCw1 d e) (fun _ => by simp) (by simp) (by simp) (by simp)).answered_of_free hf
      (by simp) (by simp) _
  case attentionEnableWrite b =>
    obtain ⟨hf, rfl⟩ := he
    exact (h.congr (t := s.enableAttention b) (fun _ => by simp) (by simp) (by simp) (by simp)).answered_of_free hf
      (by simp) (by simp) _
  case journalTailWrite v =>
    obtain ⟨hf, rfl⟩ := he
    exact (h.congr (t := s.takeTail v) (fun _ => by simp) (by simp) (by simp) (by simp)).answered_of_free hf
      (by simp) (by simp) _
  case relinkAll =>
    obtain ⟨hf, rfl⟩ := he
    exact (h.congr (t := s.takeRelinkAll) (fun _ => by simp) (by simp) (by simp) (by simp)).answered_of_free hf
      (by simp) (by simp) _
  case discardedFrame n f => exact absurd rfl (hc n f)
  all_goals
    simp only [Effect] at he
    try casesm* _ ∧ _, ∃ _, _
    subst_vars
    exact h.congr_kept (fun _ => by simp) (by simp) (by simp) (by simp)

/-! ## The store port and the controller's cycle -/

theorem PortsOk.congr {s t : State} (h : PortsOk s) (hs : t.path.store = s.path.store)
    (hc : t.path.ctrl = .plainServed ↔ s.path.ctrl = .plainServed) : PortsOk t := ⟨by rw [hs, hc, h.served]⟩

/-- A port that serves nothing of the controller's, and a cycle that is not being served. -/
theorem PortsOk.unserved {t : State} (hs : ∀ c, t.path.store ≠ .controller c true) (hc : t.path.ctrl ≠ .plainServed) :
    PortsOk t := ⟨iff_of_false hc fun ⟨c, e⟩ => hs c e⟩

/-- A free controller port answers, or opens a cycle that is not served yet. -/
theorem PortsOk.of_free {s t : State} (h : PortsOk s) (hf : s.PortFree) (hs : t.path.store = s.path.store)
    (hc : t.path.ctrl ≠ .plainServed) : PortsOk t :=
  h.congr hs (iff_of_false hc (by simp [hf.2.2.1]))

/-- A window request ended: the port waited for it, or its cycle stays. -/
theorem PortsOk.ended {s t : State} (h : PortsOk s) (hw : WindowsOk s) (hp : s.por = false) {n : SlotNo}
    {w : WindowRequest} (hn : (s.link n).window = some w) (hs : t.path.store = s.path.store)
    (hc : t.path.ctrl = if w.claimed then .idle else s.path.ctrl) : PortsOk t := by
  refine h.congr hs ?_
  rw [hc]
  split
  · rename_i hcl
    rw [hw.claimed hp n w hn hcl]
    exact iff_of_false nofun nofun
  · rfl

theorem State.endWindow_ctrl (s : State) (n : SlotNo) (w : WindowRequest) (a : CycleAnswer) :
    (s.endWindow n w a).path.ctrl = if w.claimed then .idle else s.path.ctrl := by
  unfold State.endWindow
  split <;> rfl

theorem State.failWindow_ctrl (s : State) (n : SlotNo) (w : WindowRequest) (r : BitVec 8) :
    (s.failWindow n w r).path.ctrl = if w.claimed then .idle else s.path.ctrl := by
  simp [State.failWindow, State.endWindow_ctrl]

theorem State.departLink_ctrl (s : State) (n : SlotNo) : (s.departLink n).path.ctrl =
    ((s.link n).window.elim s.path.ctrl fun w => if w.claimed then .idle else s.path.ctrl) := by
  rw [State.path_departLink]
  unfold State.departWindow
  split
  · rename_i hw
    rw [hw]
    rfl
  · rename_i hw
    rw [hw]
    dsimp only [Option.elim]
    split <;> rfl

theorem PortsOk.departLink {s : State} (h : PortsOk s) (hw : WindowsOk s) (hp : s.por = false) (n : SlotNo) :
    PortsOk (s.departLink n) := by
  have hc := s.departLink_ctrl n
  cases hn : (s.link n).window with
  | none =>
    rw [hn] at hc
    exact h.congr (by simp) (by rw [hc]; rfl)
  | some w =>
    rw [hn] at hc
    exact h.ended hw hp hn (by simp) hc

theorem PortsOk.grant {s : State} (h : PortsOk s) (hw : WindowsOk s) (hp : s.por = false) (n : SlotNo) (l : LaneNo) :
    PortsOk (s.grant n l) := by
  have hf : PortsOk (s.finishLink n) := by
    unfold State.finishLink
    split
    · exact h.departLink hw hp n
    · exact h
  exact hf.congr (by rw [State.path_grant]) (by rw [State.path_grant])

theorem State.offerWindow_ctrl (s : State) (n : SlotNo) (op : RegisterOp) (k : BitVec 10) :
    (s.offerWindow n op k).path.ctrl ≠ .plainServed := by
  unfold State.offerWindow
  split <;> nofun

theorem State.accessWindow_ctrl (s : State) (n : SlotNo) (op : RegisterOp) (k : BitVec 10) :
    (s.accessWindow n op k).path.ctrl ≠ .plainServed := by
  unfold State.accessWindow
  split
  · nofun
  · exact s.offerWindow_ctrl n op k

theorem PortsOk.of_effect {c : Instr} {s t : State} (h : PortsOk s) (hw : WindowsOk s) (he : Effect s t c)
    (hc : ∀ n f, c ≠ .discardedFrame n f) : PortsOk t := by
  cases c
  case powerOnReset a f =>
    subst he
    exact .unserved nofun nofun
  case powerOnResetAsserted =>
    subst he
    exact .unserved nofun nofun
  case controllerReset =>
    rcases he with ⟨-, rfl⟩ | ⟨-, rfl⟩
    · exact h.congr rfl Iff.rfl
    · refine .unserved (fun c => ?_) nofun
      show s.path.store.disown ≠ _
      unfold StorePort.disown
      split <;> nofun
  case departureNoticeLink n =>
    obtain ⟨hp, -, rfl⟩ := he
    exact h.departLink hw hp n
  case laneGrant =>
    obtain ⟨hp, n, l, -, rfl⟩ := he
    exact h.grant hw hp n l
  case registerDataReply n tag data =>
    obtain ⟨hp, w, hr, rfl⟩ := he
    exact h.ended hw hp (State.windowReply_window hr) (by simp) (s.endWindow_ctrl n w _)
  case registerWriteDone n tag =>
    obtain ⟨hp, w, hr, rfl⟩ := he
    exact h.ended hw hp (State.windowReply_window hr) (by simp) (s.endWindow_ctrl n w _)
  case registerRefusal n tag reason =>
    obtain ⟨hp, w, hr, rfl⟩ := he
    exact h.ended hw hp (State.windowReply_window hr) (by simp) (s.failWindow_ctrl n w _)
  case registerTimeout n =>
    obtain ⟨hp, w, hr, rfl⟩ := he
    exact h.ended hw hp (State.windowTimeout_window hr) (by simp) (s.failWindow_ctrl n w _)
  case plainAccess a x e =>
    obtain ⟨hf, -, rfl⟩ := he
    exact h.of_free hf rfl nofun
  case plainAccessDone w =>
    obtain ⟨-, c, claimed, hst, rfl⟩ := he
    unfold State.completePlain
    dsimp only
    split
    · exact .unserved nofun nofun
    · rename_i hcl
      refine .unserved nofun fun hserved => ?_
      obtain ⟨d, hd⟩ := h.served.mp hserved
      rw [hst] at hd
      cases hd
      exact hcl rfl
  case storePortArbitration =>
    obtain ⟨-, hst, rfl⟩ := he
    have hnot : s.path.ctrl ≠ .plainServed := fun e => by
      obtain ⟨c, hc⟩ := h.served.mp e
      rw [hst] at hc
      cases hc
    unfold State.arbitrate
    split
    · exact ⟨iff_of_true rfl ⟨_, rfl⟩⟩
    · exact .unserved nofun hnot
    · exact h
  case journalWordDone =>
    obtain ⟨-, a, d, live, hst, rfl⟩ := he
    have hnot : s.path.ctrl ≠ .plainServed := fun e => by
      obtain ⟨c, hc⟩ := h.served.mp e
      rw [hst] at hc
      cases hc
    refine .unserved (fun c => ?_) (by simpa using hnot)
    unfold State.storeJournal
    dsimp only
    split <;> nofun
  case windowRead n k =>
    obtain ⟨hf, rfl⟩ := he
    exact h.of_free hf (by simp) (s.accessWindow_ctrl n _ k)
  case windowWrite n k d m =>
    obtain ⟨hf, rfl⟩ := he
    exact h.of_free hf (by simp) (s.accessWindow_ctrl n _ k)
  case deferredWindowOffer =>
    obtain ⟨-, n, op, k, hctrl, -, rfl⟩ := he
    exact h.congr (by simp) (iff_of_false (s.offerWindow_ctrl n op k) (by simp [hctrl]))
  case discardedFrame n f => exact absurd rfl (hc n f)
  case settableWordWrite w d e =>
    obtain ⟨hf, rfl⟩ := he
    exact h.of_free hf (by simp) nofun
  case restoreFloorWrite d e =>
    obtain ⟨hf, rfl⟩ := he
    exact h.of_free hf (by simp) nofun
  case attentionEnableWrite b =>
    obtain ⟨hf, rfl⟩ := he
    exact h.of_free hf (by simp) nofun
  case journalTailWrite v =>
    obtain ⟨hf, rfl⟩ := he
    exact h.of_free hf (by simp) nofun
  case relinkAll =>
    obtain ⟨hf, rfl⟩ := he
    exact h.of_free hf (by simp) nofun
  case releaseAll =>
    obtain ⟨hf, rfl⟩ := he
    exact h.of_free hf (by simp) nofun
  case relink n =>
    obtain ⟨hf, rfl⟩ := he
    exact h.of_free hf (by simp) nofun
  case relinkReset n =>
    obtain ⟨hf, rfl⟩ := he
    exact h.of_free hf (by simp) nofun
  case quiesce n =>
    obtain ⟨hf, rfl⟩ := he
    exact h.of_free hf (by simp) nofun
  case resume n =>
    obtain ⟨hf, rfl⟩ := he
    exact h.of_free hf (by simp) nofun
  case connect i f e =>
    obtain ⟨hf, rfl⟩ := he
    exact h.of_free hf (by simp) nofun
  case release i f e =>
    obtain ⟨hf, rfl⟩ := he
    exact h.of_free hf (by simp) nofun
  case noneRequest i f e =>
    obtain ⟨hf, rfl⟩ := he
    exact h.of_free hf (by simp) nofun
  case badRequest i e =>
    obtain ⟨hf, rfl⟩ := he
    exact h.of_free hf (by simp) nofun
  all_goals
    simp only [Effect] at he
    try casesm* _ ∧ _, ∃ _, _
    subst_vars
    exact h.congr (by simp) (by simp)

/-- Settles O13: the four relations step by step; the window request and the store port are kept together, since a
window request that ends answers the cycle it is held by. -/
theorem portsWindowsAndStoreStayConsistent : Obligations.PortsWindowsAndStoreStayConsistent := by
  intro s t hc hp hm hw hs
  refine step_keeps (P := fun s => CapturedOk s ∧ PortsOk s ∧ StoreOk s ∧ WindowsOk s) ?_ ?_ ?_ ?_ ⟨hc, hp, hm, hw⟩ hs
  · rintro s q ⟨hc, hp, hm, hw⟩
    exact ⟨hc.congr rfl rfl, hp.congr rfl Iff.rfl, hm.congr rfl, hw.congr (fun _ => rfl) rfl rfl rfl⟩
  · rintro s t ⟨hc, hp, hm, hw⟩
    exact ⟨hc.congr rfl rfl, hp.congr rfl Iff.rfl, hm.congr rfl, hw.congr (fun _ => rfl) rfl rfl rfl⟩
  · rintro c s t hd ⟨hc, hp, hm, hw⟩ he
    exact ⟨hc.of_effect he hd, hp.of_effect hw he hd, hm.of_effect he hd, hw.of_effect hp he hd⟩
  · rintro s ⟨hc, hp, hm, hw⟩
    exact ⟨hc.congr (by simp) (by simp), hp.congr (by simp) (by simp), hm.congr (by simp),
      hw.congr (fun _ => by simp) (by simp) (by simp) (by simp)⟩

end Sys2Proof.Machine
end

section
/-! The Link Units (R24, R75, R76, R79, R82, R83): the exchange in flight is work of its slot's state, orders and
windows are held in service only, and no notice of a slot in work is on its way. -/

namespace Sys2Proof.Machine

/-! ## The exchange and the state of its slot -/

section
variable {s : State} {n : SlotNo} {x : Exchange}

theorem State.fits_probe {tap : Tap} (hx : x.work = .probe tap) :
    s.ExchangeFits n x ↔ ∃ l w, s.Sweeping n l w ∧ tap = tapAt w.centre w.position := by
  rw [State.ExchangeFits, hx]

theorem State.fits_identityQuery (hx : x.work = .identityQuery) :
    s.ExchangeFits n x ↔ (s.slot n).state = .identify := by
  rw [State.ExchangeFits, hx]

theorem State.fits_clearOrder (hx : x.work = .clearOrder) :
    s.ExchangeFits n x ↔ (s.slot n).state = .identify ∧ (s.slot n).mode = .full := by
  rw [State.ExchangeFits, hx]

theorem State.fits_order {o : Order} (hx : x.work = .order o) :
    s.ExchangeFits n x ↔ o.inFlight = true ∧ (s.link n).orders.head? = some o ∧ s.InService n := by
  rw [State.ExchangeFits, hx]

theorem State.fits_register {op : RegisterOp} {k : BitVec 10} (hx : x.work = .register op k) :
    s.ExchangeFits n x ↔ s.InService n ∧
      ∃ w, (s.link n).window = some w ∧ w.op = op ∧ w.index = k ∧ w.inFlight = true := by
  rw [State.ExchangeFits, hx]

/-- What fits one state fits another in which slot, lane and the work of LINKED have not moved. -/
theorem State.ExchangeFits.congr {t : State} {y : Exchange} (h : s.ExchangeFits n x) (hy : y.work = x.work)
    (hs : (t.slot n).work = (s.slot n).work) (hl : ∀ l, (s.slot n).lane = some l → t.lane l = s.lane l)
    (ho : (t.link n).orders.head? = (s.link n).orders.head?) (hw : (t.link n).window = (s.link n).window)
    (hi : s.InService n → t.InService n) : t.ExchangeFits n y := by
  have hstate : (t.slot n).state = (s.slot n).state := congrArg (·.1) hs
  have hlane : (t.slot n).lane = (s.slot n).lane := congrArg (·.2.1) hs
  have hmode : (t.slot n).mode = (s.slot n).mode := congrArg (·.2.2) hs
  cases hx : x.work with
  | probe tap =>
    obtain ⟨l, w, ⟨hln, hw⟩, htap⟩ := (State.fits_probe hx).mp h
    exact (State.fits_probe (hy.trans hx)).mpr ⟨l, w, ⟨hlane.trans hln, (hl l hln).trans hw⟩, htap⟩
  | identityQuery =>
    exact (State.fits_identityQuery (hy.trans hx)).mpr (hstate.trans ((State.fits_identityQuery hx).mp h))
  | clearOrder =>
    obtain ⟨h1, h2⟩ := (State.fits_clearOrder hx).mp h
    exact (State.fits_clearOrder (hy.trans hx)).mpr ⟨hstate.trans h1, hmode.trans h2⟩
  | order o =>
    obtain ⟨h1, h2, h3⟩ := (State.fits_order hx).mp h
    exact (State.fits_order (hy.trans hx)).mpr ⟨h1, ho.trans h2, hi h3⟩
  | register op k =>
    obtain ⟨h1, w, h2, h3⟩ := (State.fits_register hx).mp h
    exact (State.fits_register (hy.trans hx)).mpr ⟨hi h1, w, hw.trans h2, h3⟩

/-- A slot in service has neither a lane nor an identity query. -/
theorem DeparturesOk.not_working (hd : DeparturesOk s) (h : s.InService n) :
    (s.slot n).state ≠ .training ∧ (s.slot n).state ≠ .identify := by
  rcases h with h | h
  · rw [h]
    exact ⟨nofun, nofun⟩
  · obtain ⟨h1, h2, -⟩ := hd.away n (by simp [State.departing, h])
    exact ⟨h1, h2⟩

/-- A slot that needs no lane has no exchange but an order or a register exchange, which it has in service. -/
theorem State.ExchangeFits.ofLinked (h : s.ExchangeFits n x) (hl : LanesOk s)
    (hn : (s.slot n).state ≠ .training ∧ (s.slot n).state ≠ .identify) : x.work.ofLinked = true ∧ s.InService n := by
  cases hx : x.work with
  | probe tap =>
    obtain ⟨l, w, ⟨hln, -⟩, -⟩ := (State.fits_probe hx).mp h
    exact absurd ((hl.training n).mp (by rw [hln]; rfl)) hn.1
  | identityQuery => exact absurd ((State.fits_identityQuery hx).mp h) hn.2
  | clearOrder => exact absurd ((State.fits_clearOrder hx).mp h).1 hn.2
  | order o => exact ⟨rfl, ((State.fits_order hx).mp h).2.2⟩
  | register op k => exact ⟨rfl, ((State.fits_register hx).mp h).1⟩

/-! ## One link -/

/-- The clauses for one link read its slot's work, the lane that it holds, the link's work, and whether its departure
notice is on its way. -/
theorem LinkOk.congr {t : State} (h : LinkOk s n) (hs : (t.slot n).work = (s.slot n).work)
    (hk : (t.link n).held = (s.link n).held) (hl : ∀ l, (s.slot n).lane = some l → t.lane l = s.lane l)
    (hd : n ∈ t.notices.departLink ↔ n ∈ s.notices.departLink) (hp : t.por = s.por) : LinkOk t n := by
  have hstate : (t.slot n).state = (s.slot n).state := congrArg (·.1) hs
  have hx : (t.link n).exchange = (s.link n).exchange := congrArg (·.1) hk
  have ho : (t.link n).orders = (s.link n).orders := congrArg (·.2.1) hk
  have hw : (t.link n).window = (s.link n).window := congrArg (·.2.2.1) hk
  have hloss : (t.link n).lossDeclared = (s.link n).lossDeclared := congrArg (·.2.2.2) hk
  have hi : t.InService n ↔ s.InService n := by rw [State.InService, State.InService, hstate, hd]
  refine ⟨fun x hxe => ?_, ?_, ?_, ?_, ?_, ?_, ?_, ?_⟩
  · exact (h.fits x (hx ▸ hxe)).congr rfl hs hl (by rw [ho]) hw hi.mpr
  · rw [hp, hstate, hx]
    exact h.busy
  · rw [ho, hi]
    exact h.orders_service
  · rw [hw, hi]
    exact h.window_service
  · rw [hloss, hi, hx]
    exact h.loss_service
  · rw [ho]
    exact h.tail_waiting
  · rw [hp, ho, hx]
    exact h.head_flight
  · rw [hp, hw, hx]
    exact h.window_flight

/-- A link out of service holds no order, no window request and no declared loss. -/
theorem LinkOk.kept_eq (h : LinkOk s n) (hn : ¬s.InService n) : (s.link n).kept = ([], none, false) := by
  have ho : (s.link n).orders = [] := by_contra fun hc => hn (h.orders_service hc)
  have hw : (s.link n).window = none :=
    by_contra fun hc => hn (h.window_service (Option.isSome_iff_ne_none.mpr hc))
  have hl : (s.link n).lossDeclared = false :=
    by_contra fun hc => hn (h.loss_service (Bool.eq_true_of_not_eq_false hc)).1
  rw [LinkUnit.kept, ho, hw, hl]

/-- A link that holds nothing of LINKED, its exchange that of its state. -/
theorem LinkOk.of_kept (hk : (s.link n).kept = ([], none, false))
    (hf : ∀ x, (s.link n).exchange = some x → s.ExchangeFits n x)
    (hb : (s.slot n).state = .training ∨ (s.slot n).state = .identify → (s.link n).exchange.isSome = true) :
    LinkOk s n := by
  have ho : (s.link n).orders = [] := congrArg (·.1) hk
  have hw : (s.link n).window = none := congrArg (·.2.1) hk
  have hl : (s.link n).lossDeclared = false := congrArg (·.2.2) hk
  exact ⟨hf, fun _ => hb, by simp [ho], by simp [hw], by simp [hl], by simp [ho], by simp [ho, headInFlight],
    by simp [hw]⟩

end

/-! ## Every link -/

/-- The relation reads slots, lanes, links and the two channels of departure notices. -/
theorem LinksOk.congr {s t : State} (h : LinksOk s) (hs : ∀ n, (t.slot n).work = (s.slot n).work)
    (hk : ∀ n, (t.link n).held = (s.link n).held) (hl : ∀ l, t.lane l = s.lane l)
    (hdl : t.notices.departLink = s.notices.departLink)
    (hdc : t.notices.departCircuits = s.notices.departCircuits) (hp : t.por = s.por) : LinksOk t := by
  refine ⟨fun n => (h.each n).congr (hs n) (hk n) (fun l _ => hl l) (by rw [hdl]) hp, ?_⟩
  obtain ⟨ho, hc, ha⟩ := h.departures
  refine ⟨hdl ▸ ho, hdc ▸ hc, fun n hn => ?_⟩
  rw [show (t.slot n).state = (s.slot n).state from congrArg (·.1) (hs n)]
  exact ha n (by rw [State.departing, ← hdl, ← hdc]; exact hn)

/-- The links and the lanes together: what every move of a slot and of the table keeps. -/
structure WorkOk (s : State) : Prop where
  lanes : LanesOk s
  links : LinksOk s

theorem WorkOk.same {s t : State} (h : WorkOk s) (k : SameWork s t) : WorkOk t :=
  ⟨h.lanes.same k, h.links.congr k.slot k.link k.lane (by rw [k.notices]) (by rw [k.notices]) k.por⟩

/-- One slot and its link moved: every other slot keeps its work, its link and its lane. -/
theorem LinksOk.one {s t : State} (h : LinksOk s) (n : SlotNo) (hs : ∀ m, n ≠ m → (t.slot m).work = (s.slot m).work)
    (hk : ∀ m, n ≠ m → (t.link m).held = (s.link m).held)
    (hl : ∀ m, n ≠ m → ∀ l, (s.slot m).lane = some l → t.lane l = s.lane l)
    (hdl : ∀ m, n ≠ m → (m ∈ t.notices.departLink ↔ m ∈ s.notices.departLink)) (hp : t.por = s.por)
    (hn : LinkOk t n) (hd : DeparturesOk t) : LinksOk t := by
  refine ⟨fun m => ?_, hd⟩
  by_cases e : n = m
  · exact e ▸ hn
  · exact (h.each m).congr (hs m e) (hk m e) (hl m e) (hdl m e) hp

/-! ## A slot's move (R24) -/

theorem DeparturesOk.leave {s : State} (h : DeparturesOk s) (n : SlotNo) (c : SlotContext) (hc : c.state.Away) :
    DeparturesOk ((s.endWork n).setSlot n c) := by
  have hslot : ∀ m, n ≠ m → ((s.endWork n).setSlot n c).slot m = s.slot m := fun m hm => by
    rw [State.slot_setSlot, if_neg hm, State.slot_endWork, if_neg hm]
  have hself : ((s.endWork n).setSlot n c).slot n = c := by rw [State.slot_setSlot, if_pos rfl]
  have hnot : (s.slot n).state = .linked → s.departing n = false := fun hl =>
    Bool.eq_false_of_not_eq_true fun hd => (h.away n hd).2.2 hl
  have hnotices : ((s.endWork n).setSlot n c).notices = (s.endWork n).notices := rfl
  refine ⟨?_, ?_, fun m hm => ?_⟩
  · rw [hnotices, State.notices_endWork]
    split
    · rename_i hl
      have hn := hnot hl
      simp only [State.departing, Bool.or_eq_false_iff, List.contains_eq_mem, decide_eq_false_iff_not] at hn
      exact List.nodup_append.mpr ⟨h.link_once, List.nodup_singleton n, by
        rintro a ha b hb rfl
        exact hn.1 (List.mem_singleton.mp hb ▸ ha)⟩
    · exact h.link_once
  · rw [hnotices, State.notices_endWork]
    split
    · rename_i hl
      have hn := hnot hl
      simp only [State.departing, Bool.or_eq_false_iff, List.contains_eq_mem, decide_eq_false_iff_not] at hn
      exact List.nodup_append.mpr ⟨h.circuits_once, List.nodup_singleton n, by
        rintro a ha b hb rfl
        exact hn.2 (List.mem_singleton.mp hb ▸ ha)⟩
    · exact h.circuits_once
  · by_cases e : n = m
    · subst e
      rw [hself]
      exact hc
    · rw [hslot m e]
      refine h.away m ?_
      rw [State.departing, hnotices, State.notices_endWork] at hm
      split at hm
      · simpa [State.departing, Ne.symm e] using hm
      · exact hm

/-- The link of a slot that has left its state. -/
theorem LinkOk.leave {s : State} (hl : LanesOk s) (h : LinksOk s) (n : SlotNo) (c : SlotContext) (hc : c.state.Away) :
    LinkOk ((s.endWork n).setSlot n c) n := by
  have hlink : ((s.endWork n).setSlot n c).link n = (s.endWork n).link n := rfl
  have hself : (((s.endWork n).setSlot n c).slot n).state = c.state := by rw [State.slot_setSlot, if_pos rfl]
  by_cases hw : (s.slot n).state = .training ∨ (s.slot n).state = .identify
  · have hout : ¬s.InService n := fun hi =>
      hw.elim (h.departures.not_working hi).1 (h.departures.not_working hi).2
    have hnone : ((s.endWork n).link n).exchange = none := by rw [State.link_endWork, if_pos rfl, if_pos hw]
    refine .of_kept ?_ ?_ ?_
    · rw [hlink, State.link_endWork, if_pos rfl]
      exact (h.each n).kept_eq hout
    · rw [hlink, hnone]
      nofun
    · rw [hself]
      exact fun e => (e.elim hc.1 hc.2.1).elim
  · have hn := not_or.mp hw
    have hsame : ((s.endWork n).link n).held = (s.link n).held := by
      rw [State.link_endWork, if_pos rfl]
      simp only [LinkUnit.held, hw, if_false]
    have hx : ((s.endWork n).link n).exchange = (s.link n).exchange := congrArg (·.1) hsame
    have ho : ((s.endWork n).link n).orders = (s.link n).orders := congrArg (·.2.1) hsame
    have hwin : ((s.endWork n).link n).window = (s.link n).window := congrArg (·.2.2.1) hsame
    have hloss : ((s.endWork n).link n).lossDeclared = (s.link n).lossDeclared := congrArg (·.2.2.2) hsame
    have hi : s.InService n → ((s.endWork n).setSlot n c).InService n := fun hi => by
      refine .inr ?_
      show n ∈ (s.endWork n).notices.departLink
      rw [State.notices_endWork]
      split
      · simp
      · exact hi.resolve_left ‹_›
    obtain ⟨fits, busy, orders, window, loss, tail, head, flight⟩ := h.each n
    refine ⟨fun x hxe => ?_, fun _ e => ?_, fun e => ?_, fun e => ?_, fun e => ?_, ?_, ?_, ?_⟩
    · rw [hlink, hx] at hxe
      have hf := fits x hxe
      obtain ⟨hofl, -⟩ := hf.ofLinked hl hn
      cases hxw : x.work with
      | probe tap => rw [hxw] at hofl; cases hofl
      | identityQuery => rw [hxw] at hofl; cases hofl
      | clearOrder => rw [hxw] at hofl; cases hofl
      | order o =>
        obtain ⟨h1, h2, h3⟩ := (State.fits_order hxw).mp hf
        exact (State.fits_order hxw).mpr ⟨h1, by rw [hlink, ho]; exact h2, hi h3⟩
      | register op k =>
        obtain ⟨h1, w, h2, h3⟩ := (State.fits_register hxw).mp hf
        exact (State.fits_register hxw).mpr ⟨hi h1, w, by rw [hlink, hwin]; exact h2, h3⟩
    · rw [hself] at e
      exact (e.elim hc.1 hc.2.1).elim
    · rw [hlink, ho] at e
      exact hi (orders e)
    · rw [hlink, hwin] at e
      exact hi (window e)
    · rw [hlink, hloss] at e
      rw [hlink, hx]
      exact ⟨hi (loss e).1, (loss e).2⟩
    · rw [hlink, ho]
      exact tail
    · rw [hlink, ho, hx]
      exact fun hp => head (by simpa using hp)
    · rw [hlink, hwin, hx]
      exact fun hp => flight (by simpa using hp)

theorem WorkOk.keptBySlotMoves : KeptBySlotMoves WorkOk where
  congr _ _ k h := h.same k
  leave s n c hc hl h := by
    refine ⟨h.lanes.leave n c hc.1 hl, h.links.one n (fun m e => ?_) (fun m e => ?_) (fun m e l hm => ?_)
      (fun m e => ?_)
      (by simp) (LinkOk.leave h.lanes h.links n c hc) (h.links.departures.leave n c hc)⟩
    · rw [State.slot_setSlot, if_neg e, State.slot_endWork, if_neg e]
    · rw [State.link_setSlot, State.link_endWork, if_neg e]
    · rw [State.lane_setSlot, State.lane_endWork, if_neg]
      exact fun he => h.lanes.lane_ne e he.2 hm rfl
    · show m ∈ (s.endWork n).notices.departLink ↔ _
      rw [State.notices_endWork]
      split
      · simp [Ne.symm e]
      · rfl

/-! ## The moves of the Circuit Table -/

theorem headInFlight_cons (o : Order) (l : List Order) : headInFlight (o :: l) = o.inFlight := rfl

/-- An order list of a LINKED slot replaced by another with the same order in flight and no other. -/
theorem LinksOk.setOrders {s : State} (h : LinksOk s) {n : SlotNo} {l : List Order}
    (hserve : l ≠ [] → s.InService n) (htail : ∀ o ∈ l.tail, o.inFlight = false)
    (hhead : ∀ o, o.inFlight = true → (l.head? = some o ↔ (s.link n).orders.head? = some o)) :
    LinksOk (s.setLink n { s.link n with orders := l }) := by
  have hself : (s.setLink n { s.link n with orders := l }).link n = { s.link n with orders := l } := by
    rw [State.link_setLink, if_pos rfl]
  obtain ⟨fits, busy, orders, window, loss, tail, head, flight⟩ := h.each n
  refine h.one n (fun _ _ => rfl) (fun m e => by rw [State.link_setLink, if_neg e]) (fun _ _ _ _ => rfl)
    (fun _ _ => Iff.rfl) rfl ?_ ⟨h.departures.link_once, h.departures.circuits_once, h.departures.away⟩
  refine ⟨fun x hx => ?_, ?_, ?_, ?_, ?_, ?_, fun hp hf => ?_, ?_⟩
  · rw [hself] at hx
    have hfx := fits x hx
    cases hw : x.work with
    | probe tap => exact (State.fits_probe hw).mpr ((State.fits_probe (s := s) hw).mp hfx)
    | identityQuery => exact (State.fits_identityQuery hw).mpr ((State.fits_identityQuery (s := s) hw).mp hfx)
    | clearOrder => exact (State.fits_clearOrder hw).mpr ((State.fits_clearOrder (s := s) hw).mp hfx)
    | order o =>
      obtain ⟨h1, h2, h3⟩ := (State.fits_order hw).mp hfx
      exact (State.fits_order hw).mpr ⟨h1, by rw [hself]; exact (hhead o h1).mpr h2, h3⟩
    | register op k =>
      obtain ⟨h1, h2⟩ := (State.fits_register hw).mp hfx
      exact (State.fits_register hw).mpr ⟨h1, by rw [hself]; exact h2⟩
  · rw [hself]
    exact busy
  · rw [hself]
    exact hserve
  · rw [hself]
    exact window
  · rw [hself]
    exact loss
  · rw [hself]
    exact htail
  · rw [hself] at hf ⊢
    cases l with
    | nil => cases hf
    | cons o rest =>
      have hs := (hhead o hf).mp rfl
      refine head hp ?_
      rw [headInFlight, hs]
      exact hf
  · rw [hself]
    exact flight

/-- An order withdrawn is in flight nowhere: it leaves the order in flight at the head (R78). -/
theorem LinkUnit.withdraw_orders (l : LinkUnit) (i : EntryNo) (d : Ends)
    (htail : ∀ o ∈ l.orders.tail, o.inFlight = false) :
    (l.withdraw i d).orders.Sublist l.orders ∧ (∀ o ∈ (l.withdraw i d).orders.tail, o.inFlight = false) ∧
    ∀ o, o.inFlight = true → ((l.withdraw i d).orders.head? = some o ↔ l.orders.head? = some o) := by
  unfold LinkUnit.withdraw
  dsimp only
  split
  · rename_i hw
    have hw : l.withdrawAnswer i d = .withdrawn := by simpa using hw
    unfold LinkUnit.withdrawAnswer at hw
    cases ho : l.orders with
    | nil => simp
    | cons a rest =>
      rw [ho] at hw htail
      refine ⟨List.eraseP_sublist .., ?_⟩
      by_cases ha : a.isFor i d = true
      · have hflight : a.inFlight = false := by
          rw [List.find?_cons_of_pos (p := fun o : Order => o.isFor i d) ha] at hw
          by_contra hc
          simp [hc] at hw
        rw [List.eraseP_cons_of_pos (p := fun o : Order => o.isFor i d) ha]
        refine ⟨fun o hm => htail o (List.mem_of_mem_tail hm), fun o hf => iff_of_false (fun e => ?_) fun e => ?_⟩
        · rw [htail o (List.mem_of_mem_head? e)] at hf
          cases hf
        · cases e
          rw [hflight] at hf
          cases hf
      · rw [List.eraseP_cons_of_neg (p := fun o : Order => o.isFor i d) ha]
        exact ⟨fun o hm => htail o (List.mem_of_mem_eraseP hm), fun o _ => Iff.rfl⟩
  · exact ⟨List.Sublist.refl _, htail, fun _ _ => Iff.rfl⟩

theorem LinksOk.append {s : State} (h : LinksOk s) {n : SlotNo} {o : Order} (hl : s.linked n = true)
    (hf : o.inFlight = false) : LinksOk (s.setLink n { s.link n with orders := (s.link n).orders ++ [o] }) := by
  have htail := (h.each n).tail_waiting
  refine h.setOrders (fun _ => .inl (State.linked_iff.mp hl)) ?_ fun v hv => ?_
  · cases ho : (s.link n).orders with
    | nil => nofun
    | cons a rest =>
      rw [ho] at htail
      intro v hv
      rcases List.mem_append.mp (show v ∈ rest ++ [o] from hv) with hv | hv
      · exact htail v hv
      · rw [List.mem_singleton.mp hv, hf]
  · cases (s.link n).orders with
    | nil =>
      refine iff_of_false (fun e => ?_) nofun
      cases e
      rw [hf] at hv
      cases hv
    | cons a rest => exact Iff.rfl

theorem LinksOk.withdraw {s : State} (h : LinksOk s) (n : SlotNo) (i : EntryNo) (d : Ends) :
    LinksOk (s.setLink n ((s.link n).withdraw i d)) := by
  obtain ⟨hsub, htail, hhead⟩ := (s.link n).withdraw_orders i d (h.each n).tail_waiting
  refine h.setOrders (fun hne => (h.each n).orders_service fun e => hne ?_) htail hhead
  rw [e] at hsub
  exact List.sublist_nil.mp hsub

theorem LinksOk.of_move {s t : State} (hm : CircuitMove s t) (h : LinksOk s) : LinksOk t := by
  cases hm with
  | put i e hidle hrest hfields => exact h.congr (fun _ => rfl) (fun _ => rfl) (fun _ => rfl) rfl rfl rfl
  | becomeIdle i hstate => exact h.congr (fun _ => rfl) (fun _ => rfl) (fun _ => rfl) rfl rfl rfl
  | connect i f hstate hgood hfree => exact h.congr (fun _ => rfl) (fun _ => rfl) (fun _ => rfl) rfl rfl rfl
  | append n o hlinked hflight => exact h.append hlinked hflight
  | withdraw n i ends => exact h.withdraw n i ends

theorem LinksOk.dropDeparture {s : State} (h : LinksOk s) (n : SlotNo) : LinksOk (s.dropDeparture n) := by
  refine ⟨fun m => (h.each m).congr rfl rfl (fun _ _ => rfl) Iff.rfl rfl, ?_⟩
  obtain ⟨ho, hc, ha⟩ := h.departures
  refine ⟨ho, hc.erase n, fun m hm => ha m ?_⟩
  simp only [State.departing, State.dropDeparture, Bool.or_eq_true, List.contains_eq_mem, decide_eq_true_eq] at hm ⊢
  exact hm.imp_right List.mem_of_mem_erase

theorem CircuitMove.lanes {s t : State} (hm : CircuitMove s t) (h : LanesOk s) : LanesOk t := by
  cases hm <;> exact h.congr (fun _ => rfl) fun _ => rfl

theorem WorkOk.keptByMoves : KeptByMoves WorkOk where
  move _ _ hm h := ⟨hm.lanes h.lanes, h.links.of_move hm⟩
  departed _ n h := ⟨h.lanes.congr (fun _ => rfl) fun _ => rfl, h.links.dropDeparture n⟩
  sagged _ h := ⟨h.lanes.congr (fun _ => rfl) fun _ => rfl,
    h.links.congr (fun _ => rfl) (fun _ => rfl) (fun _ => rfl) rfl rfl rfl⟩

/-- No move of the table ends or begins an exchange, or writes a window request. -/
theorem CircuitMoves.exchange {s t : State} (h : CircuitMoves s t) (n : SlotNo) :
    (t.link n).exchange = (s.link n).exchange := by
  have set {u : State} {m : SlotNo} {l : LinkUnit} (hl : l.exchange = (u.link m).exchange) :
      ((u.setLink m l).link n).exchange = (u.link n).exchange := by
    rw [State.link_setLink]
    split
    · subst_vars
      exact hl
    · rfl
  refine h.keeps (P := fun t => (t.link n).exchange = (s.link n).exchange) (fun t u hm ht => ?_) rfl
  cases hm with
  | put i e hidle hrest hfields => exact ht
  | becomeIdle i hstate => exact ht
  | connect i f hstate hgood hfree => exact ht
  | append m o hlinked hflight =>
    refine (set ?_).trans ht
    rfl
  | withdraw m i ends =>
    refine (set ?_).trans ht
    rfl

/-! ## A slot out of service -/

/-- A slot in TRAINING or IDENTIFY is out of service, and no notice of it is on its way. -/
theorem DeparturesOk.out_of_service {s : State} (h : DeparturesOk s) {n : SlotNo}
    (hn : (s.slot n).state = .training ∨ (s.slot n).state = .identify) : ¬s.InService n ∧ s.departing n = false :=
  ⟨fun hi => hn.elim (h.not_working hi).1 (h.not_working hi).2, Bool.eq_false_of_not_eq_true fun hd =>
    hn.elim (h.away n hd).1 (h.away n hd).2.1⟩

/-- A slot out of service moved: every other slot keeps its work, its link and its lane, and its own link holds
nothing but the exchange of its state. -/
theorem LinksOk.relink {s t : State} (h : LinksOk s) {n : SlotNo} (hout : ¬s.InService n)
    (haway : s.departing n = false)
    (hkept : (t.link n).kept = (s.link n).kept) (hf : ∀ x, (t.link n).exchange = some x → t.ExchangeFits n x)
    (hb : (t.slot n).state = .training ∨ (t.slot n).state = .identify → (t.link n).exchange.isSome = true)
    (hs : ∀ m, n ≠ m → (t.slot m).work = (s.slot m).work) (hk : ∀ m, n ≠ m → (t.link m).held = (s.link m).held)
    (hl : ∀ m, n ≠ m → ∀ l, (s.slot m).lane = some l → t.lane l = s.lane l) (hn : t.notices = s.notices)
    (hp : t.por = s.por) : LinksOk t := by
  refine h.one n hs hk hl (fun m _ => by rw [hn]) hp (.of_kept (hkept.trans ((h.each n).kept_eq hout)) hf hb) ?_
  obtain ⟨ho, hc, ha⟩ := h.departures
  refine ⟨hn ▸ ho, hn ▸ hc, fun m hm => ?_⟩
  have hm : s.departing m = true := by
    rw [State.departing, ← hn]
    exact hm
  have hne : n ≠ m := by
    rintro rfl
    rw [haway] at hm
    cases hm
  rw [show (t.slot m).state = (s.slot m).state from congrArg (·.1) (hs m hne)]
  exact ha m hm

theorem State.link_send_ne {n m : SlotNo} (s : State) (h : n ≠ m) (w : Work) (b : Bool) :
    (s.send n w b).link m = s.link m := by
  rw [State.send, State.link_setLink, if_neg h]

theorem State.exchange_send (s : State) (n : SlotNo) (w : Work) (b : Bool) :
    ∃ x, ((s.send n w b).link n).exchange = some x ∧ x.work = w := by
  rw [State.send, State.link_setLink, if_pos rfl]
  exact ⟨_, rfl, rfl⟩

/-! ## Sweeps -/

/-- A slot in TRAINING whose lane holds a sweep and whose link has a probe of it in flight; every other slot, link and
lane is as it was. -/
structure State.Probes (s : State) (n : SlotNo) (l : LaneNo) (w : Sweep) (t : State) : Prop where
  exchange : ∃ x, (t.link n).exchange = some x ∧ x.work = .probe (tapAt w.centre w.position)
  kept : (t.link n).kept = (s.link n).kept
  held : (t.slot n).lane = some l
  lane : ∀ k, t.lane k = if l = k then some w else s.lane k
  slots : ∀ m, n ≠ m → t.slot m = s.slot m
  links : ∀ m, n ≠ m → t.link m = s.link m
  notices : t.notices = s.notices
  por : t.por = s.por

theorem State.continueSweep_probes (s : State) (n : SlotNo) (l : LaneNo) (w : Sweep) (h : (s.slot n).lane = some l) :
    s.Probes n l w (s.continueSweep l n w) where
  exchange := State.exchange_send _ n _ _
  kept := by simp
  held := by simpa using h
  lane k := by
    show ((s.setLane l (some w)).lane k) = _
    rw [State.lane_setLane]
  slots m _ := by simp
  links m hm := State.link_send_ne (s.setLane l (some w)) hm _ _
  notices := by simp
  por := by simp

theorem State.Probes.of_setSlot {s : State} {n : SlotNo} {c : SlotContext} {l : LaneNo} {w : Sweep} {t : State}
    (h : (s.setSlot n c).Probes n l w t) : s.Probes n l w t :=
  { h with slots := fun m hm => (h.slots m hm).trans (by rw [State.slot_setSlot, if_neg hm]) }

theorem State.Probes.of_setLink {s : State} {n : SlotNo} {k : LinkUnit} {l : LaneNo} {w : Sweep} {t : State}
    (h : (s.setLink n k).Probes n l w t) (hk : k.kept = (s.link n).kept) : s.Probes n l w t :=
  { h with
    kept := h.kept.trans (by rw [State.link_setLink, if_pos rfl]; exact hk)
    links := fun m hm => (h.links m hm).trans (by rw [State.link_setLink, if_neg hm]) }

theorem State.beginSweep_probes (s : State) (n : SlotNo) (l : LaneNo) (mode : Mode) (h : (s.slot n).lane = some l) :
    s.Probes n l (s.freshSweep n mode) (s.beginSweep l n mode) := by
  rw [State.beginSweep_eq]
  exact State.Probes.of_setLink (State.continueSweep_probes _ n l _ h) rfl

theorem State.failVerify_probes (s : State) (n : SlotNo) (l : LaneNo) (r : FailReason) (h : (s.slot n).lane = some l) :
    ∃ w, s.Probes n l w (s.failVerify l n r) :=
  ⟨_, State.Probes.of_setSlot (State.beginSweep_probes _ n l .full (by rw [State.slot_setSlot, if_pos rfl]; exact h))⟩

theorem State.bindLane_probes (s : State) (n : SlotNo) (l : LaneNo) : ∃ w, s.Probes n l w (s.bindLane n l) := by
  have hl (c : SlotContext) (hc : c.lane = some l) : ((s.setSlot n c).slot n).lane = some l := by
    rw [State.slot_setSlot, if_pos rfl, hc]
  unfold State.bindLane State.startSweep
  split
  · exact ⟨_, State.Probes.of_setSlot (State.beginSweep_probes _ n l _ (hl _ rfl))⟩
  · split
    · exact ⟨_, State.Probes.of_setSlot (State.beginSweep_probes _ n l _ (hl _ rfl))⟩
    · obtain ⟨w, hw⟩ := State.failVerify_probes
        (s.setSlot n { s.slot n with state := .training, lane := some l }) n l .noEdge (hl _ rfl)
      exact ⟨w, State.Probes.of_setSlot hw⟩

theorem LinksOk.of_probes {s t : State} (h : LinksOk s) {n : SlotNo} {l : LaneNo} {w : Sweep}
    (hout : ¬s.InService n) (haway : s.departing n = false) (hlane : ∀ m, n ≠ m → (s.slot m).lane ≠ some l)
    (k : s.Probes n l w t) : LinksOk t := by
  obtain ⟨x, hx, hw⟩ := k.exchange
  refine h.relink hout haway k.kept (fun y hy => ?_) (fun _ => by rw [hx]; rfl) (fun m hm => by rw [k.slots m hm])
    (fun m hm => by rw [k.links m hm]) (fun m hm j hj => ?_) k.notices k.por
  · obtain rfl := Option.some.inj (hx.symm.trans hy)
    exact (State.fits_probe hw).mpr ⟨l, w, ⟨k.held, by rw [k.lane, if_pos rfl]⟩, rfl⟩
  · rw [k.lane, if_neg]
    rintro rfl
    exact hlane m hm hj

theorem LinksOk.endProbe {s : State} (h : WorkOk s) (n : SlotNo) {l : LaneNo} {w : Sweep} (hs : s.Sweeping n l w)
    (bit : Bool) : LinksOk (s.endProbe n bit) := by
  have ht : (s.slot n).state = .training := (h.lanes.training n).mp (by rw [hs.1]; rfl)
  obtain ⟨hout, haway⟩ := h.links.departures.out_of_service (.inl ht)
  have hlane : ∀ m, n ≠ m → (s.slot m).lane ≠ some l := fun m hm hml => h.lanes.lane_ne hm hs.1 hml rfl
  have probe {t : State} {v : Sweep} (k : (s.freeLink n).Probes n l v t) : LinksOk t :=
    h.links.of_probes hout haway hlane (State.Probes.of_setLink k rfl)
  have fail (md : Mode) (r : FailReason) : LinksOk ((s.freeLink n).failSweep l n md r) := by
    unfold State.failSweep
    split
    · obtain ⟨v, hv⟩ := State.failVerify_probes (s.freeLink n) n l r hs.1
      exact probe hv
    · exact (WorkOk.keptBySlotMoves.failTraining ht r h).links
  have lock (v : Sweep) (low high : Tap) : LinksOk ((s.freeLink n).lockSweep n v low high) := by
    obtain ⟨x, hx, hw⟩ : ∃ x, (((s.freeLink n).lockSweep n v low high).link n).exchange = some x ∧
      x.work = .identityQuery := State.exchange_send _ n _ _
    have hslot := (s.freeLink n).slot_lockSweep n n v low high
    rw [if_pos rfl] at hslot
    refine h.links.relink hout haway ?_ (fun y hy => ?_) (fun _ => by rw [hx]; rfl) (fun m hm => ?_) (fun m hm => ?_)
      (fun m hm k hk => ?_) (by simp) (by simp)
    · simp [State.lockSweep, State.enterIdentify]
    · obtain rfl := Option.some.inj (hx.symm.trans hy)
      exact (State.fits_identityQuery hw).mpr (by rw [hslot])
    · rw [State.slot_lockSweep, if_neg hm]
      rfl
    · simp only [State.lockSweep, State.enterIdentify, State.link_send_ne _ hm, State.tuneLink, State.link_setLink,
        if_neg hm, State.link_setSlot, State.releaseLane_leaves, State.raiseDrift_leaves, State.freeLink]
    · rw [State.lane_lockSweep, if_neg]
      · rfl
      · exact fun e => h.lanes.lane_ne hm e hk rfl
  unfold State.endProbe
  rw [State.sweepOf_eq_some.mpr hs]
  dsimp only
  unfold State.sampled
  split
  · exact probe (State.continueSweep_probes _ n l _ hs.1)
  split
  · exact probe (State.continueSweep_probes _ n l _ hs.1)
  unfold State.concludeSweep
  split
  · exact fail _ _
  · split
    · exact fail _ _
    · exact lock _ _ _

/-! ## Grants -/

/-- What remains of the notices once a Link Unit has taken its slot's departure. -/
def State.dropLinkDeparture (s : State) (n : SlotNo) : State :=
  { s with notices := { s.notices with departLink := s.notices.departLink.erase n } }

/-- A Link Unit that has taken the departure of its slot holds nothing of LINKED. -/
theorem LinksOk.depart {s : State} (hl : LanesOk s) (h : LinksOk s) {n : SlotNo} (hn : n ∈ s.notices.departLink) :
    LinksOk ((s.dropLinkDeparture n).setLink n (s.link n).depart) := by
  obtain ⟨ho, hc, ha⟩ := h.departures
  obtain ⟨ht, hi, hlk⟩ := ha n (by simp [State.departing, hn])
  have hself : ((s.dropLinkDeparture n).setLink n (s.link n).depart).link n = (s.link n).depart := by
    rw [State.link_setLink, if_pos rfl]
  have hnone : (s.link n).depart.exchange = none := by
    refine Option.eq_none_iff_forall_ne_some.mpr fun x hx => ?_
    obtain ⟨hx, hof⟩ := Option.filter_eq_some_iff.mp hx
    rw [(((h.each n).fits x hx).ofLinked hl ⟨ht, hi⟩).1] at hof
    cases hof
  refine h.one n (fun _ _ => rfl) (fun m e => by rw [State.link_setLink, if_neg e]; rfl) (fun _ _ _ _ => rfl)
    (fun m e => List.mem_erase_of_ne (Ne.symm e)) rfl (.of_kept (by rw [hself]; rfl) (fun x hx => ?_)
    fun e => (e.elim ht hi).elim) ⟨ho.erase n, hc, fun m hm => ha m ?_⟩
  · rw [hself, hnone] at hx
    cases hx
  · simp only [State.departing, Bool.or_eq_true, List.contains_eq_mem, decide_eq_true_eq] at hm ⊢
    exact hm.imp_left List.mem_of_mem_erase

theorem WorkOk.departLink {s : State} (h : WorkOk s) {n : SlotNo} (hn : n ∈ s.notices.departLink) :
    WorkOk (s.departLink n) := by
  refine WorkOk.keptByMoves.handBackAll n _ ⟨?_, ?_⟩
  · exact h.lanes.congr (fun m => by simp) fun l => by simp
  · have hd := h.links.depart h.lanes hn
    exact hd.congr (fun m => by simp [State.dropLinkDeparture]) (fun m => by simp [State.dropLinkDeparture])
      (fun l => by simp [State.dropLinkDeparture]) (by simp [State.dropLinkDeparture])
      (by simp [State.dropLinkDeparture]) (by simp [State.dropLinkDeparture])

theorem WorkOk.finishLink {s : State} (h : WorkOk s) (n : SlotNo) : WorkOk (s.finishLink n) := by
  unfold State.finishLink
  split
  · rename_i hn
    exact h.departLink (by simpa using hn)
  · exact h

theorem State.notices_departLink (s : State) (n : SlotNo) :
    (s.departLink n).notices.departLink = s.notices.departLink.erase n := by
  unfold State.departLink
  rw [foldl_leaves (fun t : State => t.notices) (fun s o => by simp)]
  simp

theorem DeparturesOk.not_mem_finishLink {s : State} (h : DeparturesOk s) (n : SlotNo) :
    n ∉ (s.finishLink n).notices.departLink := by
  unfold State.finishLink
  split
  · rw [State.notices_departLink]
    exact h.link_once.not_mem_erase
  · rename_i hn
    simpa using hn

theorem DeparturesOk.not_mem_finishCircuits {s : State} (h : DeparturesOk s) (n : SlotNo) :
    n ∉ (s.finishCircuits n).notices.departCircuits := by
  unfold State.finishCircuits
  split
  · rw [State.departCircuits_parkSlot]
    exact h.circuits_once.not_mem_erase
  · rename_i hn
    simpa using hn

theorem WorkOk.finishDeparture {s : State} (h : WorkOk s) (n : SlotNo) : WorkOk (s.finishDeparture n) :=
  WorkOk.keptByMoves.finishCircuits n (WorkOk.keptByMoves.finishSags (h.finishLink n))

/-- A grant's winner has taken both its departure notices. -/
theorem WorkOk.departing_finishDeparture {s : State} (h : WorkOk s) (n : SlotNo) :
    (s.finishDeparture n).departing n = false := by
  have hl : (s.finishDeparture n).notices.departLink = (s.finishLink n).notices.departLink := by
    simp [State.finishDeparture]
  have h1 := h.links.departures.not_mem_finishLink n
  have h2 := (WorkOk.keptByMoves.finishSags (h.finishLink n)).links.departures.not_mem_finishCircuits n
  rw [← hl] at h1
  simpa [State.departing] using ⟨h1, h2⟩

theorem WorkOk.grant {s : State} (h : WorkOk s) {n : SlotNo} {l : LaneNo} (hd : s.grantDue = some (n, l)) :
    LinksOk (s.grant n l) := by
  obtain ⟨hw, hidle⟩ := State.grantDue_iff.mp hd
  have hstate : ((s.finishDeparture n).slot n).state = .pending := by simpa using State.grantWinner_waits hw
  have haway := h.departing_finishDeparture n
  have hf := h.finishDeparture n
  obtain ⟨w, k⟩ := (s.finishDeparture n).bindLane_probes n l
  refine hf.links.of_probes (n := n) (fun hi => ?_) haway (fun m _ hm => ?_) k
  · rcases hi with e | e
    · rw [hstate] at e
      cases e
    · simp [State.departing, e] at haway
  · obtain ⟨v, hv, -⟩ := hf.lanes.bound m l hm
    have hl := State.idleLane_idle hidle
    rw [show (s.finishDeparture n).lane l = s.lane l by simp, hl] at hv
    cases hv

end Sys2Proof.Machine
end

section
/-! The Link Units, continued: the exchanges of a LINKED slot begin, are repeated and end (R72, R73, R79, R80, R82 to
R84), the sag notices that the Circuit Table takes late (R105), and the relations over every command. -/

namespace Sys2Proof.Machine

/-! ## One link written -/

/-- The clauses for a link that has been written, over what was written. -/
theorem LinkOk.of_setLink {s : State} {n : SlotNo} {l : LinkUnit}
    (fits : ∀ x, l.exchange = some x → (s.setLink n l).ExchangeFits n x)
    (busy : s.por = false → (s.slot n).state = .training ∨ (s.slot n).state = .identify → l.exchange.isSome = true)
    (orders : l.orders ≠ [] → s.InService n) (window : l.window.isSome = true → s.InService n)
    (loss : l.lossDeclared = true → s.InService n ∧ l.exchange = none) (tail : ∀ o ∈ l.orders.tail, o.inFlight = false)
    (head : s.por = false → headInFlight l.orders = true → ∃ x o, l.exchange = some x ∧ x.work = .order o)
    (flight : s.por = false → ∀ w, l.window = some w → w.inFlight = true →
      ∃ x, l.exchange = some x ∧ x.work = .register w.op w.index) : LinkOk (s.setLink n l) n := by
  have hself : (s.setLink n l).link n = l := by rw [State.link_setLink, if_pos rfl]
  constructor <;> rw [hself]
  case fits => exact fits
  case busy => exact busy
  case orders_service => exact orders
  case window_service => exact window
  case loss_service => exact loss
  case tail_waiting => exact tail
  case head_flight => exact head
  case window_flight => exact flight

theorem LinksOk.setLink {s : State} (h : LinksOk s) {n : SlotNo} {l : LinkUnit} (hn : LinkOk (s.setLink n l) n) :
    LinksOk (s.setLink n l) :=
  h.one n (fun _ _ => rfl) (fun m e => by rw [State.link_setLink, if_neg e]) (fun _ _ _ _ => rfl)
    (fun _ _ => Iff.rfl) rfl
    hn ⟨h.departures.link_once, h.departures.circuits_once, h.departures.away⟩

/-- The path and the journal are not read. -/
theorem LinksOk.of_links {s t : State} (h : LinksOk s) (hs : ∀ n, t.slot n = s.slot n) (hk : ∀ n, t.link n = s.link n)
    (hl : ∀ l, t.lane l = s.lane l) (hn : t.notices = s.notices) (hp : t.por = s.por) : LinksOk t :=
  h.congr (fun n => by rw [hs]) (fun n => by rw [hk]) hl (by rw [hn]) (by rw [hn]) hp

section
variable {s : State} {n : SlotNo} {x : Exchange}

/-- A slot with an order or a register exchange in flight is in service. -/
theorem LinkOk.service_of_order (h : LinkOk s n) {o : Order} (hx : (s.link n).exchange = some x)
    (hw : x.work = .order o) : s.InService n := ((State.fits_order hw).mp (h.fits x hx)).2.2

theorem LinkOk.service_of_register (h : LinkOk s n) {op : RegisterOp} {k : BitVec 10}
    (hx : (s.link n).exchange = some x)
    (hw : x.work = .register op k) : s.InService n := ((State.fits_register hw).mp (h.fits x hx)).1

theorem markHead_tail (b : Bool) (l : List Order) : (markHead b l).tail = l.tail := by
  cases l <;> rfl

/-! ## Exchanges that end -/

/-- An order completed leaves the head of the list, and no other is in flight (R80). -/
theorem LinksOk.completeOrder (h : LinksOk s) {o : Order} (hx : (s.link n).exchange = some x) (hw : x.work = .order o) :
    LinksOk (s.completeOrder n) := by
  have hn := h.each n
  have hi := hn.service_of_order hx hw
  refine h.setLink (.of_setLink nofun (fun _ e => ?_) (fun _ => hi) (fun _ => hi) (fun _ => ⟨hi, rfl⟩) (fun o ho => ?_)
    (fun _ e => ?_) fun hp w hwin hf => ?_)
  · exact (e.elim (h.departures.not_working hi).1 (h.departures.not_working hi).2).elim
  · exact hn.tail_waiting o (List.mem_of_mem_tail ho)
  · cases ht : (s.link n).orders.tail with
    | nil =>
      rw [ht] at e
      cases e
    | cons a rest =>
      rw [ht, headInFlight_cons, hn.tail_waiting a (by rw [ht]; exact List.mem_cons_self ..)] at e
      cases e
  · obtain ⟨y, hy, hyw⟩ := hn.window_flight hp w hwin hf
    obtain rfl := Option.some.inj (hx.symm.trans hy)
    rw [hw] at hyw
    cases hyw

/-- A register exchange ended with its window request (R83). -/
theorem LinksOk.dropWindow (h : LinksOk s) {op : RegisterOp} {k : BitVec 10} (hp : s.por = false)
    (hx : (s.link n).exchange = some x) (hw : x.work = .register op k) : LinksOk (s.dropWindow n) := by
  have hn := h.each n
  have hi := hn.service_of_register hx hw
  have hset : LinksOk (s.setLink n { s.link n with exchange := none, window := none }) := by
    refine h.setLink (.of_setLink nofun (fun _ e => ?_) hn.orders_service nofun (fun _ => ⟨hi, rfl⟩) hn.tail_waiting
      (fun _ e => ?_) nofun)
    · exact (e.elim (h.departures.not_working hi).1 (h.departures.not_working hi).2).elim
    · obtain ⟨y, o, hy, hyw⟩ := hn.head_flight hp e
      obtain rfl := Option.some.inj (hx.symm.trans hy)
      rw [hw] at hyw
      cases hyw
  exact hset.of_links (fun _ => rfl) (fun _ => rfl) (fun _ => rfl) rfl rfl

theorem LinksOk.endWindow (h : LinksOk s) {op : RegisterOp} {k : BitVec 10} (hp : s.por = false)
    (hx : (s.link n).exchange = some x) (hw : x.work = .register op k) (w : WindowRequest) (a : CycleAnswer) :
    LinksOk (s.endWindow n w a) := by
  have hd := h.dropWindow hp hx hw
  unfold State.endWindow
  split
  · exact hd.of_links (fun _ => rfl) (fun _ => rfl) (fun _ => rfl) rfl rfl
  · exact hd

theorem LinksOk.failWindow (h : LinksOk s) {op : RegisterOp} {k : BitVec 10} (hp : s.por = false)
    (hx : (s.link n).exchange = some x) (hw : x.work = .register op k) (w : WindowRequest) (r : BitVec 8) :
    LinksOk (s.failWindow n w r) :=
  LinksOk.endWindow (h.of_links (fun _ => by simp) (fun _ => by simp) (fun _ => by simp) (by simp) (by simp))
    (by simpa using hp) (by simpa using hx) hw w _

/-- Link loss declared: the order at the head is no longer in flight (R82, log entry 25). -/
theorem LinksOk.declareLoss (h : LinksOk s) {o : Order} (hx : (s.link n).exchange = some x) (hw : x.work = .order o) :
    LinksOk (s.declareLoss n) := by
  have hn := h.each n
  have hi := hn.service_of_order hx hw
  refine h.setLink (.of_setLink nofun (fun _ e => ?_) (fun _ => hi) (fun _ => hi)
    (fun _ => ⟨hi, rfl⟩) ?_ (fun _ e => ?_)
    fun hp w hwin hf => ?_)
  · exact (e.elim (h.departures.not_working hi).1 (h.departures.not_working hi).2).elim
  · rw [markHead_tail]
    exact hn.tail_waiting
  · cases ho : (s.link n).orders with
    | nil =>
      rw [ho] at e
      cases e
    | cons a rest =>
      rw [ho] at e
      cases e
  · obtain ⟨y, hy, hyw⟩ := hn.window_flight hp w hwin hf
    obtain rfl := Option.some.inj (hx.symm.trans hy)
    rw [hw] at hyw
    cases hyw

/-! ## Exchanges that begin -/

/-- The same request sent again fits where it did (R73). -/
theorem LinksOk.resend (h : LinksOk s) : LinksOk (s.resend n) := by
  unfold State.resend
  split
  · rename_i x hx
    obtain ⟨fits, busy, orders, window, loss, tail, head, flight⟩ := h.each n
    have hself {l : LinkUnit} : (s.setLink n l).link n = l := by rw [State.link_setLink, if_pos rfl]
    refine h.setLink (.of_setLink (fun y hy => ?_) (fun _ _ => rfl) orders window (fun e => ?_) tail (fun hp e => ?_)
      fun hp w hw hf => ?_)
    · obtain rfl := Option.some.inj hy
      exact (fits x hx).congr rfl rfl (fun _ _ => rfl) (by rw [hself]; rfl) (by rw [hself]; rfl) id
    · rw [(loss e).2] at hx
      cases hx
    · obtain ⟨y, o, hy, hyw⟩ := head hp e
      obtain rfl := Option.some.inj (hx.symm.trans hy)
      exact ⟨_, o, rfl, hyw⟩
    · obtain ⟨y, hy, hyw⟩ := flight hp w hw hf
      obtain rfl := Option.some.inj (hx.symm.trans hy)
      exact ⟨_, rfl, hyw⟩
  · exact h

theorem State.linkChooses_iff : s.linkChooses n = true ↔
    (s.slot n).state = .linked ∧ (s.link n).exchange = none ∧ (s.link n).lossDeclared = false := by
  simp [State.linkChooses, State.linked_iff, and_assoc]

/-- A free link has no order and no window request in flight. -/
theorem LinkOk.waiting_of_free (h : LinkOk s n) (hp : s.por = false) (hx : (s.link n).exchange = none) :
    headInFlight (s.link n).orders = false ∧ ∀ w, (s.link n).window = some w → w.inFlight = false := by
  refine ⟨Bool.eq_false_of_not_eq_true fun e => ?_, fun w hw => Bool.eq_false_of_not_eq_true fun e => ?_⟩
  · obtain ⟨y, -, hy, -⟩ := h.head_flight hp e
    rw [hx] at hy
    cases hy
  · obtain ⟨y, hy, -⟩ := h.window_flight hp w hw e
    rw [hx] at hy
    cases hy

theorem LinksOk.startWindow (h : LinksOk s) (hp : s.por = false) (hc : s.linkChooses n = true)
    (w : WindowRequest) : LinksOk (s.startWindow n w) := by
  obtain ⟨hl, hx, hloss⟩ := State.linkChooses_iff.mp hc
  have hn := h.each n
  have hfree := hn.waiting_of_free hp hx
  have hi : s.InService n := .inl hl
  unfold State.startWindow State.send
  rw [State.setLink_setLink, State.link_setLink, if_pos rfl]
  refine h.setLink (.of_setLink (fun y hy => ?_) (fun _ _ => rfl) (fun _ => hi) (fun _ => hi) (fun e => ?_)
    hn.tail_waiting (fun _ e => ?_) fun _ v hv _ => ?_)
  · obtain rfl := Option.some.inj hy
    refine (State.fits_register rfl).mpr ⟨hi, { w with inFlight := true }, ?_, rfl, rfl, rfl⟩
    rw [State.link_setLink, if_pos rfl]
    rfl
  · rw [show (s.link n).lossDeclared = true from e] at hloss
    cases hloss
  · rw [show headInFlight (s.link n).orders = true from e] at hfree
    cases hfree.1
  · obtain rfl := Option.some.inj hv
    exact ⟨_, rfl, rfl⟩

theorem LinksOk.startOrder (h : LinksOk s) (hc : s.linkChooses n = true) {o : Order}
    {rest : List Order} (hw : (s.link n).window = none) (ho : (s.link n).orders = o :: rest) :
    LinksOk (s.startOrder n o) := by
  obtain ⟨hl, hx, hloss⟩ := State.linkChooses_iff.mp hc
  have hn := h.each n
  have hi : s.InService n := .inl hl
  unfold State.startOrder State.send
  rw [State.setLink_setLink, State.link_setLink, if_pos rfl]
  refine h.setLink (.of_setLink (fun y hy => ?_) (fun _ _ => rfl) (fun _ => hi) (fun _ => hi) (fun e => ?_) ?_
    (fun _ _ => ⟨_, _, rfl, rfl⟩) fun _ v hv => ?_)
  · obtain rfl := Option.some.inj hy
    refine (State.fits_order rfl).mpr ⟨rfl, ?_, hi⟩
    rw [State.link_setLink, if_pos rfl]
    show (markHead true (s.link n).orders).head? = _
    rw [ho]
    rfl
  · rw [show (s.link n).lossDeclared = true from e] at hloss
    cases hloss
  · show ∀ v ∈ (markHead true (s.link n).orders).tail, _
    rw [markHead_tail]
    exact hn.tail_waiting
  · rw [show (s.link n).window = some v from hv] at hw
    cases hw

theorem LinksOk.chooseNext (h : LinksOk s) (hp : s.por = false) (hc : s.linkChooses n = true) :
    LinksOk (s.chooseNext n) := by
  unfold State.chooseNext
  split
  · exact h.startWindow hp hc _
  · exact h.startOrder hc ‹_› ‹_›
  · exact h

/-- A window request taken by the link of a LINKED slot that holds none (R134). -/
theorem LinksOk.takeWindow (h : LinksOk s) (hl : s.linked n = true) (hw : (s.link n).window = none) (op : RegisterOp)
    (k : BitVec 10) : LinksOk (s.takeWindow n op k) := by
  obtain ⟨fits, busy, orders, window, loss, tail, head, flight⟩ := h.each n
  have hi : s.InService n := .inl (State.linked_iff.mp hl)
  have hset : LinksOk (s.setLink n
      { s.link n with window := some { op := op, index := k, inFlight := false, claimed := true } }) := by
    refine h.setLink (.of_setLink (fun x hx => ?_) busy orders (fun _ => hi) loss tail head fun _ v hv hf => ?_)
    · have hf := fits x hx
      cases hxw : x.work with
      | probe tap => exact (State.fits_probe hxw).mpr ((State.fits_probe (s := s) hxw).mp hf)
      | identityQuery => exact (State.fits_identityQuery hxw).mpr ((State.fits_identityQuery (s := s) hxw).mp hf)
      | clearOrder => exact (State.fits_clearOrder hxw).mpr ((State.fits_clearOrder (s := s) hxw).mp hf)
      | order o =>
        obtain ⟨h1, h2, h3⟩ := (State.fits_order hxw).mp hf
        exact (State.fits_order hxw).mpr ⟨h1, by rw [State.link_setLink, if_pos rfl]; exact h2, h3⟩
      | register op' k' =>
        obtain ⟨-, v, hv, -⟩ := (State.fits_register hxw).mp hf
        rw [hw] at hv
        cases hv
    · obtain rfl := Option.some.inj hv
      cases hf
  exact hset.of_links (fun _ => rfl) (fun _ => rfl) (fun _ => rfl) rfl rfl

theorem LinksOk.offerWindow (h : LinksOk s) (hwin : WindowsOk s) (hm : s.path.marker = false) (op : RegisterOp)
    (k : BitVec 10) : LinksOk (s.offerWindow n op k) := by
  unfold State.offerWindow
  split
  · exact h.takeWindow ‹_› (hwin.window_none hm n) op k
  · exact h.of_links (fun _ => rfl) (fun _ => rfl) (fun _ => rfl) rfl rfl

theorem LinksOk.accessWindow (h : LinksOk s) (hwin : WindowsOk s) (op : RegisterOp) (k : BitVec 10) :
    LinksOk (s.accessWindow n op k) := by
  unfold State.accessWindow
  split
  · exact h.of_links (fun _ => rfl) (fun _ => rfl) (fun _ => rfl) rfl rfl
  · exact h.offerWindow hwin (Bool.eq_false_of_not_eq_true ‹_›) op k

/-! ## IDENTIFY -/

/-- LINKED entered from IDENTIFY: the link is free and holds nothing. -/
theorem LinksOk.goLinked {t : State} (h : LinksOk s) (hi : (s.slot n).state = .identify)
    (hs : ∀ m, n ≠ m → (t.slot m).work = (s.slot m).work) (hn : (t.slot n).state = .linked)
    (hk : ∀ m, n ≠ m → t.link m = s.link m) (hkept : (t.link n).kept = (s.link n).kept)
    (hx : (t.link n).exchange = none) (hl : ∀ l, t.lane l = s.lane l) (hnot : t.notices = s.notices)
    (hp : t.por = s.por) : LinksOk t := by
  obtain ⟨hout, haway⟩ := h.departures.out_of_service (.inr hi)
  refine h.relink hout haway hkept (fun x e => ?_) (fun e => ?_) hs (fun m hm => by rw [hk m hm]) (fun _ _ l _ => hl l)
    hnot hp
  · rw [hx] at e
    cases e
  · rw [hn] at e
    rcases e with e | e <;> cases e

theorem WorkOk.identified (h : WorkOk s) (hi : (s.slot n).state = .identify) (t r : BitVec 16) :
    LinksOk (s.identified n t r) := by
  have hne {m : SlotNo} (hm : n ≠ m) : (s.freeLink n).link m = s.link m := by
    rw [State.freeLink, State.link_setLink, if_neg hm]
  have hfree : ((s.freeLink n).link n).exchange = none := by rw [State.freeLink, State.link_setLink, if_pos rfl]
  unfold State.identified
  dsimp only
  split
  · split
    · refine h.links.goLinked hi (fun m hm => ?_) ?_ (fun m hm => hne hm) (by simp [State.recordIdentity]) hfree
        (fun _ => rfl) rfl rfl
      · simp [State.goLinked, State.recordIdentity, State.freeLink, hm]
      · simp [State.goLinked]
    · rename_i hmode
      obtain ⟨hout, haway⟩ := h.links.departures.out_of_service (.inr hi)
      obtain ⟨x, hx, hw⟩ := ((s.freeLink n).recordIdentity n t r).exchange_send n .clearOrder false
      refine h.links.relink hout haway (by simp [State.recordIdentity]) (fun y hy => ?_) (fun _ => by rw [hx]; rfl)
        (fun m hm => ?_) (fun m hm => ?_) (fun _ _ _ _ => by simp) (by simp) (by simp)
      · obtain rfl := Option.some.inj (hx.symm.trans hy)
        exact (State.fits_clearOrder hw).mpr (by simp [State.recordIdentity, State.freeLink, hi, hmode])
      · simp [State.recordIdentity, State.freeLink, hm]
      · rw [State.link_send_ne _ hm]
        exact congrArg LinkUnit.held (hne hm)
  · exact (WorkOk.keptBySlotMoves.mismatch hi t r h).links

end

/-! ## Which exchange a result ends -/

section
variable {s : State} {n : SlotNo}

theorem State.answeredOrder_exchange {k : OrderKind} {tag : BitVec 8} {c : FrameContent} {o : Order}
    (h : s.answeredOrder n k tag c = some o) : ∃ x, (s.link n).exchange = some x ∧ x.work = .order o ∧ o.kind = k := by
  unfold State.answeredOrder at h
  split at h
  · rename_i x hx
    split at h
    · rename_i o' hw
      split at h
      · rename_i hk
        cases h
        exact ⟨x, hx, hw, hk.1⟩
      · cases h
    · cases h
  · cases h

theorem State.windowReply_exchange {tag : BitVec 8} {c : FrameContent} {w : WindowRequest}
    (h : s.windowReply n tag c = some w) : ∃ x op k, (s.link n).exchange = some x ∧ x.work = .register op k := by
  unfold State.windowReply at h
  split at h
  · rename_i x hx
    split at h
    · rename_i op k hw
      exact ⟨x, op, k, hx, hw⟩
    · cases h
  · cases h

theorem State.windowTimeout_exchange {w : WindowRequest} (h : s.windowTimeout n = some w) :
    ∃ x op k, (s.link n).exchange = some x ∧ x.work = .register op k := by
  unfold State.windowTimeout at h
  split at h
  · rename_i x hx
    split at h
    · rename_i op k hw
      exact ⟨x, op, k, hx, hw⟩
    · cases h
  · cases h

theorem State.lossDue_exchange (h : s.lossDue n = true) : ∃ x o, (s.link n).exchange = some x ∧ x.work = .order o := by
  unfold State.lossDue at h
  split at h
  · rename_i x hx
    cases hw : x.work with
    | order o => exact ⟨x, o, hx, hw⟩
    | probe tap => simp [hw, Work.isOrder] at h
    | identityQuery => simp [hw, Work.isOrder] at h
    | clearOrder => simp [hw, Work.isOrder] at h
    | register op k => simp [hw, Work.isOrder] at h
  · cases h

theorem State.sampleTaken_exchange {tag : BitVec 8} {bit : Bool} (h : s.sampleTaken n tag bit = true) :
    ∃ x tap, (s.link n).exchange = some x ∧ x.work = .probe tap := by
  obtain ⟨x, hx, -, hc⟩ := LinkUnit.takesReply_iff.mp h
  obtain ⟨tap, hw⟩ := completes_sample.mp hc
  exact ⟨x, tap, hx, hw⟩

theorem State.probeDue_exchange (h : s.probeDue n = true) :
    ∃ x tap, (s.link n).exchange = some x ∧ x.work = .probe tap := by
  unfold State.probeDue at h
  split at h
  · rename_i x hx
    obtain ⟨tap, hw⟩ := completes_sample.mp (Bool.and_eq_true_iff.mp h).1
    exact ⟨x, tap, hx, hw⟩
  · cases h

/-- A probe in flight is of the sweep on its slot's lane. -/
theorem LinkOk.sweeping (h : LinkOk s n) {x : Exchange} {tap : Tap} (hx : (s.link n).exchange = some x)
    (hw : x.work = .probe tap) : ∃ l w, s.Sweeping n l w := by
  obtain ⟨l, w, hs, -⟩ := (State.fits_probe hw).mp (h.fits x hx)
  exact ⟨l, w, hs⟩

end

/-! ## Resets -/

theorem LinksOk.reset : LinksOk State.reset where
  each n := by
    refine .of_kept ?_ ?_ ?_
    · rw [State.link_reset]
      rfl
    · rw [State.link_reset]
      nofun
    · rw [State.slot_reset]
      exact fun e => (e.elim (nofun : SlotState.empty = .training → False)
        (nofun : SlotState.empty = .identify → False)).elim
  departures := ⟨List.nodup_nil, List.nodup_nil, nofun⟩

theorem LinksOk.assertPowerOn {s : State} (h : LinksOk s) : LinksOk s.assertPowerOn := by
  refine ⟨fun n => ?_, ⟨h.departures.link_once, h.departures.circuits_once, fun n hn => ?_⟩⟩
  · have hstate : (s.assertPowerOn.slot n).state = (s.slot n).state := by simp [SlotContext.releaseOutput]
    have hi : s.assertPowerOn.InService n ↔ s.InService n := by rw [State.InService, State.InService, hstate]; rfl
    obtain ⟨fits, busy, orders, window, loss, tail, head, flight⟩ := h.each n
    constructor <;> simp only [State.link_assertPowerOn, LinkUnit.silence, hi]
    case fits => nofun
    case busy => nofun
    case orders_service => exact orders
    case window_service => exact window
    case loss_service => exact fun e => ⟨(loss e).1, trivial⟩
    case tail_waiting => exact tail
    case head_flight => nofun
    case window_flight => nofun
  · have := h.departures.away n hn
    simpa [SlotContext.releaseOutput] using this

theorem LinksOk.resetController {s : State} (h : LinksOk s) : LinksOk s.resetController := by
  refine ⟨fun n => ?_, ⟨h.departures.link_once, h.departures.circuits_once, h.departures.away⟩⟩
  obtain ⟨fits, busy, orders, window, loss, tail, head, flight⟩ := h.each n
  constructor <;> simp only [State.link_resetController, LinkUnit.unclaim]
  case fits =>
    intro x hx
    have hf := fits x hx
    cases hw : x.work with
    | probe tap => exact (State.fits_probe hw).mpr ((State.fits_probe (s := s) hw).mp hf)
    | identityQuery => exact (State.fits_identityQuery hw).mpr ((State.fits_identityQuery (s := s) hw).mp hf)
    | clearOrder => exact (State.fits_clearOrder hw).mpr ((State.fits_clearOrder (s := s) hw).mp hf)
    | order o =>
      obtain ⟨h1, h2, h3⟩ := (State.fits_order hw).mp hf
      exact (State.fits_order hw).mpr ⟨h1, by rw [State.link_resetController]; exact h2, h3⟩
    | register op k =>
      obtain ⟨h1, w, h2, h3⟩ := (State.fits_register hw).mp hf
      refine (State.fits_register hw).mpr ⟨h1, { w with claimed := false }, ?_, h3⟩
      rw [State.link_resetController, LinkUnit.unclaim, h2]
      rfl
  case busy => exact busy
  case orders_service => exact orders
  case window_service => exact fun e => window (by simpa using e)
  case loss_service => exact loss
  case tail_waiting => exact tail
  case head_flight => exact head
  case window_flight =>
    intro hp w hw hf
    obtain ⟨v, hv, rfl⟩ := Option.map_eq_some_iff.mp hw
    exact flight hp v hv hf

/-! ## Every command -/

theorem WorkOk.congr {s t : State} (h : WorkOk s) (hs : ∀ n, (t.slot n).work = (s.slot n).work)
    (hk : ∀ n, t.link n = s.link n) (hl : ∀ l, t.lane l = s.lane l) (hdl : t.notices.departLink = s.notices.departLink)
    (hdc : t.notices.departCircuits = s.notices.departCircuits) (hp : t.por = s.por) : WorkOk t :=
  ⟨h.lanes.congr hs hl, h.links.congr hs (fun n => by rw [hk]) hl hdl hdc hp⟩

theorem WorkOk.takeRelinkAll {s : State} (h : WorkOk s) : WorkOk s.takeRelinkAll := by
  refine h.congr s.work_takeRelinkAll (fun _ => by simp) (fun _ => by simp) ?_ ?_ (by simp)
  all_goals
    unfold State.takeRelinkAll
    split <;> rfl

theorem WorkOk.railLow {s : State} (h : WorkOk s) : WorkOk s.railLow := by
  refine h.congr s.work_railLow (fun _ => by simp) (fun _ => by simp) ?_ ?_ (by simp)
  all_goals
    unfold State.railLow
    dsimp only
    split <;> rfl

theorem WorkOk.writeShadow {s : State} (h : WorkOk s) (w : ShadowWord) (d : Word) (e : ByteEnables) :
    WorkOk (s.writeShadow w d e) := by
  refine State.writeShadow_keeps ⟨?_, ?_, ?_, ?_, ?_, ?_⟩ WorkOk.keptBySlotMoves.slotRequests
    WorkOk.keptByMoves.requestWrites (fun _ h => h.takeRelinkAll) h w d e
  all_goals
    intros
    rename_i h
    exact h.congr (fun _ => by simp) (fun _ => by simp) (fun _ => by simp) (by simp) (by simp) (by simp)

theorem LinksOk.answered {s : State} (h : LinksOk s) (a : CycleAnswer) : LinksOk (s.answered a) :=
  h.of_links (fun _ => rfl) (fun _ => rfl) (fun _ => rfl) rfl rfl

/-- The result of an order: the entry reached, the order off the list, and the table's moves. -/
theorem WorkOk.orderEnded {s : State} (h : WorkOk s) {n : SlotNo} {k : OrderKind} {tag : BitVec 8} {c : FrameContent}
    {o : Order} (ho : s.answeredOrder n k tag c = some o) : WorkOk ((s.reachEntry o.entry).completeOrder n) := by
  obtain ⟨x, hx, hw, -⟩ := State.answeredOrder_exchange ho
  have hr := WorkOk.keptByMoves.reachEntry o.entry h
  have hxr : ((s.reachEntry o.entry).link n).exchange = some x := by
    rw [← hx]
    rcases s.reachEntry_cases o.entry with e | ⟨m, -, -, -, e⟩ <;> rw [e]
    exact (s.parkSlot_moves m).exchange n
  exact ⟨hr.lanes.congr (fun _ => rfl) fun _ => rfl, hr.links.completeOrder hxr hw⟩

theorem LinksOk.of_effect {c : Instr} {s t : State} (hk : LinksOk s) (hl : LanesOk s) (hwin : WindowsOk s)
    (he : Effect s t c) (hc : ∀ n f, c ≠ .discardedFrame n f) : LinksOk t := by
  have h : WorkOk s := ⟨hl, hk⟩
  have slots := WorkOk.keptBySlotMoves
  have table := WorkOk.keptByMoves
  cases c
  case powerOnReset a f =>
    subst he
    exact LinksOk.reset.congr (fun _ => rfl) (fun _ => rfl) (fun _ => rfl) rfl rfl rfl
  case powerOnResetAsserted => exact he ▸ hk.assertPowerOn
  case controllerReset =>
    rcases he with ⟨-, rfl⟩ | ⟨-, rfl⟩
    · exact hk.of_links (fun _ => rfl) (fun _ => rfl) (fun _ => rfl) rfl rfl
    · exact hk.resetController
  case railDeclaredLow =>
    obtain ⟨-, -, rfl⟩ := he
    exact h.railLow.links
  case cardGoodDeclaredGood n =>
    obtain ⟨-, -, rfl⟩ := he
    have hd : WorkOk (s.declareCard n .good) := h.congr (fun _ => rfl) (fun _ => rfl) (fun _ => rfl) rfl rfl rfl
    exact (slots.cardArrives n hd).links
  case cardGoodDeclaredLow n =>
    obtain ⟨-, -, rfl⟩ := he
    have hd : WorkOk (s.declareCard n .low) := h.congr (fun _ => rfl) (fun _ => rfl) (fun _ => rfl) rfl rfl rfl
    exact (slots.cardLeaves n hd).links
  case settleTimerExpiry =>
    obtain ⟨-, -, rfl⟩ := he
    exact hk.congr (fun _ => rfl) (fun _ => rfl) (fun _ => rfl) rfl rfl rfl
  case recoveryEnds =>
    obtain ⟨-, -, rfl⟩ := he
    exact hk.congr (fun _ => rfl) (fun _ => rfl) (fun _ => rfl) rfl rfl rfl
  case sagNoticeRestore =>
    obtain ⟨-, -, rfl⟩ := he
    exact hk.congr (fun _ => rfl) (fun _ => rfl) (fun _ => rfl) rfl rfl rfl
  case recoverNoticeRestore =>
    obtain ⟨-, -, rfl⟩ := he
    unfold State.recoverRestore
    split <;> exact hk.congr (fun _ => rfl) (fun _ => rfl) (fun _ => rfl) rfl rfl rfl
  case normalNotice =>
    obtain ⟨-, -, rfl⟩ := he
    exact hk.congr (fun _ => rfl) (fun _ => rfl) (fun _ => rfl) rfl rfl rfl
  case sagNoticeSlots =>
    obtain ⟨-, -, ht⟩ := he
    rw [ht]
    have ha := (table.takeDepartures h).congr (t := s.takeDepartures.takeSlotsNotice true) (fun _ => rfl) (fun _ => rfl)
      (fun _ => rfl) rfl rfl rfl
    exact (slots.holdSlots ha).links
  case recoverNoticeSlots =>
    obtain ⟨-, cls, -, ht⟩ := he
    rw [ht]
    have ha := h.congr (t := s.takeSlotsNotice false) (fun _ => rfl) (fun _ => rfl) (fun _ => rfl) rfl rfl rfl
    exact (slots.recoverSlots cls ha).links
  case sagNoticeCircuits =>
    obtain ⟨-, -, rfl⟩ := he
    exact (table.takeSagCircuits h).links
  case departureNoticeCircuits n =>
    obtain ⟨-, -, rfl⟩ := he
    exact (table.parkSlot n h).links
  case departureNoticeLink n =>
    obtain ⟨-, hn, rfl⟩ := he
    exact (h.departLink hn).links
  case resetPulseExpiry n =>
    obtain ⟨-, -, rfl⟩ := he
    exact (h.same (s.endPulse_same n)).links
  case bootTimeout n =>
    obtain ⟨-, -, rfl⟩ := he
    exact (slots.bootTimeout n _ h).links
  case identTimeout n =>
    obtain ⟨-, hi, rfl⟩ := he
    exact (slots.identTimeout (State.identDue_state hi) _ h).links
  case idleFrame n =>
    obtain ⟨-, -, rfl⟩ := he
    exact (slots.alive n h).links
  case linkLoss n =>
    obtain ⟨-, -, rfl⟩ := he
    exact (slots.takeLoss n h).links
  case laneGrant =>
    obtain ⟨-, n, l, hd, rfl⟩ := he
    exact h.grant hd
  case sampleReply n tag bit =>
    obtain ⟨-, hs, rfl⟩ := he
    obtain ⟨x, tap, hx, hw⟩ := State.sampleTaken_exchange hs
    obtain ⟨l, w, hsw⟩ := (hk.each n).sweeping hx hw
    exact LinksOk.endProbe h n hsw bit
  case probeTimeout n =>
    obtain ⟨-, hs, rfl⟩ := he
    obtain ⟨x, tap, hx, hw⟩ := State.probeDue_exchange hs
    obtain ⟨l, w, hsw⟩ := (hk.each n).sweeping hx hw
    exact LinksOk.endProbe h n hsw false
  case identityReply n tag type revision =>
    obtain ⟨-, hi, rfl⟩ := he
    exact h.identified (State.identityTaken_iff.mp hi).1 _ _
  case clearOrderDone n tag =>
    obtain ⟨-, hi, rfl⟩ := he
    refine hk.goLinked (State.clearTaken_iff.mp hi).1 (fun m hm => ?_) ?_ (fun m hm => ?_) (by simp) ?_ (fun _ => rfl)
      rfl rfl
    · simp [State.goLinked, State.freeLink, hm]
    · simp [State.goLinked]
    · simp [State.goLinked, State.freeLink, hm]
    · simp [State.goLinked, State.freeLink]
  case connectDone n tag =>
    obtain ⟨-, o, ho, rfl⟩ := he
    exact (table.moves (State.takeConnectDone_moves _ n o) (h.orderEnded ho)).links
  case connectRefusal n tag reason =>
    obtain ⟨-, o, ho, rfl⟩ := he
    rcases State.takeConnectRefusal_moves ((s.reachEntry o.entry).completeOrder n) n o reason with k | k
    · exact (table.moves k (h.orderEnded ho)).links
    · exact (table.moves k ((h.orderEnded ho).same (.raise _ _))).links
  case releaseResult n tag answer =>
    obtain ⟨-, o, ho, rfl⟩ := he
    exact (table.moves (State.takeReleaseEnd_moves _ n o) (h.orderEnded ho)).links
  case registerDataReply n tag data =>
    obtain ⟨hp, w, hr, rfl⟩ := he
    obtain ⟨x, op, k, hx, hw⟩ := State.windowReply_exchange hr
    exact hk.endWindow hp hx hw w _
  case registerWriteDone n tag =>
    obtain ⟨hp, w, hr, rfl⟩ := he
    obtain ⟨x, op, k, hx, hw⟩ := State.windowReply_exchange hr
    exact hk.endWindow hp hx hw w _
  case registerRefusal n tag reason =>
    obtain ⟨hp, w, hr, rfl⟩ := he
    obtain ⟨x, op, k, hx, hw⟩ := State.windowReply_exchange hr
    exact hk.failWindow hp hx hw w _
  case registerTimeout n =>
    obtain ⟨hp, w, hr, rfl⟩ := he
    obtain ⟨x, op, k, hx, hw⟩ := State.windowTimeout_exchange hr
    exact hk.failWindow hp hx hw w _
  case exchangeRetry n =>
    obtain ⟨-, -, rfl⟩ := he
    exact hk.resend
  case linkLossDeclared n =>
    obtain ⟨-, hd, rfl⟩ := he
    obtain ⟨x, o, hx, hw⟩ := State.lossDue_exchange hd
    exact hk.declareLoss hx hw
  case chooseNextExchange n =>
    obtain ⟨hp, hch, rfl⟩ := he
    exact hk.chooseNext hp hch
  case issue =>
    obtain ⟨-, i, -, -, rfl⟩ := he
    have hput : WorkOk (s.putEntry i (s.entry i).toRestoring) :=
      h.congr (fun _ => rfl) (fun _ => rfl) (fun _ => rfl) rfl rfl rfl
    exact (table.moves (s.issueEntry_moves i) hput).links
  case windowRead n k =>
    obtain ⟨-, rfl⟩ := he
    exact hk.accessWindow hwin _ k
  case windowWrite n k d m =>
    obtain ⟨-, rfl⟩ := he
    exact hk.accessWindow hwin _ k
  case deferredWindowOffer =>
    obtain ⟨-, n, op, k, -, hmark, rfl⟩ := he
    exact hk.offerWindow hwin hmark op k
  case settableWordWrite w d e =>
    obtain ⟨-, rfl⟩ := he
    exact (h.writeShadow w d e).links.answered _
  case releaseAll =>
    obtain ⟨-, rfl⟩ := he
    exact (State.takeReleaseAll_keeps table.requestWrites h).links.answered _
  case connect i f e =>
    obtain ⟨-, rfl⟩ := he
    exact (table.requestWrites.write _ i _ f e (table.reachEntry i h)).links.answered _
  case release i f e =>
    obtain ⟨-, rfl⟩ := he
    exact (table.requestWrites.write _ i _ f e (table.reachEntry i h)).links.answered _
  case noneRequest i f e =>
    obtain ⟨-, rfl⟩ := he
    exact (table.requestWrites.write _ i _ f e (table.reachEntry i h)).links.answered _
  case badRequest i e =>
    obtain ⟨-, rfl⟩ := he
    exact (table.requestWrites.bad _ i e (table.reachEntry i h)).links.answered _
  case relink n =>
    obtain ⟨-, rfl⟩ := he
    exact (slots.takeRelink n h).links.answered _
  case relinkReset n =>
    obtain ⟨-, rfl⟩ := he
    exact (slots.takeRelinkReset n h).links.answered _
  case quiesce n =>
    obtain ⟨-, rfl⟩ := he
    exact (slots.takeQuiesce n h).links.answered _
  case resume n =>
    obtain ⟨-, rfl⟩ := he
    exact (slots.takeResume n h).links.answered _
  case relinkAll =>
    obtain ⟨-, rfl⟩ := he
    exact h.takeRelinkAll.links.answered _
  case discardedFrame n f => exact absurd rfl (hc n f)
  all_goals
    simp only [Effect] at he
    try casesm* _ ∧ _, ∃ _, _
    subst_vars
    exact hk.congr (fun _ => by simp) (fun _ => by simp) (fun _ => by simp) (by simp) (by simp) (by simp)

/-! ## Sag notices that the Circuit Table takes late (R105, log entry 6) -/

/-- The relation reads the slots' states and how many sag notices are late. -/
theorem SagsOk.mono {s t : State} (h : SagsOk s) (hl : t.lateSags ≤ s.lateSags)
    (hs : ∀ n, (s.slot n).state.Away → (t.slot n).state.Away) : SagsOk t :=
  ⟨fun hlt n => hs n (h.away (Nat.lt_of_lt_of_le hlt hl) n)⟩

/-- A slot's move leads to a state that needs no lane, and every other slot stays. -/
theorem SagsOk.keptBySlotMoves : KeptBySlotMoves SagsOk where
  congr s t k h := h.mono (by rw [State.lateSags, State.lateSags, k.notices]) fun n hn => by
    rwa [show (t.slot n).state = (s.slot n).state from congrArg (·.1) (k.slot n)]
  leave s n c hc _ h := h.mono
    (by
      show (s.endWork n).lateSags ≤ _
      rw [State.lateSags, State.lateSags, State.notices_endWork]
      split <;> rfl)
    fun m hm => by
      rw [State.slot_setSlot]
      split
      · exact hc
      · rw [State.slot_endWork, if_neg ‹_›]
        exact hm

theorem SagsOk.keptByMoves : KeptByMoves SagsOk where
  move s t hm h := by cases hm <;> exact ⟨h.away⟩
  departed _ _ h := ⟨h.away⟩
  sagged s h := h.mono (by simp only [State.lateSags, State.dropSag]; omega) fun _ hn => hn

/-- With a sag notice late, no slot is in TRAINING, IDENTIFY or LINKED; with none late there is nothing to keep. -/
theorem SagsOk.of_working {s t : State} (h : SagsOk s) {n : SlotNo}
    (hn : (s.slot n).state = .training ∨ (s.slot n).state = .identify) (hl : t.lateSags = s.lateSags) : SagsOk t := by
  refine ⟨fun hlt => ?_⟩
  have ha := h.away (hl ▸ hlt) n
  exact (hn.elim ha.1 ha.2.1).elim

theorem SagsOk.of_none {t : State} (h : t.lateSags = 0) : SagsOk t := ⟨fun hlt => by
  rw [h] at hlt
  exact absurd hlt (Nat.lt_irrefl 0)⟩

theorem State.holdSlot_away (s : State) (n m : SlotNo) (h : n = m ∨ (s.slot m).state.Away) :
    ((s.holdSlot n).slot m).state.Away := by
  unfold State.holdSlot
  split
  · simp only [State.goHeld, State.slot_setSlot]
    split
    · exact ⟨nofun, nofun, nofun⟩
    · rename_i hne
      rw [State.slot_endWork, if_neg hne]
      exact h.resolve_left hne
  · rename_i hs
    rcases h with rfl | h
    · revert hs
      cases (s.slot n).state <;> simp [SlotState.sagMoves, SlotState.Away]
    · exact h

theorem mem_allSlots (n : SlotNo) : n ∈ allSlots := by
  revert n
  decide

/-- The sag notice leaves no slot in a state that needs a lane (R42). -/
theorem SagsOk.sagSlots (s : State) : SagsOk s.sagSlots := by
  have fold (m : SlotNo) : ∀ (l : List SlotNo) (u : State), m ∈ l ∨ (u.slot m).state.Away →
      ((l.foldl State.holdSlot u).slot m).state.Away := by
    intro l
    induction l with
    | nil => exact fun u h => h.resolve_left nofun
    | cons n l ih =>
      intro u h
      refine ih _ ?_
      by_cases hm : m ∈ l
      · exact .inl hm
      · refine .inr (u.holdSlot_away n m (h.imp_left fun e => ?_))
        exact ((List.mem_cons.mp e).resolve_right hm).symm
  exact ⟨fun _ n => fold n _ _ (.inl (mem_allSlots n))⟩

theorem State.lateSags_congr {s t : State} (h : t.notices = s.notices) : t.lateSags = s.lateSags := by
  rw [State.lateSags, State.lateSags, h]

/-- A sag notice sent to both is not late (R6). -/
theorem State.lateSags_sendSag (s : State) : s.sendSag.lateSags = s.lateSags := by
  simp only [State.lateSags, State.sendSag, List.count_append]
  show s.notices.circuits + 1 - (s.notices.slots.count .sag + 1) = _
  omega

/-- Another notice makes no sag notice late. -/
theorem State.lateSags_sendRecover (s : State) (cls : Classification) : (s.sendRecover cls).lateSags = s.lateSags := by
  simp [State.lateSags, State.sendRecover]

theorem SagsOk.same_work {s t : State} (h : SagsOk s) (hs : ∀ n, (t.slot n).work = (s.slot n).work)
    (hn : t.lateSags = s.lateSags) : SagsOk t := h.mono hn.le fun n ha => by
  rwa [show (t.slot n).state = (s.slot n).state from congrArg (·.1) (hs n)]

theorem SagsOk.railLow {s : State} (h : SagsOk s) : SagsOk s.railLow := by
  refine h.same_work s.work_railLow ?_
  have hnew : (s.declareRail .low).beginSag.lateSags = s.lateSags := State.lateSags_sendSag _
  unfold State.railLow
  dsimp only
  split
  · exact hnew
  · exact hnew
  · rfl
  · rfl

theorem SagsOk.takeRelinkAll {s : State} (h : SagsOk s) : SagsOk s.takeRelinkAll := by
  refine h.same_work s.work_takeRelinkAll ?_
  unfold State.takeRelinkAll
  split
  · exact (State.lateSags_sendRecover _ _).trans (State.lateSags_sendSag _)
  · rfl

theorem SagsOk.writeShadow {s : State} (h : SagsOk s) (w : ShadowWord) (d : Word) (e : ByteEnables) :
    SagsOk (s.writeShadow w d e) := by
  refine State.writeShadow_keeps ⟨?_, ?_, ?_, ?_, ?_, ?_⟩ SagsOk.keptBySlotMoves.slotRequests
    SagsOk.keptByMoves.requestWrites (fun _ h => h.takeRelinkAll) h w d e
  all_goals
    intros
    rename_i h
    exact h.same_work (fun _ => by simp) (State.lateSags_congr (by simp))

/-- The recover notice taken by the Slot Sequencer is no sag notice. -/
theorem State.lateSags_takeSlotsNotice {s : State} {cls : Classification} (h : s.slotsNotice = some (.recover cls))
    (b : Bool) : (s.takeSlotsNotice b).lateSags = s.lateSags := by
  unfold State.slotsNotice at h
  unfold State.lateSags State.takeSlotsNotice
  cases hq : s.notices.slots with
  | nil =>
    rw [hq] at h
    cases h
  | cons a rest =>
    rw [hq] at h
    cases h
    simp

theorem SagsOk.endProbe {s : State} (h : SagsOk s) (hl : LanesOk s) (n : SlotNo) (bit : Bool) :
    SagsOk (s.endProbe n bit) := by
  cases hw : s.sweepOf n with
  | none =>
    unfold State.endProbe
    rw [hw]
    exact h.same_work (fun _ => rfl) rfl
  | some v =>
    obtain ⟨l, w⟩ := v
    have ht := (hl.training n).mp (by rw [(State.sweepOf_eq_some.mp hw).1]; rfl)
    exact h.of_working (.inl ht) (State.lateSags_congr (by simp))

theorem SagsOk.of_effect {c : Instr} {s t : State} (h : SagsOk s) (hl : LanesOk s)
    (he : Effect s t c) (hc : ∀ n f, c ≠ .discardedFrame n f) : SagsOk t := by
  have slots := SagsOk.keptBySlotMoves
  have table := SagsOk.keptByMoves
  cases c
  case powerOnReset a f =>
    subst he
    exact .of_none rfl
  case powerOnResetAsserted =>
    subst he
    exact h.same_work (fun n => by rw [State.slot_assertPowerOn]; rfl) rfl
  case controllerReset => rcases he with ⟨-, rfl⟩ | ⟨-, rfl⟩ <;> exact h.same_work (fun _ => rfl) rfl
  case railDeclaredLow =>
    obtain ⟨-, -, rfl⟩ := he
    exact h.railLow
  case cardGoodDeclaredGood n =>
    obtain ⟨-, -, rfl⟩ := he
    exact slots.cardArrives n (h.same_work (fun _ => rfl) rfl)
  case cardGoodDeclaredLow n =>
    obtain ⟨-, -, rfl⟩ := he
    exact slots.cardLeaves n (h.same_work (fun _ => rfl) rfl)
  case settleTimerExpiry =>
    obtain ⟨-, -, rfl⟩ := he
    exact h.same_work (fun _ => rfl) (State.lateSags_sendRecover _ _)
  case recoveryEnds =>
    obtain ⟨-, -, rfl⟩ := he
    exact h.same_work (fun _ => rfl) rfl
  case sagNoticeRestore =>
    obtain ⟨-, -, rfl⟩ := he
    exact h.same_work (fun _ => rfl) rfl
  case recoverNoticeRestore =>
    obtain ⟨-, -, rfl⟩ := he
    unfold State.recoverRestore
    split <;> exact h.same_work (fun _ => rfl) rfl
  case normalNotice =>
    obtain ⟨-, -, rfl⟩ := he
    exact h.same_work (fun _ => rfl) rfl
  case sagNoticeSlots =>
    obtain ⟨-, -, ht⟩ := he
    rw [ht]
    exact .sagSlots s
  case recoverNoticeSlots =>
    obtain ⟨-, cls, hn, ht⟩ := he
    rw [ht]
    exact slots.recoverSlots cls (h.same_work (fun _ => rfl) (State.lateSags_takeSlotsNotice hn false))
  case sagNoticeCircuits =>
    obtain ⟨-, -, rfl⟩ := he
    exact table.takeSagCircuits h
  case departureNoticeCircuits n =>
    obtain ⟨-, -, rfl⟩ := he
    exact table.parkSlot n h
  case departureNoticeLink n =>
    obtain ⟨-, -, rfl⟩ := he
    exact h.same_work (fun _ => by simp) (by simp [State.lateSags])
  case resetPulseExpiry n =>
    obtain ⟨-, -, rfl⟩ := he
    exact slots.congr _ _ (s.endPulse_same n) h
  case bootTimeout n =>
    obtain ⟨-, -, rfl⟩ := he
    exact slots.bootTimeout n _ h
  case identTimeout n =>
    obtain ⟨-, hi, rfl⟩ := he
    exact slots.identTimeout (State.identDue_state hi) _ h
  case idleFrame n =>
    obtain ⟨-, -, rfl⟩ := he
    exact slots.alive n h
  case linkLoss n =>
    obtain ⟨-, -, rfl⟩ := he
    exact slots.takeLoss n h
  case laneGrant =>
    obtain ⟨-, n, l, -, rfl⟩ := he
    refine .of_none ?_
    simp only [State.lateSags, State.grant_leaves]
    omega
  case sampleReply n tag bit =>
    obtain ⟨-, -, rfl⟩ := he
    exact h.endProbe hl n bit
  case probeTimeout n =>
    obtain ⟨-, -, rfl⟩ := he
    exact h.endProbe hl n false
  case identityReply n tag type revision =>
    obtain ⟨-, hi, rfl⟩ := he
    exact h.of_working (.inr (State.identityTaken_iff.mp hi).1) (State.lateSags_congr (by simp))
  case clearOrderDone n tag =>
    obtain ⟨-, hi, rfl⟩ := he
    exact h.of_working (.inr (State.clearTaken_iff.mp hi).1) rfl
  case issue =>
    obtain ⟨-, i, -, -, rfl⟩ := he
    exact table.moves (s.issueEntry_moves i) (h.same_work (fun _ => rfl) rfl)
  case settableWordWrite w d e =>
    obtain ⟨-, rfl⟩ := he
    exact (h.writeShadow w d e).same_work (fun _ => rfl) rfl
  case releaseAll =>
    obtain ⟨-, rfl⟩ := he
    exact (State.takeReleaseAll_keeps table.requestWrites h).same_work (fun _ => rfl) rfl
  case relink n =>
    obtain ⟨-, rfl⟩ := he
    exact (slots.takeRelink n h).same_work (fun _ => rfl) rfl
  case relinkReset n =>
    obtain ⟨-, rfl⟩ := he
    exact (slots.takeRelinkReset n h).same_work (fun _ => rfl) rfl
  case quiesce n =>
    obtain ⟨-, rfl⟩ := he
    exact (slots.takeQuiesce n h).same_work (fun _ => rfl) rfl
  case resume n =>
    obtain ⟨-, rfl⟩ := he
    exact (slots.takeResume n h).same_work (fun _ => rfl) rfl
  case relinkAll =>
    obtain ⟨-, rfl⟩ := he
    exact h.takeRelinkAll.same_work (fun _ => rfl) rfl
  case discardedFrame n f => exact absurd rfl (hc n f)
  all_goals
    simp only [Effect] at he
    try casesm* _ ∧ _, ∃ _, _
    subst_vars
    exact h.same_work (fun _ => by simp) (by simp [State.lateSags])

/-! ## Every step -/

/-- A step is a microsecond of the time base, or the state as it was without the command, or its effect. -/
theorem step_effect {s t : State} (h : step s = .next t) : t = s.tick ∨ ∃ q, t = { s with pending := q } ∨
    ∃ c u, Effect { s with pending := q } u c ∧ (∀ n f, c ≠ .discardedFrame n f) ∧
      (t = u ∨ t = State.judged { s with pending := q } u) := by
  unfold step at h
  split at h
  · cases h
    exact .inl rfl
  · rename_i c q _
    rcases exec_effect h with e | ⟨c', u, he, hd, -, hu⟩
    · exact .inr ⟨q, .inl e⟩
    · exact .inr ⟨q, .inr ⟨c', u, he, hd, hu⟩⟩

/-- A relation that one step keeps under premises on the state before it. -/
theorem step_keeps_under {P Q : State → Prop} (hPq : ∀ s q, P s → P { s with pending := q })
    (hQq : ∀ s q, Q s → Q { s with pending := q }) (hj : ∀ s t : State, P t → P (s.judged t))
    (hc : ∀ c s t, (∀ n f, c ≠ .discardedFrame n f) → Q s → P s → Effect s t c → P t) (ht : ∀ s, P s → P s.tick)
    {s t : State} (hQ : Q s) (hP : P s) (h : step s = .next t) : P t := by
  rcases step_effect h with rfl | ⟨q, rfl | ⟨c, u, he, hd, rfl | rfl⟩⟩
  · exact ht s hP
  · exact hPq s q hP
  · exact hc c _ _ hd (hQq s q hQ) (hPq s q hP) he
  · exact hj _ _ (hc c _ _ hd (hQq s q hQ) (hPq s q hP) he)

/-- Settles O8: a slot's move ends its work or keeps it for the Link Unit, the table's moves touch no order in flight,
and an exchange begins where its slot's state calls for it. -/
theorem linksCarryTheWorkOfTheirSlot : Obligations.LinksCarryTheWorkOfTheirSlot := by
  refine ⟨fun s t hl hw hk hs => ?_, fun s t hl hk hs => ?_⟩
  · exact step_keeps_under (P := LinksOk) (Q := fun s => LanesOk s ∧ WindowsOk s)
      (fun s q h => h.of_links (fun _ => rfl) (fun _ => rfl) (fun _ => rfl) rfl rfl)
      (fun s q h => ⟨h.1.congr (fun _ => rfl) fun _ => rfl, h.2.congr (fun _ => rfl) rfl rfl rfl⟩)
      (fun s t h => h.of_links (fun _ => rfl) (fun _ => rfl) (fun _ => rfl) rfl rfl)
      (fun c s t hd hq h he => h.of_effect hq.1 hq.2 he hd)
      (fun s h => h.of_links (fun _ => by simp) (fun _ => by simp) (fun _ => by simp) (by simp) (by simp))
        ⟨hl, hw⟩ hk hs
  · exact step_keeps_under (P := SagsOk) (Q := LanesOk) (fun s q h => h.same_work (fun _ => rfl) rfl)
      (fun s q h => h.congr (fun _ => rfl) fun _ => rfl) (fun s t h => h.same_work (fun _ => rfl) rfl)
      (fun c s t hd hq h he => h.of_effect hq he hd)
      (fun s h => h.same_work (fun _ => by simp) (State.lateSags_congr (by simp))) hl hk hs

end Sys2Proof.Machine
end

section
/-! The slot contexts (R25 to R29, R39, R43, R48, R61): a slot whose work has ended, and what each entered state makes
of it. -/

namespace Sys2Proof.Machine

/-! ## One slot -/

/-- The clauses of the relation for one slot. -/
structure SlotOk (s : State) (n : SlotNo) : Prop where
  ok : (s.slot n).Ok
  level : (s.slot n).cardGood = (s.card n).declared
  output : (s.slot n).resetOut = (!s.por && ((s.slot n).pulseTimer.isSome || (s.slot n).state == .offline))
  listens : (s.link n).listening = (s.slot n).bootTimer.isSome

theorem SlotsOk.slot {s : State} (h : SlotsOk s) (n : SlotNo) : SlotOk s n :=
  ⟨h.each n, h.level n, h.output n, h.listens n⟩

theorem SlotsOk.of_slot {s : State} (h : ∀ n, SlotOk s n) : SlotsOk s :=
  ⟨fun n => (h n).ok, fun n => (h n).level, fun n => (h n).output, fun n => (h n).listens⟩

theorem State.card_congr {s t : State} (h : t.supply = s.supply) (n : SlotNo) : t.card n = s.card n :=
  congrArg (fun w : Supply => w.cards[n]) h

theorem SlotOk.congr {s t : State} {n : SlotNo} (h : SlotOk s n) (hs : t.slot n = s.slot n)
    (hc : (t.card n).declared = (s.card n).declared) (hl : (t.link n).listening = (s.link n).listening)
    (hp : t.por = s.por) : SlotOk t n :=
  ⟨hs ▸ h.ok, by rw [hs, hc, h.level], by rw [hs, hp, h.output], by rw [hs, hl, h.listens]⟩

theorem SlotsOk.congr {s t : State} (h : SlotsOk s) (hs : ∀ n, t.slot n = s.slot n)
    (hc : ∀ n, (t.card n).declared = (s.card n).declared) (hl : ∀ n, (t.link n).listening = (s.link n).listening)
    (hp : t.por = s.por) : SlotsOk t := .of_slot fun n => (h.slot n).congr (hs n) (hc n) (hl n) hp

/-! ## Contexts by the state they are in -/

/-- What a context keeps through every change of state: the attempt, with the mode, and the lock results in their
ranges. -/
structure SlotContext.Tried (c : SlotContext) : Prop where
  attempt_le : c.attempt ≤ 3
  verify_attempt : c.mode = .verify → c.attempt = 0
  spread_le : c.lock.spread ≤ 62
  drift_range : -32 ≤ c.lock.drift ∧ c.lock.drift ≤ 31

theorem SlotContext.Ok.tried {c : SlotContext} (h : c.Ok) : c.Tried :=
  ⟨h.attempt_le, h.verify_attempt, h.spread_le, h.drift_range⟩

/-- A context in BOOTING: a pulse runs or the boot wait does. -/
theorem SlotContext.ok_booting {c : SlotContext} (h : c.Tried) (hs : c.state = .booting) (hm : c.mode = .full)
    (ha : 1 ≤ c.attempt) (ht : c.pulseTimer.isSome = true ↔ c.bootTimer = none) (hf : c.forceFull = false)
    (hr : c.forceReset = false) (hg : c.cardGood = .good) : c.Ok where
  attempt_le := h.attempt_le
  verify_attempt := h.verify_attempt
  full_attempt _ _ := ha
  booting_full _ := hm
  pulse_state _ := .inl hs
  boot_state _ := hs
  booting_timer _ := ht
  force_full e := by rw [hf] at e; cases e
  force_reset e := by rw [hr] at e; cases e
  spread_le := h.spread_le
  drift_range := h.drift_range
  good_outside _ _ := hg
  low_in_empty e := by rw [hs] at e; cases e

/-- A context in HELD: a pulse may run, and the force flags may stand. -/
theorem SlotContext.ok_held {c : SlotContext} (h : c.Tried) (hs : c.state = .held) (hb : c.bootTimer = none)
    (hr : c.forceReset = true → c.forceFull = true) (hg : c.cardGood = .good) : c.Ok where
  attempt_le := h.attempt_le
  verify_attempt := h.verify_attempt
  full_attempt e := by rw [hs] at e; cases e
  booting_full e := by rw [hs] at e; cases e
  pulse_state _ := .inr hs
  boot_state e := by rw [hb] at e; cases e
  booting_timer e := by rw [hs] at e; cases e
  force_full _ := hs
  force_reset := hr
  spread_le := h.spread_le
  drift_range := h.drift_range
  good_outside _ _ := hg
  low_in_empty e := by rw [hs] at e; cases e

/-- A context in any other state: no timer runs and no force flag stands. -/
theorem SlotContext.ok_other {c : SlotContext} (h : c.Tried) (hs : c.state ≠ .booting)
    (hfull : c.state.relinking = true → c.mode = .full → 1 ≤ c.attempt) (hp : c.pulseTimer = none)
    (hb : c.bootTimer = none) (hf : c.forceFull = false) (hr : c.forceReset = false)
    (hg : c.state ≠ .empty → c.state ≠ .offline → c.cardGood = .good) (hl : c.state = .empty → c.cardGood = .low) :
    c.Ok where
  attempt_le := h.attempt_le
  verify_attempt := h.verify_attempt
  full_attempt := hfull
  booting_full e := absurd e hs
  pulse_state e := by rw [hp] at e; cases e
  boot_state e := by rw [hb] at e; cases e
  booting_timer e := absurd e hs
  force_full e := by rw [hf] at e; cases e
  force_reset e := by rw [hr] at e; cases e
  spread_le := h.spread_le
  drift_range := h.drift_range
  good_outside := hg
  low_in_empty := hl

/-- Outside HELD no force flag stands. -/
theorem SlotContext.Ok.no_force {c : SlotContext} (h : c.Ok) (hs : c.state ≠ .held) :
    c.forceFull = false ∧ c.forceReset = false := by
  have hf : c.forceFull = false := Bool.eq_false_of_not_eq_true fun e => hs (h.force_full e)
  exact ⟨hf, Bool.eq_false_of_not_eq_true fun e => by rw [h.force_reset e] at hf; cases hf⟩

/-- Outside BOOTING and HELD no pulse runs, and outside BOOTING no boot wait. -/
theorem SlotContext.Ok.no_pulse {c : SlotContext} (h : c.Ok) (hb : c.state ≠ .booting) (hh : c.state ≠ .held) :
    c.pulseTimer = none := by
  by_contra hc
  exact (h.pulse_state (Option.isSome_iff_ne_none.mpr hc)).elim hb hh

theorem SlotContext.Ok.no_wait {c : SlotContext} (h : c.Ok) (hb : c.state ≠ .booting) : c.bootTimer = none := by
  by_contra hc
  exact hb (h.boot_state (Option.isSome_iff_ne_none.mpr hc))

/-! ## A slot about to enter a state -/

/-- The slot of the running part that is about to enter a state: attempt and lock results in their ranges, level, output
and listening as they should be, and every other slot as it should be. -/
structure State.Near (s : State) (n : SlotNo) : Prop where
  running : s.por = false
  tried : (s.slot n).Tried
  boot_state : (s.slot n).bootTimer.isSome = true → (s.slot n).state = .booting
  level : (s.slot n).cardGood = (s.card n).declared
  output : (s.slot n).resetOut = ((s.slot n).pulseTimer.isSome || (s.slot n).state == .offline)
  listens : (s.link n).listening = (s.slot n).bootTimer.isSome
  others : ∀ m, n ≠ m → SlotOk s m

theorem SlotsOk.near {s : State} (h : SlotsOk s) (hp : s.por = false) (n : SlotNo) : s.Near n :=
  ⟨hp, (h.each n).tried, (h.each n).boot_state, h.level n, by rw [h.output, hp]; rfl, h.listens n, fun m _ => h.slot m⟩

/-- A slot with no boot wait. -/
structure State.Ended (s : State) (n : SlotNo) : Prop extends s.Near n where
  waits : (s.slot n).bootTimer = none

theorem State.Near.ended {s : State} {n : SlotNo} (h : s.Near n) (hb : (s.slot n).state ≠ .booting) : s.Ended n :=
  { h with waits := by_contra fun hc => hb (h.boot_state (Option.isSome_iff_ne_none.mpr hc)) }

section
variable (s : State) (n : SlotNo)

@[simp] theorem State.endWork_context : ((s.endWork n).slot n).state = (s.slot n).state ∧
    ((s.endWork n).slot n).mode = (s.slot n).mode ∧ ((s.endWork n).slot n).attempt = (s.slot n).attempt ∧
    ((s.endWork n).slot n).cardGood = (s.slot n).cardGood ∧ ((s.endWork n).slot n).forceFull = (s.slot n).forceFull ∧
    ((s.endWork n).slot n).forceReset = (s.slot n).forceReset ∧ ((s.endWork n).slot n).lock = (s.slot n).lock ∧
    ((s.endWork n).slot n).pulseTimer = (s.slot n).pulseTimer ∧
      ((s.endWork n).slot n).resetOut = (s.slot n).resetOut := by
  rw [State.slot_endWork, if_pos rfl, SlotContext.unbooted]
  split <;> simp

end

/-- The work of a state ended: the boot wait is over, and the link listens no longer. -/
theorem State.Near.endWork {s : State} {n : SlotNo} (h : s.Near n) : (s.endWork n).Ended n where
  running := by simpa using h.running
  tried := by
    obtain ⟨h1, h2, h3, h4⟩ := h.tried
    constructor <;> simpa
  boot_state e := by
    rw [State.slot_endWork, if_pos rfl, SlotContext.unbooted] at e
    split at e
    · cases e
    · rename_i hb
      exact absurd (h.boot_state e) hb
  level := by
    rw [State.card_congr (by simp : (s.endWork n).supply = s.supply)]
    simpa using h.level
  output := by simpa using h.output
  listens := by
    rw [State.link_endWork, if_pos rfl, State.slot_endWork, if_pos rfl, SlotContext.unbooted]
    by_cases hb : (s.slot n).state = .booting
    · simp only [if_pos hb]
      rfl
    · simp only [if_neg hb]
      exact h.listens
  others m hm := by
    refine (h.others m hm).congr ?_ (by rw [State.card_congr (by simp : (s.endWork n).supply = s.supply)]) ?_ (by simp)
    · rw [State.slot_endWork, if_neg hm]
    · rw [State.link_endWork, if_neg hm]
  waits := by
    rw [State.slot_endWork, if_pos rfl, SlotContext.unbooted]
    split
    · rfl
    · rename_i hb
      exact (h.ended hb).waits

/-- A context changed where `Near` does not read it. -/
theorem State.Near.setSlot {s : State} {n : SlotNo} (h : s.Near n) {d : SlotContext} (ht : d.Tried)
    (hs : d.state = (s.slot n).state) (hb : d.bootTimer = (s.slot n).bootTimer) (hl : d.cardGood = (s.slot n).cardGood)
    (hp : d.pulseTimer = (s.slot n).pulseTimer) (ho : d.resetOut = (s.slot n).resetOut) : (s.setSlot n d).Near n := by
  have hself : (s.setSlot n d).slot n = d := by rw [State.slot_setSlot, if_pos rfl]
  refine ⟨h.running, ?_, ?_, ?_, ?_, ?_, fun m hm => ?_⟩
  · rw [hself]
    exact ht
  · rw [hself, hb, hs]
    exact h.boot_state
  · rw [hself, hl]
    exact h.level
  · rw [hself, ho, hp, hs]
    exact h.output
  · rw [hself, hb]
    exact h.listens
  · exact (h.others m hm).congr (by rw [State.slot_setSlot, if_neg hm]) rfl rfl rfl

namespace State.Ended

variable {s : State} {n : SlotNo} (h : s.Ended n)
include h

/-- A context entered, its level kept and its output by R25. -/
theorem enter {d : SlotContext} (hd : d.Ok) (hl : d.cardGood = (s.slot n).cardGood)
    (ho : d.resetOut = (d.pulseTimer.isSome || d.state == .offline)) (hb : d.bootTimer = none) :
    SlotsOk (s.setSlot n d) := .of_slot fun m => by
  by_cases hm : n = m
  · subst hm
    have hself : (s.setSlot n d).slot n = d := by rw [State.slot_setSlot, if_pos rfl]
    refine ⟨by rw [hself]; exact hd, ?_, ?_, ?_⟩
    · rw [hself, hl, h.level]
      rfl
    · rw [hself, show (s.setSlot n d).por = false from h.running]
      exact ho
    · rw [hself, hb, show ((s.setSlot n d).link n).listening = _ from h.listens, h.waits]
  · exact (h.others m hm).congr (by rw [State.slot_setSlot, if_neg hm]) rfl rfl rfl

/-- And a boot wait begun. -/
theorem wait {d : SlotContext} {timer : Timer} (hd : SlotContext.Ok { d with bootTimer := timer })
    (ht : timer.isSome = true) (hl : d.cardGood = (s.slot n).cardGood)
    (ho : d.resetOut = (d.pulseTimer.isSome || d.state == .offline)) (rate : Rate) :
    SlotsOk ((s.setSlot n { d with bootTimer := timer }).listen n rate) := .of_slot fun m => by
  by_cases hm : n = m
  · subst hm
    have hself :
        ((s.setSlot n { d with bootTimer := timer }).listen n rate).slot n = { d with bootTimer := timer } := by
      rw [State.listen, State.slot_setLink, State.slot_setSlot, if_pos rfl]
    refine ⟨by rw [hself]; exact hd, ?_, ?_, ?_⟩
    · rw [hself]
      exact hl.trans h.level
    · rw [hself, show ((s.setSlot n { d with bootTimer := timer }).listen n rate).por = false from h.running]
      exact ho
    · rw [hself, State.listen, State.link_setLink, if_pos rfl, ht]
  · exact (h.others m hm).congr (by rw [State.listen, State.slot_setLink, State.slot_setSlot, if_neg hm]) rfl
      (by rw [State.listen, State.link_setLink, if_neg hm]; rfl) rfl

/-! ### What is entered -/

theorem bootWithReset {k : Nat} (hk : 1 ≤ k ∧ k ≤ 3) (hg : (s.slot n).cardGood = .good)
    (hf : (s.slot n).forceFull = false) (hr : (s.slot n).forceReset = false) : SlotsOk (s.bootWithReset n k) :=
  h.enter (SlotContext.ok_booting ⟨hk.2, nofun, h.tried.spread_le, h.tried.drift_range⟩ rfl rfl hk.1
    (iff_of_true rfl h.waits) hf hr hg) rfl rfl h.waits

theorem bootWithoutReset (hg : (s.slot n).cardGood = .good) (hp : (s.slot n).pulseTimer = none)
    (hf : (s.slot n).forceFull = false) (hr : (s.slot n).forceReset = false) (ho : (s.slot n).resetOut = false) :
    SlotsOk (s.bootWithoutReset n) := by
  unfold State.bootWithoutReset State.startBootWait
  rw [State.setSlot_setSlot, State.slot_setSlot, if_pos rfl]
  refine h.wait (d := { s.slot n with state := .booting, mode := .full, attempt := 1 }) ?_ rfl rfl ?_ _
  · refine SlotContext.ok_booting ⟨(by decide : 1 ≤ 3), nofun, h.tried.spread_le, h.tried.drift_range⟩ rfl rfl
      (Nat.le_refl 1) (iff_of_false ?_ nofun) hf hr hg
    rw [hp]
    nofun
  · dsimp only
    rw [ho, hp]
    rfl

theorem goPending {m : Mode} {k : Nat} (hk : k ≤ 3) (hv : m = .verify → k = 0) (hm : m = .full → 1 ≤ k)
    (hg : (s.slot n).cardGood = .good) (hp : (s.slot n).pulseTimer = none) (hf : (s.slot n).forceFull = false)
    (hr : (s.slot n).forceReset = false) (ho : (s.slot n).resetOut = false) : SlotsOk (s.goPending n m k) := by
  refine h.enter (SlotContext.ok_other ⟨hk, hv, h.tried.spread_le, h.tried.drift_range⟩ nofun (fun _ => hm) hp h.waits
    hf hr (fun _ _ => hg) nofun) rfl ?_ h.waits
  dsimp only
  rw [ho, hp]
  rfl

theorem goHeld {f r : Bool} (hfr : r = true → f = true) (hg : (s.slot n).cardGood = .good)
    (ho : (s.slot n).resetOut = (s.slot n).pulseTimer.isSome) : SlotsOk (s.goHeld n f r) := by
  refine h.enter (SlotContext.ok_held ⟨h.tried.attempt_le, h.tried.verify_attempt, h.tried.spread_le,
    h.tried.drift_range⟩ rfl h.waits hfr hg) rfl ?_ h.waits
  dsimp only
  rw [ho]
  exact (Bool.or_false _).symm

theorem startHeld {r : Bool} (hg : (s.slot n).cardGood = .good)
    (ho : (s.slot n).resetOut = (s.slot n).pulseTimer.isSome) : SlotsOk (s.startHeld n r) := by
  refine h.enter (SlotContext.ok_held ⟨(by decide : 1 ≤ 3), nofun, h.tried.spread_le,
    h.tried.drift_range⟩ rfl h.waits (fun _ => rfl) hg) rfl ?_ h.waits
  dsimp only
  rw [ho]
  exact (Bool.or_false _).symm

theorem goEmpty (hg : (s.slot n).cardGood = .low) : SlotsOk (s.goEmpty n) :=
  h.enter (SlotContext.ok_other ⟨h.tried.attempt_le, h.tried.verify_attempt, h.tried.spread_le, h.tried.drift_range⟩
    nofun nofun rfl h.waits rfl rfl (fun he => absurd rfl he) fun _ => hg) rfl rfl h.waits

theorem goOffline : SlotsOk (s.goOffline n) :=
  h.enter (SlotContext.ok_other ⟨h.tried.attempt_le, h.tried.verify_attempt, h.tried.spread_le, h.tried.drift_range⟩
    nofun nofun rfl h.waits rfl rfl (fun _ he => absurd rfl he) nofun) rfl rfl h.waits

theorem goFailed {r : FailReason} (hg : (s.slot n).cardGood = .good) (hp : (s.slot n).pulseTimer = none)
    (hf : (s.slot n).forceFull = false) (hr : (s.slot n).forceReset = false) (ho : (s.slot n).resetOut = false) :
    SlotsOk (s.goFailed n r) := by
  have hset : SlotsOk (s.setSlot n { s.slot n with state := .failed }) := by
    refine h.enter (SlotContext.ok_other ⟨h.tried.attempt_le, h.tried.verify_attempt, h.tried.spread_le,
      h.tried.drift_range⟩ nofun nofun hp h.waits hf hr (fun _ _ => hg) nofun) rfl ?_ h.waits
    dsimp only
    rw [ho, hp]
    rfl
  exact hset.congr (fun _ => rfl) (fun _ => rfl) (fun _ => rfl) rfl

theorem goMismatch (hg : (s.slot n).cardGood = .good) (hp : (s.slot n).pulseTimer = none)
    (hf : (s.slot n).forceFull = false) (hr : (s.slot n).forceReset = false) (ho : (s.slot n).resetOut = false) :
    SlotsOk (s.goMismatch n) := by
  have hset : SlotsOk (s.setSlot n { s.slot n with
      state := .mismatch, lastGood := { (s.slot n).lastGood with valid := false } }) := by
    refine h.enter (SlotContext.ok_other ⟨h.tried.attempt_le, h.tried.verify_attempt, h.tried.spread_le,
      h.tried.drift_range⟩ nofun nofun hp h.waits hf hr (fun _ _ => hg) nofun) rfl ?_ h.waits
    dsimp only
    rw [ho, hp]
    rfl
  exact hset.congr (fun _ => rfl) (fun _ => rfl) (fun _ => rfl) rfl

/-- An attempt failure: the next FULL attempt, or FAILED after the third (R26). -/
theorem failAttempt (r : FailReason) (hg : (s.slot n).cardGood = .good) (hp : (s.slot n).pulseTimer = none)
    (hf : (s.slot n).forceFull = false) (hr : (s.slot n).forceReset = false) (ho : (s.slot n).resetOut = false) :
    SlotsOk (s.failAttempt n r) := by
  have hself : ((s.setSlot n { s.slot n with lastFailure := r }).slot n) = { s.slot n with lastFailure := r } := by
    rw [State.slot_setSlot, if_pos rfl]
  have hset : (s.setSlot n { s.slot n with lastFailure := r }).Ended n :=
    { h.toNear.setSlot (d := { s.slot n with lastFailure := r }) ⟨h.tried.attempt_le, h.tried.verify_attempt,
        h.tried.spread_le, h.tried.drift_range⟩ rfl rfl rfl rfl rfl with
      waits := by
        rw [hself]
        exact h.waits }
  unfold State.failAttempt
  dsimp only
  split
  · refine hset.bootWithReset ⟨Nat.le_add_left 1 _, ‹_›⟩ ?_ ?_ ?_ <;> rw [hself]
    · exact hg
    · exact hf
    · exact hr
  · refine hset.goFailed ?_ ?_ ?_ ?_ ?_ <;> rw [hself]
    · exact hg
    · exact hp
    · exact hf
    · exact hr
    · exact ho

end State.Ended

/-! ## Every operation on a slot -/

namespace SlotsOk

variable {s : State} (h : SlotsOk s) (hp : s.por = false) (n : SlotNo)
include h hp

/-- The output of a slot without a pulse that is not OFFLINE. -/
theorem resetOut_eq_false (hpulse : (s.slot n).pulseTimer = none) (ho : (s.slot n).state ≠ .offline) :
    (s.slot n).resetOut = false := by
  rw [h.output, hp, hpulse]
  simpa using ho

theorem resetOut_eq_pulse (ho : (s.slot n).state ≠ .offline) :
    (s.slot n).resetOut = (s.slot n).pulseTimer.isSome := by
  rw [h.output, hp]
  simp [ho]

/-- The pending attempt of a slot that is booting without a pulse, training or being identified fails. -/
theorem endFail (r : FailReason) (hpulse : (s.slot n).pulseTimer = none)
    (hs : (s.slot n).state = .booting ∨ (s.slot n).state = .training ∨ (s.slot n).state = .identify) :
    SlotsOk ((s.endWork n).failAttempt n r) := by
  have hne : (s.slot n).state ≠ .held ∧ (s.slot n).state ≠ .empty ∧ (s.slot n).state ≠ .offline := by
    rcases hs with e | e | e <;> simp [e]
  obtain ⟨hh, he, ho⟩ := hne
  obtain ⟨hf, hr⟩ := (h.each n).no_force hh
  refine (h.near hp n).endWork.failAttempt r ?_ ?_ ?_ ?_ ?_ <;> simp only [State.endWork_context]
  · exact (h.each n).good_outside he ho
  · exact hpulse
  · exact hf
  · exact hr
  · exact h.resetOut_eq_false hp n hpulse ho

theorem bootTimeout (hd : s.bootDue n = true) (r : FailReason) : SlotsOk ((s.endWork n).failAttempt n r) := by
  simp only [State.bootDue, Bool.and_eq_true, beq_iff_eq] at hd
  obtain ⟨hb, ht⟩ := hd
  have hwait : (s.slot n).bootTimer ≠ none := fun e => by
    rw [e] at ht
    cases ht
  refine h.endFail hp n r ?_ (.inl hb)
  by_contra hc
  exact hwait (((h.each n).booting_timer hb).mp (Option.isSome_iff_ne_none.mpr hc))

theorem alive (ha : s.awaitsAlive n = true) : SlotsOk (s.alive n) := by
  simp only [State.awaitsAlive, Bool.and_eq_true, beq_iff_eq] at ha
  obtain ⟨hb, hl⟩ := ha
  have hwait : (s.slot n).bootTimer ≠ none := fun e => by
    rw [h.listens, e] at hl
    cases hl
  have hpulse : (s.slot n).pulseTimer = none := by
    by_contra hc
    exact hwait (((h.each n).booting_timer hb).mp (Option.isSome_iff_ne_none.mpr hc))
  obtain ⟨hf, hr⟩ := (h.each n).no_force (by simp [hb])
  have hfull := (h.each n).booting_full hb
  refine (h.near hp n).endWork.goPending (h.each n).attempt_le (h.each n).verify_attempt
    (fun _ => (h.each n).full_attempt (by simp [hb, SlotState.relinking]) hfull) ?_ ?_ ?_ ?_ ?_ <;>
    simp only [State.endWork_context]
  · exact (h.each n).good_outside (by simp [hb]) (by simp [hb])
  · exact hpulse
  · exact hf
  · exact hr
  · exact h.resetOut_eq_false hp n hpulse (by simp [hb])

/-- A slot without timers goes to PENDING: from LINKED, FAILED or MISMATCH. -/
theorem toPending {m : Mode} {k : Nat} (hk : k ≤ 3) (hv : m = .verify → k = 0) (hm : m = .full → 1 ≤ k)
    (hs : (s.slot n).state = .linked ∨ (s.slot n).state = .failed ∨ (s.slot n).state = .mismatch) :
    SlotsOk ((s.endWork n).goPending n m k) := by
  have hne : (s.slot n).state ≠ .held ∧ (s.slot n).state ≠ .empty ∧ (s.slot n).state ≠ .offline ∧
      (s.slot n).state ≠ .booting := by
    rcases hs with e | e | e <;> simp [e]
  obtain ⟨hh, he, ho, hb⟩ := hne
  obtain ⟨hf, hr⟩ := (h.each n).no_force hh
  have hpulse := (h.each n).no_pulse hb hh
  refine (h.near hp n).endWork.goPending hk hv hm ?_ ?_ ?_ ?_ ?_ <;> simp only [State.endWork_context]
  · exact (h.each n).good_outside he ho
  · exact hpulse
  · exact hf
  · exact hr
  · exact h.resetOut_eq_false hp n hpulse ho

theorem takeLoss (hl : s.lossStands n = true) : SlotsOk (s.takeLoss n) := by
  have hlinked : (s.slot n).state = .linked := State.linked_iff.mp (Bool.and_eq_true_iff.mp hl).1
  have hr (r : Record) : SlotsOk (s.raise r) := h.congr (fun _ => rfl) (fun _ => rfl) (fun _ => rfl) rfl
  unfold State.takeLoss
  refine (hr _).toPending hp n ?_ (fun e => ?_) (fun e => ?_) (.inl hlinked)
  · cases s.lossMode n <;> decide
  · rw [e]
    rfl
  · rw [e]
    exact Nat.le_refl 1

theorem holdSlot : SlotsOk (s.holdSlot n) := by
  unfold State.holdSlot
  split
  · rename_i hs
    have hne : (s.slot n).state ≠ .empty ∧ (s.slot n).state ≠ .offline := by
      constructor <;> intro e <;> rw [e] at hs <;> cases hs
    refine (h.near hp n).endWork.goHeld (h.each n).force_reset ?_ ?_ <;> simp only [State.endWork_context]
    · exact (h.each n).good_outside hne.1 hne.2
    · exact h.resetOut_eq_pulse hp n hne.2
  · exact h

/-- HELD left at the recover notice (R43). -/
theorem recoverSlot (cls : Classification) : SlotsOk (s.recoverSlot cls n) := by
  unfold State.recoverSlot
  split
  · rename_i hs
    have hself : (s.clearForce n).slot n = { s.slot n with forceFull := false, forceReset := false } := by
      rw [State.clearForce, State.slot_setSlot, if_pos rfl]
    have hc : (s.clearForce n).Ended n :=
      ((h.near hp n).setSlot (d := { s.slot n with forceFull := false, forceReset := false })
        ⟨(h.each n).attempt_le, (h.each n).verify_attempt, (h.each n).spread_le, (h.each n).drift_range⟩ rfl rfl rfl rfl
        rfl).ended (by rw [← State.clearForce, hself]; simp [hs])
    have hg : (s.slot n).cardGood = .good := (h.each n).good_outside (by simp [hs]) (by simp [hs])
    split
    · refine hc.bootWithReset (by decide) ?_ ?_ ?_ <;> rw [hself]
      exact hg
    · rename_i hreset
      have hpulse : (s.slot n).pulseTimer = none := by
        simpa [SlotContext.resetAtRecover] using (Bool.or_eq_false_iff.mp (Bool.eq_false_of_not_eq_true hreset)).2
      refine hc.goPending ?_ (fun e => ?_) (fun e => ?_) ?_ ?_ ?_ ?_ ?_
      · cases s.modeChoice n cls <;> decide
      · rw [e]
        rfl
      · rw [e]
        exact Nat.le_refl 1
      all_goals rw [hself]
      · exact hg
      · exact hpulse
      · exact h.resetOut_eq_false hp n hpulse (by simp [hs])
  · exact h

theorem startHeld (r : Bool) (hb : (s.slot n).state ≠ .booting) (he : (s.slot n).state ≠ .empty)
    (ho : (s.slot n).state ≠ .offline) : SlotsOk (s.startHeld n r) :=
  ((h.near hp n).ended hb).startHeld ((h.each n).good_outside he ho) (h.resetOut_eq_pulse hp n ho)

theorem takeRelink : SlotsOk (s.takeRelink n) := by
  have resting (hs : (s.slot n).state = .failed ∨ (s.slot n).state = .mismatch) :
      SlotsOk (if s.watching then s.startHeld n (s.slot n).forceReset else s.goPending n .full 1) := by
    have hne : (s.slot n).state ≠ .booting ∧ (s.slot n).state ≠ .empty ∧ (s.slot n).state ≠ .offline := by
      rcases hs with e | e <;> simp [e]
    have hw : s.endWork n = s := by rcases hs with e | e <;> rw [State.endWork, e]
    split
    · exact h.startHeld hp n _ hne.1 hne.2.1 hne.2.2
    · have := h.toPending hp n (m := .full) (k := 1) (by decide) nofun (fun _ => Nat.le_refl 1) (.inr hs)
      rwa [hw] at this
  unfold State.takeRelink
  split
  case h_1 e =>
    split
    · exact h
    · exact h.toPending hp n (by decide) nofun (fun _ => Nat.le_refl 1) (.inl e)
  case h_2 e => exact resting (.inl e)
  case h_3 e => exact resting (.inr e)
  case h_4 e =>
    exact ((h.near hp n).ended (by simp [e])).goHeld (fun _ => rfl)
      ((h.each n).good_outside (by simp [e]) (by simp [e]))
      (h.resetOut_eq_pulse hp n (by simp [e]))
  all_goals exact h

/-- A slot reset from a state whose work has ended, as FULL attempt 1. -/
theorem toReset (hh : (s.slot n).state ≠ .held) (he : (s.slot n).state ≠ .empty) (ho : (s.slot n).state ≠ .offline) :
    SlotsOk ((s.endWork n).bootWithReset n 1) := by
  obtain ⟨hf, hr⟩ := (h.each n).no_force hh
  refine (h.near hp n).endWork.bootWithReset (by decide) ?_ ?_ ?_ <;> simp only [State.endWork_context]
  · exact (h.each n).good_outside he ho
  · exact hf
  · exact hr

theorem takeRelinkReset : SlotsOk (s.takeRelinkReset n) := by
  have now (hh : (s.slot n).state ≠ .held) (he : (s.slot n).state ≠ .empty) (ho : (s.slot n).state ≠ .offline) :
      SlotsOk (s.resetNow n) := by
    unfold State.resetNow
    split
    · exact h
    · exact h.toReset hp n hh he ho
  have resting (hs : (s.slot n).state = .failed ∨ (s.slot n).state = .mismatch) : SlotsOk (s.resetResting n) := by
    have hne : (s.slot n).state ≠ .booting ∧ (s.slot n).state ≠ .empty ∧ (s.slot n).state ≠ .offline ∧
        (s.slot n).state ≠ .held := by
      rcases hs with e | e <;> simp [e]
    obtain ⟨hb, he, ho, hh⟩ := hne
    have hw : s.endWork n = s := by rcases hs with e | e <;> rw [State.endWork, e]
    unfold State.resetResting
    split
    · exact h.startHeld hp n _ hb he ho
    · have := h.toReset hp n hh he ho
      rwa [hw] at this
  unfold State.takeRelinkReset
  split
  case h_6 e => exact resting (.inl e)
  case h_7 e => exact resting (.inr e)
  case h_8 e =>
    exact ((h.near hp n).ended (by simp [e])).goHeld (fun _ => rfl)
      ((h.each n).good_outside (by simp [e]) (by simp [e]))
      (h.resetOut_eq_pulse hp n (by simp [e]))
  case h_9 => exact h
  case h_10 => exact h
  all_goals
    rename_i e
    exact now (by simp [e]) (by simp [e]) (by simp [e])

theorem takeQuiesce : SlotsOk (s.takeQuiesce n) := by
  unfold State.takeQuiesce
  split
  · exact h
  · exact (h.near hp n).endWork.goOffline

/-- OFFLINE left (R49): by the recorded level and the watched rail. -/
theorem takeResume : SlotsOk (s.takeResume n) := by
  unfold State.takeResume
  split
  · rename_i hs
    obtain ⟨hf, hr⟩ := (h.each n).no_force (by simp [hs])
    have hpulse : (s.slot n).pulseTimer = none := (h.each n).no_pulse (by simp [hs]) (by simp [hs])
    have hw := (h.each n).no_wait (by simp [hs])
    have he := (h.near hp n).ended (by simp [hs])
    split
    · rename_i hg _
      have hfin : SlotsOk ((s.setSlot n { s.slot n with resetOut := false }).bootWithoutReset n) := by
        unfold State.bootWithoutReset State.startBootWait
        simp only [State.setSlot_setSlot, State.slot_setSlot, if_pos]
        refine he.wait (d := { s.slot n with resetOut := false, state := .booting, mode := .full, attempt := 1 })
          (timer := startTimer s.clock (s.path.captured.bootLimit.toNat * 100))
            (SlotContext.ok_booting ⟨(by decide : 1 ≤ 3), nofun, (h.each n).spread_le, (h.each n).drift_range⟩ rfl rfl
            (Nat.le_refl 1) (iff_of_false ?_ nofun) hf hr hg) rfl rfl ?_ _
        · simp [hpulse]
        · simp [hpulse]
      exact hfin
    · rename_i hg _
      have hfin : SlotsOk ((s.setSlot n { s.slot n with resetOut := false }).startHeld n false) := by
        unfold State.startHeld
        rw [State.setSlot_setSlot, State.slot_setSlot, if_pos rfl]
        refine he.enter (SlotContext.ok_held ⟨(by decide : 1 ≤ 3), nofun, (h.each n).spread_le,
          (h.each n).drift_range⟩ rfl hw (fun _ => rfl) hg) rfl ?_ hw
        simp [hpulse]
      exact hfin
    · rename_i hg
      have hfin : SlotsOk ((s.setSlot n { s.slot n with resetOut := false }).setSlot n
          { (s.setSlot n { s.slot n with resetOut := false }).slot n with state := .empty }) := by
        rw [State.setSlot_setSlot, State.slot_setSlot, if_pos rfl]
        refine he.enter (SlotContext.ok_other ⟨(h.each n).attempt_le, (h.each n).verify_attempt, (h.each n).spread_le,
          (h.each n).drift_range⟩ nofun nofun hpulse hw hf hr (fun e => absurd rfl e) fun _ => hg) rfl ?_ hw
        simp [hpulse]
      exact hfin
  · exact h

end SlotsOk

end Sys2Proof.Machine
end

section
/-! The slot contexts through training, the card-good declarations and every other row. -/

namespace Sys2Proof.Machine

/-- The context at power-on meets every clause. -/
theorem SlotContext.ok_initial : SlotContext.initial.Ok :=
  SlotContext.ok_other ⟨by decide, nofun, by decide, by decide⟩ nofun nofun rfl rfl rfl rfl (fun h => absurd rfl h)
    fun _ => rfl

/-! ## Which operations leave the listening of a link alone -/

section
variable (s : State) (n : SlotNo)

theorem State.listening_setLink {l : LinkUnit} (h : l.listening = (s.link n).listening) (m : SlotNo) :
    ((s.setLink n l).link m).listening = (s.link m).listening := by
  rw [State.link_setLink]
  split
  · subst_vars
    exact h
  · rfl

@[simp] theorem State.listening_freeLink (m : SlotNo) : ((s.freeLink n).link m).listening = (s.link m).listening := by
  apply State.listening_setLink
  rfl

@[simp] theorem State.listening_send (w : Work) (b : Bool) (m : SlotNo) :
    ((s.send n w b).link m).listening = (s.link m).listening := by
  apply State.listening_setLink
  rfl

@[simp] theorem State.listening_setRate (r : Rate) (m : SlotNo) :
    ((s.setRate n r).link m).listening = (s.link m).listening := by
  apply State.listening_setLink
  rfl

@[simp] theorem State.listening_tuneLink (r : Rate) (t : Tap) (m : SlotNo) :
    ((s.tuneLink n r t).link m).listening = (s.link m).listening := by
  apply State.listening_setLink
  rfl

@[simp] theorem State.listening_continueSweep (l : LaneNo) (w : Sweep) (m : SlotNo) :
    ((s.continueSweep l n w).link m).listening = (s.link m).listening := State.listening_send _ n _ _ m

@[simp] theorem State.listening_beginSweep (l : LaneNo) (mode : Mode) (m : SlotNo) :
    ((s.beginSweep l n mode).link m).listening = (s.link m).listening := by simp [State.beginSweep_eq]

@[simp] theorem State.listening_resend (m : SlotNo) : ((s.resend n).link m).listening = (s.link m).listening := by
  unfold State.resend
  split
  · exact State.listening_send _ n _ _ m
  · rfl

@[simp] theorem State.listening_chooseNext (m : SlotNo) :
    ((s.chooseNext n).link m).listening = (s.link m).listening := by
  unfold State.chooseNext
  split
  · refine (State.listening_send _ n _ _ m).trans ?_
    apply State.listening_setLink
    rfl
  · refine (State.listening_send _ n _ _ m).trans ?_
    apply State.listening_setLink
    rfl
  · rfl

@[simp] theorem State.listening_declareLoss (m : SlotNo) :
    ((s.declareLoss n).link m).listening = (s.link m).listening := by
  apply State.listening_setLink
  rfl

@[simp] theorem State.listening_completeOrder (m : SlotNo) :
    ((s.completeOrder n).link m).listening = (s.link m).listening := by
  apply State.listening_setLink
  rfl

@[simp] theorem State.listening_endWindow (w : WindowRequest) (a : CycleAnswer) (m : SlotNo) :
    ((s.endWindow n w a).link m).listening = (s.link m).listening := by
  have hd : ((s.dropWindow n).link m).listening = (s.link m).listening := by
    apply State.listening_setLink
    rfl
  unfold State.endWindow
  split <;> exact hd

@[simp] theorem State.listening_failWindow (w : WindowRequest) (r : BitVec 8) (m : SlotNo) :
    ((s.failWindow n w r).link m).listening = (s.link m).listening := by
  unfold State.failWindow State.raiseWindowFault
  split <;> exact State.listening_endWindow _ n _ _ m

@[simp] theorem State.listening_offerWindow (op : RegisterOp) (k : BitVec 10) (m : SlotNo) :
    ((s.offerWindow n op k).link m).listening = (s.link m).listening := by
  unfold State.offerWindow
  split
  · apply State.listening_setLink
    rfl
  · rfl

@[simp] theorem State.listening_accessWindow (op : RegisterOp) (k : BitVec 10) (m : SlotNo) :
    ((s.accessWindow n op k).link m).listening = (s.link m).listening := by
  unfold State.accessWindow
  split
  · rfl
  · exact State.listening_offerWindow ..

end

/-! ## Which operations on Supply Watch leave the card-good filters alone -/

section
variable (s : State)

@[simp] theorem State.cards_senseRail (l : Level) : (s.senseRail l).supply.cards = s.supply.cards := rfl

@[simp] theorem State.cards_railGood : s.railGood.supply.cards = s.supply.cards := by
  unfold State.railGood
  dsimp only
  split <;> rfl

@[simp] theorem State.cards_settleExpires : s.settleExpires.supply.cards = s.supply.cards := rfl

@[simp] theorem State.cards_endRecovery : s.endRecovery.supply.cards = s.supply.cards := rfl

@[simp] theorem State.cards_advanceClock : s.advanceClock.supply.cards = s.supply.cards := rfl

@[simp] theorem State.cards_tick : s.tick.supply.cards = s.supply.cards := by
  unfold State.tick
  split
  · rfl
  · split <;> rfl

end

namespace SlotsOk

/-! ## What changes no slot context -/

/-- Nothing of the slots, the card-good filters or power-on reset changed, and no link's listening. -/
theorem same_slots {s t : State} (h : SlotsOk s) (hs : t.slots = s.slots) (hc : t.supply.cards = s.supply.cards)
    (hl : ∀ n, (t.link n).listening = (s.link n).listening) (hp : t.por = s.por) : SlotsOk t :=
  h.congr (State.slot_congr hs) (fun n => congrArg (fun v : Vector Filter 24 => v[n].declared) hc) hl hp

/-- And no link either. -/
theorem same_links {s t : State} (h : SlotsOk s) (hs : t.slots = s.slots) (hc : t.supply = s.supply)
    (hl : t.links = s.links) (hp : t.por = s.por) : SlotsOk t :=
  h.same_slots hs (by rw [hc]) (fun n => by rw [State.link_congr hl]) hp

theorem raise {s : State} (h : SlotsOk s) (r : Record) : SlotsOk (s.raise r) := h.same_links rfl rfl rfl rfl

theorem keptByMoves : KeptByMoves SlotsOk where
  move s t hm h := by
    cases hm with
    | put i e => exact h.same_links rfl rfl rfl rfl
    | becomeIdle i => exact h.same_links rfl rfl rfl rfl
    | connect i f => exact h.same_links rfl rfl rfl rfl
    | append n o => exact h.same_slots rfl rfl (fun m => by apply State.listening_setLink; rfl) rfl
    | withdraw n i d => exact h.same_slots rfl rfl (fun m => by apply State.listening_setLink; rfl) rfl
  departed _ _ h := h.same_links rfl rfl rfl rfl
  sagged _ h := h.same_links rfl rfl rfl rfl

theorem departLink {s : State} (h : SlotsOk s) (n : SlotNo) : SlotsOk (s.departLink n) := by
  have hd (w : Option WindowRequest) (t : State) (ht : SlotsOk t) : SlotsOk (t.departWindow w) := by
    unfold State.departWindow
    split
    · exact ht
    · dsimp only
      split <;> exact ht.same_links rfl rfl rfl rfl
  exact keptByMoves.handBackAll n _ (hd _ _ (h.same_slots rfl rfl (fun m => by apply State.listening_setLink; rfl) rfl))

theorem finishDeparture {s : State} (h : SlotsOk s) (n : SlotNo) : SlotsOk (s.finishDeparture n) := by
  refine keptByMoves.finishCircuits n (keptByMoves.finishSags ?_)
  unfold State.finishLink
  split
  · exact h.departLink n
  · exact h

/-! ## On the way to LINKED -/

section
variable {s : State} (h : SlotsOk s) (hp : s.por = false)
include h hp

/-- A slot on its way to LINKED, its context replaced by one further on the way. -/
theorem advance {n : SlotNo} {d : SlotContext}
    (hs : (s.slot n).state = .pending ∨ (s.slot n).state = .training ∨ (s.slot n).state = .identify)
    (hd : d.state = .training ∨ d.state = .identify ∨ d.state = .linked) (ht : d.Tried)
    (hm : d.mode = .full → 1 ≤ d.attempt) (hpulse : d.pulseTimer = (s.slot n).pulseTimer)
    (hboot : d.bootTimer = (s.slot n).bootTimer) (hout : d.resetOut = (s.slot n).resetOut)
    (hgood : d.cardGood = (s.slot n).cardGood) (hf : d.forceFull = false) (hr : d.forceReset = false) :
    SlotsOk (s.setSlot n d) := by
  have hne : (s.slot n).state ≠ .booting ∧ (s.slot n).state ≠ .held ∧ (s.slot n).state ≠ .empty ∧
      (s.slot n).state ≠ .offline := by
    rcases hs with e | e | e <;> simp [e]
  obtain ⟨hb, hh, he, ho⟩ := hne
  have hde : d.state ≠ .booting ∧ d.state ≠ .empty ∧ d.state ≠ .offline := by
    rcases hd with e | e | e <;> simp [e]
  have hnone := (h.each n).no_pulse hb hh
  have hwait := (h.each n).no_wait hb
  refine ((h.near hp n).ended hb).enter (SlotContext.ok_other ht hde.1 (fun _ => hm) (hpulse.trans hnone)
    (hboot.trans hwait) hf hr (fun _ _ => hgood.trans ((h.each n).good_outside he ho)) fun e => absurd e hde.2.1)
    hgood ?_ (hboot.trans hwait)
  rw [hout, hpulse, hnone, h.resetOut_eq_false hp n hnone ho]
  simp [hde.2.2]

omit hp in
theorem beginSweep (n : SlotNo) (l : LaneNo) (mode : Mode) : SlotsOk (s.beginSweep l n mode) :=
  h.same_slots (by simp) (by simp) (fun _ => by simp) (by simp)

theorem failVerify {n : SlotNo} (hs : (s.slot n).state = .training) (l : LaneNo) (r : FailReason) :
    SlotsOk (s.failVerify l n r) := by
  obtain ⟨hf, hr⟩ := (h.each n).no_force (by simp [hs])
  exact (h.advance (d := { s.slot n with lastFailure := r, mode := .full, attempt := 1 }) hp (.inr (.inl hs))
    (.inl hs) ⟨(by decide : 1 ≤ 3), nofun, (h.each n).spread_le, (h.each n).drift_range⟩
      (fun _ => Nat.le_refl 1) rfl rfl rfl rfl hf hr).beginSweep n l .full

theorem bindLane {n : SlotNo} (hs : (s.slot n).state = .pending) (l : LaneNo) : SlotsOk (s.bindLane n l) := by
  obtain ⟨hf, hr⟩ := (h.each n).no_force (by simp [hs])
  have hset : SlotsOk (s.setSlot n { s.slot n with state := .training, lane := some l }) :=
    h.advance hp (.inl hs) (.inl rfl)
      ⟨(h.each n).attempt_le, (h.each n).verify_attempt, (h.each n).spread_le, (h.each n).drift_range⟩
      ((h.each n).full_attempt (by simp [hs, SlotState.relinking])) rfl rfl rfl rfl hf hr
  unfold State.bindLane State.startSweep
  split
  · exact hset.beginSweep n l _
  · split
    · exact hset.beginSweep n l _
    · exact hset.failVerify hp (by rw [State.slot_setSlot, if_pos rfl]) l _

omit hp in
theorem freeLink (n : SlotNo) : SlotsOk (s.freeLink n) := h.same_slots rfl rfl (fun _ => by simp) rfl

/-- A lock: IDENTIFY entered with the lock results in their ranges (R59, R61, R63). -/
theorem lockSweep {n : SlotNo} (hs : (s.slot n).state = .training) (w : Sweep) (low high : Tap) :
    SlotsOk (s.lockSweep n w low high) := by
  obtain ⟨hf, hr⟩ := (h.each n).no_force (by simp [hs])
  have hspread : edgeSpread low high ≤ 62 := by
    unfold edgeSpread edgeDistance
    omega
  have hdrift (g : LastGood) (e : Tap) : -32 ≤ driftOf g w.rate e ∧ driftOf g w.rate e ≤ 31 := by
    unfold driftOf cyclicDrift
    split <;> omega
  refine (h.advance (d := { s.slot n with
    state := .identify, lane := none, lock := s.lockOf n w low high, expected := (s.sl0 n).expectedType }) hp
    (.inr (.inl hs)) (.inr (.inl rfl)) ⟨(h.each n).attempt_le, (h.each n).verify_attempt, hspread, hdrift _ _⟩
    ((h.each n).full_attempt (by simp [hs, SlotState.relinking])) rfl rfl rfl rfl hf hr).congr (fun m => ?_)
    (fun m => ?_) (fun m => ?_) (by simp [State.lockSweep])
  · rw [State.slot_lockSweep, State.slot_setSlot]
  · rw [State.card_congr (by simp [State.lockSweep] : (s.lockSweep n w low high).supply = s.supply)]
    rfl
  · simp only [State.lockSweep, State.enterIdentify, State.listening_send, State.listening_tuneLink, State.link_setSlot]
    exact congrArg LinkUnit.listening (State.link_congr (by simp) m)

theorem concludeSweep {n : SlotNo} (hs : (s.slot n).state = .training) (l : LaneNo) (w : Sweep) :
    SlotsOk ((s.freeLink n).concludeSweep l n w) := by
  have hfree := h.freeLink n
  have fail (r : FailReason) : SlotsOk ((s.freeLink n).failSweep l n w.mode r) := by
    unfold State.failSweep
    split
    · exact hfree.failVerify hp hs l r
    · rw [State.releaseLane_freeLink hs]
      exact h.endFail hp n r ((h.each n).no_pulse (by simp [hs]) (by simp [hs])) (.inr (.inl hs))
  unfold State.concludeSweep
  split
  · exact fail _
  · split
    · exact fail _
    · exact hfree.lockSweep hp hs w _ _

theorem endProbe (hl : LanesOk s) (n : SlotNo) (bit : Bool) : SlotsOk (s.endProbe n bit) := by
  have hfree := h.freeLink n
  unfold State.endProbe
  split
  · rename_i l w hw
    have hs : (s.slot n).state = .training := (hl.training n).mp (by rw [(State.sweepOf_eq_some.mp hw).1]; rfl)
    unfold State.sampled
    split
    · exact hfree.same_slots rfl rfl (fun _ => by simp) rfl
    split
    · exact hfree.same_slots rfl rfl (fun _ => by simp) rfl
    · exact h.concludeSweep hp hs l _
  · exact hfree

theorem goLinked {n : SlotNo} (hs : (s.slot n).state = .identify) : SlotsOk (s.goLinked n) := by
  have hset := h.advance (d := { s.slot n with
    state := .linked, lane := none, forceFull := false, forceReset := false,
    lastGood := ⟨(s.slot n).lock.edge, (s.slot n).lock.rate, true⟩ }) hp (.inr (.inr hs)) (.inr (.inr rfl))
    ⟨(h.each n).attempt_le, (h.each n).verify_attempt, (h.each n).spread_le, (h.each n).drift_range⟩
    ((h.each n).full_attempt (by simp [hs, SlotState.relinking])) rfl rfl rfl rfl rfl rfl
  exact hset.raise _

theorem identified {n : SlotNo} (hs : (s.slot n).state = .identify) (type revision : BitVec 16) :
    SlotsOk (s.identified n type revision) := by
  obtain ⟨hf, hr⟩ := (h.each n).no_force (by simp [hs])
  have hself : ((s.freeLink n).recordIdentity n type revision).slot n =
      { s.slot n with foundType := type, foundRevision := revision } := by
    rw [State.recordIdentity, State.slot_setSlot, if_pos rfl]
    rfl
  have hrec : SlotsOk ((s.freeLink n).recordIdentity n type revision) :=
    (h.freeLink n).advance hp (.inr (.inr hs)) (.inr (.inl hs))
      ⟨(h.each n).attempt_le, (h.each n).verify_attempt, (h.each n).spread_le, (h.each n).drift_range⟩
      ((h.each n).full_attempt (by simp [hs, SlotState.relinking])) rfl rfl rfl rfl hf hr
  have hstate : (((s.freeLink n).recordIdentity n type revision).slot n).state = .identify := by rw [hself, hs]
  have hpulse := (hrec.each n).no_pulse (by simp [hstate]) (by simp [hstate])
  unfold State.identified
  dsimp only
  split
  · split
    · exact hrec.goLinked hp hstate
    · exact hrec.same_slots rfl rfl (fun _ => by simp) rfl
  · exact ((hrec.near hp n).ended (by simp [hstate])).goMismatch
      ((hrec.each n).good_outside (by simp [hstate]) (by simp [hstate])) hpulse (by rw [hself]; exact hf)
      (by rw [hself]; exact hr) (hrec.resetOut_eq_false hp n hpulse (by simp [hstate]))

/-! ## The reset pulse (R25) -/

theorem endPulse {n : SlotNo} (hd : timerDue s.clock (s.slot n).pulseTimer = true) : SlotsOk (s.endPulse n) := by
  have hrun : (s.slot n).pulseTimer.isSome = true := by
    cases e : (s.slot n).pulseTimer with
    | none => rw [e] at hd; cases hd
    | some t => rfl
  have ht : (s.slot n).Tried := (h.each n).tried
  unfold State.endPulse
  dsimp only
  rcases (h.each n).pulse_state hrun with hs | hs
  · obtain ⟨hf, hr⟩ := (h.each n).no_force (by simp [hs])
    have hwait : (s.slot n).bootTimer = none := ((h.each n).booting_timer hs).mp hrun
    have he : s.Ended n := { h.near hp n with waits := hwait }
    rw [if_pos (by simp [hs])]
    unfold State.startBootWait
    rw [State.setSlot_setSlot, State.slot_setSlot, if_pos rfl]
    refine he.wait (d := { s.slot n with pulseTimer := none, resetOut := (s.slot n).state == .offline })
      (timer := startTimer s.clock (s.path.captured.bootLimit.toNat * 100)) (SlotContext.ok_booting
      ⟨ht.attempt_le, ht.verify_attempt, ht.spread_le, ht.drift_range⟩ hs ((h.each n).booting_full hs)
      ((h.each n).full_attempt (by simp [hs, SlotState.relinking]) ((h.each n).booting_full hs))
      (iff_of_false nofun nofun) hf hr ((h.each n).good_outside (by simp [hs]) (by simp [hs]))) rfl rfl rfl _
  · rw [if_neg (by simp [hs])]
    exact ((h.near hp n).ended (by simp [hs])).enter (SlotContext.ok_held
      ⟨ht.attempt_le, ht.verify_attempt, ht.spread_le, ht.drift_range⟩ hs ((h.each n).no_wait (by simp [hs]))
      (h.each n).force_reset ((h.each n).good_outside (by simp [hs]) (by simp [hs]))) rfl rfl
      ((h.each n).no_wait (by simp [hs]))

end

/-! ## The shelf notices (R42, R43) -/

theorem holdSlots {s : State} (h : SlotsOk s) (hp : s.por = false) : SlotsOk s.holdSlots := by
  have hfold (l : List SlotNo) (t : State) (ht : SlotsOk t) (htp : t.por = false) :
      SlotsOk (l.foldl State.holdSlot t) := by
    induction l generalizing t with
    | nil => exact ht
    | cons n l ih => exact ih _ (ht.holdSlot htp n) (by simpa using htp)
  exact hfold allSlots _ (h.same_links rfl rfl rfl rfl) hp

theorem recoverSlots {s : State} (h : SlotsOk s) (hp : s.por = false) (cls : Classification) :
    SlotsOk (s.recoverSlots cls) := by
  have hfold (l : List SlotNo) (t : State) (ht : SlotsOk t) (htp : t.por = false) :
      SlotsOk (l.foldl (State.recoverSlot cls) t) := by
    induction l generalizing t with
    | nil => exact ht
    | cons n l ih => exact ih _ (ht.recoverSlot htp n cls) (by simpa using htp)
  have hall := hfold allSlots (s.takeSlotsNotice false) (h.same_links rfl rfl rfl rfl) hp
  unfold State.recoverSlots
  exact hall.same_links (by simp) (by simp) (by simp) (by simp)

end SlotsOk

/-! ## Card-good declarations (R27, R28) -/

/-- A slot about to enter a state whose context is as it should be. -/
theorem State.Near.slots_ok {s : State} {n : SlotNo} (h : s.Near n) (ho : (s.slot n).Ok) : SlotsOk s :=
  .of_slot fun m => by
    by_cases hm : n = m
    · subst hm
      exact ⟨ho, h.level, by rw [h.running]; exact h.output, h.listens⟩
    · exact h.others m hm

namespace SlotsOk

section
variable {s : State} (h : SlotsOk s) (hp : s.por = false) (n : SlotNo)
include h hp

/-- A level declared and recorded. -/
theorem near_declared (l : Level) : ((s.declareCard n l).recordCardGood n l).Near n := by
  have hself : ((s.declareCard n l).recordCardGood n l).slot n =
      { s.slot n with cardGood := l, cgHeld := (s.slot n).cgHeld && l == .good } := by
    rw [State.recordCardGood, State.slot_setSlot, if_pos rfl]
    rfl
  have hn := h.near hp n
  refine ⟨hp, ?_, ?_, ?_, ?_, ?_, fun m hm => (h.slot m).congr ?_ ?_ rfl rfl⟩
  · rw [hself]
    exact ⟨hn.tried.attempt_le, hn.tried.verify_attempt, hn.tried.spread_le, hn.tried.drift_range⟩
  · rw [hself]
    exact hn.boot_state
  · rw [hself, State.recordCardGood, State.declareCard, State.card_congr (State.setSlot_supply ..), State.card_setCard,
      if_pos rfl]
    rfl
  · rw [hself]
    exact hn.output
  · rw [hself]
    exact hn.listens
  · rw [State.recordCardGood, State.slot_setSlot, if_neg hm]
    rfl
  · rw [State.recordCardGood, State.declareCard, State.card_congr (State.setSlot_supply ..), State.card_setCard,
      if_neg hm]

theorem cardArrives (hd : (s.card n).declared ≠ .good) : SlotsOk ((s.declareCard n .good).cardArrives n) := by
  have hself : ((s.declareCard n .good).recordCardGood n .good).slot n =
      { s.slot n with cardGood := .good, cgHeld := (s.slot n).cgHeld && Level.good == .good } := by
    rw [State.recordCardGood, State.slot_setSlot, if_pos rfl]
    rfl
  have hn := h.near_declared hp n .good
  have hlow : (s.slot n).cardGood ≠ .good := fun e => hd (by rw [← h.level, e])
  have hstate : (s.slot n).state = .empty ∨ (s.slot n).state = .offline := by
    by_contra hc
    rw [not_or] at hc
    exact hlow ((h.each n).good_outside hc.1 hc.2)
  have hne : (s.slot n).state ≠ .held ∧ (s.slot n).state ≠ .booting := by rcases hstate with e | e <;> simp [e]
  obtain ⟨hf, hr⟩ := (h.each n).no_force hne.1
  have hpulse := (h.each n).no_pulse hne.2 hne.1
  have hended := hn.ended (by rw [hself]; exact hne.2)
  unfold State.cardArrives
  dsimp only
  split
  · rename_i he
    have he' : (s.slot n).state = .empty := he
    have hout := h.resetOut_eq_false hp n hpulse (by simp [he'])
    split
    · exact hended.startHeld (by rw [hself]) (by rw [hself, hpulse, hout]; rfl)
    · exact hended.bootWithoutReset (by rw [hself]) (by rw [hself, hpulse]) (by rw [hself, hf]) (by rw [hself, hr])
        (by rw [hself, hout])
  · rename_i he
    have ho : (s.slot n).state = .offline := hstate.resolve_left he
    refine hn.slots_ok ?_
    rw [hself]
    exact SlotContext.ok_other ⟨(h.each n).attempt_le, (h.each n).verify_attempt, (h.each n).spread_le,
      (h.each n).drift_range⟩ hne.2 (fun e => by simp [ho, SlotState.relinking] at e) hpulse
      ((h.each n).no_wait hne.2) hf hr (fun _ _ => rfl) fun e => absurd e he

omit hp in
/-- A context in EMPTY or OFFLINE, the level recorded as low. -/
theorem ok_gone (he : (s.slot n).state = .empty ∨ (s.slot n).state = .offline) (b : Bool) :
    SlotContext.Ok { s.slot n with cardGood := .low, cgHeld := b } := by
  have hne : (s.slot n).state ≠ .held ∧ (s.slot n).state ≠ .booting ∧ (s.slot n).state.relinking = false := by
    rcases he with e | e <;> simp [e, SlotState.relinking]
  obtain ⟨hh, hb, hrel⟩ := hne
  obtain ⟨hf, hr⟩ := (h.each n).no_force hh
  exact SlotContext.ok_other ⟨(h.each n).attempt_le, (h.each n).verify_attempt, (h.each n).spread_le,
    (h.each n).drift_range⟩ hb (fun e => by rw [hrel] at e; cases e) ((h.each n).no_pulse hb hh)
    ((h.each n).no_wait hb) hf hr (fun h1 h2 => absurd he (by simp [h1, h2])) fun _ => rfl

theorem cardLeaves : SlotsOk ((s.declareCard n .low).cardLeaves n) := by
  have hself : ((s.declareCard n .low).recordCardGood n .low).slot n =
      { s.slot n with cardGood := .low, cgHeld := (s.slot n).cgHeld && Level.low == .good } := by
    rw [State.recordCardGood, State.slot_setSlot, if_pos rfl]
    rfl
  have hn := h.near_declared hp n .low
  unfold State.cardLeaves
  dsimp only
  split
  · rename_i he
    refine hn.slots_ok ?_
    rw [hself]
    exact h.ok_gone n he _
  · have hlost (t : State) (ht : t.Near n) : (t.raiseLost n).Near n := by
      unfold State.raiseLost
      split
      · exact ⟨ht.running, ht.tried, ht.boot_state, ht.level, ht.output, ht.listens,
          fun m hm => (ht.others m hm).congr rfl rfl rfl rfl⟩
      · exact ht
    refine (hlost _ hn).endWork.goEmpty ?_
    have hs : (((s.declareCard n .low).recordCardGood n .low).raiseLost n).slot n = _ :=
      (State.slot_congr (by simp) n).trans hself
    rw [(State.endWork_context _ n).2.2.2.1, hs]

end

/-! ## Episodes and resets -/

/-- The flags of an opened episode are read by no clause. -/
theorem openEpisode {s : State} (h : SlotsOk s) (stamp : Word) : SlotsOk (s.openEpisode stamp) := .of_slot fun n => by
  obtain ⟨a, b, c, d, e, f, g, i, j, k, l, m, o⟩ := h.each n
  refine ⟨?_, ?_, ?_, ?_⟩ <;> rw [State.slot_openEpisode]
  · exact ⟨a, b, c, d, e, f, g, i, j, k, l, m, o⟩
  · exact h.level n
  · exact h.output n
  · exact h.listens n

theorem takeRelinkAll {s : State} (h : SlotsOk s) : SlotsOk s.takeRelinkAll := by
  unfold State.takeRelinkAll
  split
  · exact (h.openEpisode s.clock).same_slots rfl rfl (fun _ => rfl) rfl
  · exact h

theorem railLow {s : State} (h : SlotsOk s) : SlotsOk s.railLow := by
  have hd : SlotsOk (s.declareRail .low) := h.same_slots rfl rfl (fun _ => rfl) rfl
  have hnew : SlotsOk (s.declareRail .low).beginSag :=
    (hd.openEpisode (s.declareRail .low).changeTime).same_slots rfl rfl (fun _ => rfl) rfl
  unfold State.railLow
  dsimp only
  split
  · exact hnew
  · exact hnew
  · exact hd.same_slots rfl rfl (fun _ => rfl) rfl
  · exact hd

theorem writeShadow {s : State} (h : SlotsOk s) (hp : s.por = false) (w : ShadowWord) (d : Word) (e : ByteEnables) :
    SlotsOk (s.writeShadow w d e) := by
  have hr : KeptByRequestWrites fun s => SlotsOk s ∧ s.por = false := by
    refine ⟨fun s n hn h => ⟨keptByMoves.requestWrites.park s n hn h.1, ?_⟩,
      fun s i c f e h => ⟨keptByMoves.requestWrites.write s i c f e h.1, ?_⟩,
      fun s i e h => ⟨keptByMoves.requestWrites.bad s i e h.1, ?_⟩,
      fun s i h => ⟨keptByMoves.requestWrites.releaseOne s i h.1, ?_⟩⟩ <;> simpa using h.2
  have hq : KeptBySlotRequests fun s => SlotsOk s ∧ s.por = false := by
    refine ⟨fun s n h => ⟨h.1.takeRelink h.2 n, ?_⟩, fun s n h => ⟨h.1.takeRelinkReset h.2 n, ?_⟩,
      fun s n h => ⟨h.1.takeQuiesce h.2 n, ?_⟩, fun s n h => ⟨h.1.takeResume h.2 n, ?_⟩⟩ <;> simpa using h.2
  refine (State.writeShadow_keeps ⟨?_, ?_, ?_, ?_, ?_, ?_⟩ hq hr
    (fun s h => ⟨h.1.takeRelinkAll, by simpa using h.2⟩) ⟨h, hp⟩ w d e).1
  all_goals
    intros
    rename_i h
    exact ⟨h.1.same_links (by simp) (by simp) (by simp) (by simp), by simpa using h.2⟩

theorem powerOn (s : State) (area : BitVec 6) (filt : Bool) : SlotsOk (s.powerOn area filt) := .of_slot fun n => by
  have hs : (s.powerOn area filt).slot n = .initial := State.slot_reset n
  have hl : (s.powerOn area filt).link n = .initial := State.link_reset n
  refine ⟨?_, ?_, ?_, ?_⟩ <;> rw [hs]
  · exact SlotContext.ok_initial
  · rw [State.card_powerOn]
    rfl
  · rfl
  · rw [hl]
    rfl

theorem assertPowerOn {s : State} (h : SlotsOk s) : SlotsOk s.assertPowerOn := .of_slot fun n => by
  obtain ⟨a, b, c, d, e, f, g, i, j, k, l, m, o⟩ := h.each n
  refine ⟨?_, ?_, ?_, ?_⟩ <;> rw [State.slot_assertPowerOn]
  · exact ⟨a, b, c, d, e, f, g, i, j, k, l, m, o⟩
  · exact h.level n
  · rfl
  · rw [State.link_assertPowerOn]
    exact h.listens n

theorem resetController {s : State} (h : SlotsOk s) : SlotsOk s.resetController :=
  h.congr (fun _ => rfl) (fun _ => rfl) (fun n => by rw [State.link_resetController]; rfl) rfl

theorem senseCard {s : State} (h : SlotsOk s) (n : SlotNo) (l : Level) : SlotsOk (s.senseCard n l) := by
  refine h.congr (fun _ => rfl) (fun m => ?_) (fun _ => rfl) rfl
  rw [State.senseCard, State.card_setCard]
  split
  · subst_vars
    split
    · rfl
    · unfold Filter.sense
      split <;> rfl
  · rfl

/-! ## Every row -/

theorem of_effect {c : Instr} {s t : State} (h : SlotsOk s) (hl : LanesOk s) (he : Effect s t c)
    (hc : ∀ n f, c ≠ .discardedFrame n f) : SlotsOk t := by
  have table := keptByMoves
  cases c
  case powerOnReset a f =>
    subst he
    exact .powerOn s a f
  case powerOnResetAsserted =>
    subst he
    exact h.assertPowerOn
  case controllerReset =>
    rcases he with ⟨-, rfl⟩ | ⟨-, rfl⟩
    · exact h.same_links rfl rfl rfl rfl
    · exact h.resetController
  case cardGoodChange n l =>
    subst he
    exact h.senseCard n l
  case railDeclaredLow =>
    obtain ⟨-, -, rfl⟩ := he
    exact h.railLow
  case cardGoodDeclaredGood n =>
    obtain ⟨hp, hd, rfl⟩ := he
    exact h.cardArrives hp n hd.1
  case cardGoodDeclaredLow n =>
    obtain ⟨hp, -, rfl⟩ := he
    exact h.cardLeaves hp n
  case sagNoticeSlots =>
    obtain ⟨hp, -, ht⟩ := he
    rw [ht]
    exact (table.takeDepartures h).holdSlots (by simpa using hp)
  case recoverNoticeSlots =>
    obtain ⟨hp, cls, -, ht⟩ := he
    rw [ht]
    exact h.recoverSlots hp cls
  case sagNoticeCircuits =>
    obtain ⟨-, -, rfl⟩ := he
    exact table.takeSagCircuits h
  case departureNoticeCircuits n =>
    obtain ⟨-, -, rfl⟩ := he
    exact table.parkSlot n h
  case departureNoticeLink n =>
    obtain ⟨-, -, rfl⟩ := he
    exact h.departLink n
  case resetPulseExpiry n =>
    obtain ⟨hp, hd, rfl⟩ := he
    exact h.endPulse hp hd
  case bootTimeout n =>
    obtain ⟨hp, hd, rfl⟩ := he
    exact h.bootTimeout hp n hd _
  case idleFrame n =>
    obtain ⟨hp, ha, rfl⟩ := he
    exact h.alive hp n ha
  case laneGrant =>
    obtain ⟨hp, n, l, hd, rfl⟩ := he
    refine (h.finishDeparture n).bindLane (by simpa using hp) ?_ l
    rw [State.slot_congr (by simp : (s.finishDeparture n).slots = s.slots)]
    exact State.grantWinner_waits (State.grantDue_iff.mp hd).1
  case sampleReply n tag bit =>
    obtain ⟨hp, -, rfl⟩ := he
    exact h.endProbe hp hl n bit
  case probeTimeout n =>
    obtain ⟨hp, -, rfl⟩ := he
    exact h.endProbe hp hl n false
  case identityReply n tag type revision =>
    obtain ⟨hp, hi, rfl⟩ := he
    exact h.identified hp (State.identityTaken_iff.mp hi).1 type revision
  case clearOrderDone n tag =>
    obtain ⟨hp, hi, rfl⟩ := he
    exact (h.freeLink n).goLinked hp (State.clearTaken_iff.mp hi).1
  case identTimeout n =>
    obtain ⟨hp, hi, rfl⟩ := he
    have hs := State.identDue_state hi
    rw [← State.endWork_of_identify hs]
    exact h.endFail hp n _ ((h.each n).no_pulse (by simp [hs]) (by simp [hs])) (.inr (.inr hs))
  case linkLoss n =>
    obtain ⟨hp, hd, rfl⟩ := he
    exact h.takeLoss hp n hd
  case issue =>
    obtain ⟨-, i, -, -, rfl⟩ := he
    exact table.moves (s.issueEntry_moves i) (h.same_links rfl rfl rfl rfl)
  case connectDone n tag =>
    obtain ⟨-, o, -, rfl⟩ := he
    exact table.moves (State.takeConnectDone_moves _ n o)
      ((table.reachEntry _ h).same_slots rfl rfl (fun _ => by simp) rfl)
  case connectRefusal n tag reason =>
    obtain ⟨-, o, -, rfl⟩ := he
    have hr : SlotsOk ((s.reachEntry o.entry).completeOrder n) :=
      (table.reachEntry _ h).same_slots rfl rfl (fun _ => by simp) rfl
    rcases State.takeConnectRefusal_moves ((s.reachEntry o.entry).completeOrder n) n o reason with k | k
    · exact table.moves k hr
    · exact table.moves k (hr.raise _)
  case releaseResult n tag answer =>
    obtain ⟨-, o, -, rfl⟩ := he
    exact table.moves (State.takeReleaseEnd_moves _ n o)
      ((table.reachEntry _ h).same_slots rfl rfl (fun _ => by simp) rfl)
  case settableWordWrite w d e =>
    obtain ⟨hp, rfl⟩ := he
    exact (h.writeShadow hp.1 w d e).same_links rfl rfl rfl rfl
  case releaseAll =>
    obtain ⟨-, rfl⟩ := he
    exact (State.takeReleaseAll_keeps table.requestWrites h).same_links rfl rfl rfl rfl
  case connect i f e =>
    obtain ⟨-, rfl⟩ := he
    exact (table.requestWrites.write _ i _ f e (table.reachEntry i h)).same_links rfl rfl rfl rfl
  case release i f e =>
    obtain ⟨-, rfl⟩ := he
    exact (table.requestWrites.write _ i _ f e (table.reachEntry i h)).same_links rfl rfl rfl rfl
  case noneRequest i f e =>
    obtain ⟨-, rfl⟩ := he
    exact (table.requestWrites.write _ i _ f e (table.reachEntry i h)).same_links rfl rfl rfl rfl
  case badRequest i e =>
    obtain ⟨-, rfl⟩ := he
    exact (table.requestWrites.bad _ i e (table.reachEntry i h)).same_links rfl rfl rfl rfl
  case relink n =>
    obtain ⟨hp, rfl⟩ := he
    exact (h.takeRelink hp.1 n).same_links rfl rfl rfl rfl
  case relinkReset n =>
    obtain ⟨hp, rfl⟩ := he
    exact (h.takeRelinkReset hp.1 n).same_links rfl rfl rfl rfl
  case quiesce n =>
    obtain ⟨hp, rfl⟩ := he
    exact (h.takeQuiesce hp.1 n).same_links rfl rfl rfl rfl
  case resume n =>
    obtain ⟨hp, rfl⟩ := he
    exact (h.takeResume hp.1 n).same_links rfl rfl rfl rfl
  case relinkAll =>
    obtain ⟨-, rfl⟩ := he
    exact h.takeRelinkAll.same_links rfl rfl rfl rfl
  case discardedFrame n f => exact absurd rfl (hc n f)
  all_goals
    simp only [Effect] at he
    try casesm* _ ∧ _, ∃ _, _
    subst_vars
    exact h.same_slots (by simp) (by simp) (fun _ => by simp) (by simp)

end SlotsOk

/-- Settles O6: an operation on a slot ends the work of its state and enters the next, and each state entered meets the
clauses about timers, output, attempt and level. -/
theorem slotContextsStayConsistent : Obligations.SlotContextsStayConsistent := by
  intro s t h hl hs
  exact step_keeps_under (P := SlotsOk) (Q := LanesOk) (fun s q h => h.same_links rfl rfl rfl rfl)
    (fun s q h => h.congr (fun _ => rfl) fun _ => rfl) (fun s t h => h.same_links rfl rfl rfl rfl)
    (fun c s t hd hq h he => h.of_effect hq he hd)
    (fun s h => h.same_slots (by simp) (by simp) (fun _ => by simp) (by simp)) hl h hs

end Sys2Proof.Machine
end

section
/-! What commands answer: an event that stands, a cycle that is taken; the queue, the time base and its timers. -/

namespace Sys2Proof.Machine

/-! ## An event that stands and a cycle that is taken, with the state they leave written out -/

theorem State.event_eq {s t u : State} {due : Bool} (hp : s.por = false) (hd : due = true) (ht : t = u) :
    s.event due t = .next (s.judged u) := by rw [State.event_of hp hd, ht]

theorem State.cycle_eq {s t u : State} (h : s.PortFree) (ht : t.answered .written = u) :
    s.cycle t = .next (s.judged u) := by rw [State.cycle_of h, ht]

/-! ## Every command answers a next state -/

/-- A row of the table answers a next state. -/
theorem exec_row_answers {c : Instr} (hc : ∀ n f, c ≠ .discardedFrame n f) (s : State) : ∃ t, exec c s = .next t := by
  cases c
  case discardedFrame n f => exact absurd rfl (hc n f)
  case recoverNoticeSlots =>
    change ∃ t, execRecoverNoticeSlots s = .next t
    unfold execRecoverNoticeSlots
    split <;> exact ⟨_, rfl⟩
  case recoverNoticeRestore =>
    change ∃ t, execRecoverNoticeRestore s = .next t
    unfold execRecoverNoticeRestore
    split <;> exact ⟨_, rfl⟩
  case laneGrant =>
    change ∃ t, execLaneGrant s = .next t
    unfold execLaneGrant
    split <;> exact ⟨_, rfl⟩
  case connectDone n tag =>
    change ∃ t, execConnectDone n tag s = .next t
    unfold execConnectDone
    split <;> exact ⟨_, rfl⟩
  case connectRefusal n tag reason =>
    change ∃ t, execConnectRefusal n tag reason s = .next t
    unfold execConnectRefusal
    split <;> exact ⟨_, rfl⟩
  case releaseResult n tag answer =>
    change ∃ t, execReleaseResult n tag answer s = .next t
    unfold execReleaseResult
    split <;> exact ⟨_, rfl⟩
  case registerDataReply n tag data =>
    change ∃ t, execRegisterDataReply n tag data s = .next t
    unfold execRegisterDataReply
    split <;> exact ⟨_, rfl⟩
  case registerWriteDone n tag =>
    change ∃ t, execRegisterWriteDone n tag s = .next t
    unfold execRegisterWriteDone
    split <;> exact ⟨_, rfl⟩
  case registerRefusal n tag reason =>
    change ∃ t, execRegisterRefusal n tag reason s = .next t
    unfold execRegisterRefusal
    split <;> exact ⟨_, rfl⟩
  case registerTimeout n =>
    change ∃ t, execRegisterTimeout n s = .next t
    unfold execRegisterTimeout
    split <;> exact ⟨_, rfl⟩
  case issue =>
    change ∃ t, execIssue s = .next t
    unfold execIssue
    split <;> exact ⟨_, rfl⟩
  case plainAccessDone w =>
    change ∃ t, execPlainAccessDone w s = .next t
    unfold execPlainAccessDone
    split <;> exact ⟨_, rfl⟩
  case journalWordDone =>
    change ∃ t, execJournalWordDone s = .next t
    unfold execJournalWordDone
    split <;> exact ⟨_, rfl⟩
  case deferredWindowOffer =>
    change ∃ t, execDeferredWindowOffer s = .next t
    unfold execDeferredWindowOffer
    split <;> exact ⟨_, rfl⟩
  all_goals exact ⟨_, rfl⟩

/-- A frame that R69 takes does what its row does. -/
theorem State.takeFrame_answers (s : State) (n : SlotNo) (f : RxFrame) : ∃ t, s.takeFrame n f = .next t := by
  have row (c : Instr) (hc : ∀ n f, c ≠ .discardedFrame n f) : ∃ t, exec c s = .next t := exec_row_answers hc s
  unfold State.takeFrame
  split
  · exact row (.idleFrame n) nofun
  · exact row (.sampleReply n f.tag _) nofun
  · exact row (.identityReply n f.tag _ _) nofun
  · exact row (.registerDataReply n f.tag _) nofun
  · exact ⟨s, rfl⟩
  · exact ⟨s, rfl⟩
  · split
    · exact row (.clearOrderDone n f.tag) nofun
    · split
      · exact row (.connectDone n f.tag) nofun
      · exact row (.releaseResult n f.tag .done) nofun
    · exact row (.registerWriteDone n f.tag) nofun
    · exact ⟨s, rfl⟩
  · split
    · split
      · exact row (.connectRefusal n f.tag _) nofun
      · exact row (.releaseResult n f.tag (.refusal _)) nofun
    · exact row (.registerRefusal n f.tag _) nofun
    · exact ⟨s, rfl⟩

theorem exec_answers (c : Instr) (s : State) : ∃ t, exec c s = .next t := by
  by_cases hd : ∃ n f, c = .discardedFrame n f
  · obtain ⟨n, f, rfl⟩ := hd
    change ∃ t, execDiscardedFrame n f s = .next t
    unfold execDiscardedFrame
    split
    · exact s.takeFrame_answers n f
    · exact ⟨s, rfl⟩
  · exact exec_row_answers (fun n f e => hd ⟨n, f, e⟩) s

/-- No row changes the queue behind its command. -/
theorem Effect.pending {c : Instr} {s t : State} (he : Effect s t c) (hc : ∀ n f, c ≠ .discardedFrame n f) :
    t.pending = s.pending := by
  cases c
  case discardedFrame n f => exact absurd rfl (hc n f)
  case powerOnReset a f =>
    subst he
    rfl
  case controllerReset => rcases he with ⟨-, rfl⟩ | ⟨-, rfl⟩ <;> rfl
  all_goals
    simp only [Effect] at he
    try casesm* _ ∧ _, ∃ _, _
    subst_vars
    simp

/-- While power-on reset is asserted no row has an effect but those of the pins and the two resets. -/
theorem Effect.not_por {c : Instr} {s t : State} (he : Effect s t c) (hp : s.por = true)
    (h1 : ∀ area filt, c ≠ .powerOnReset area filt) (h2 : c ≠ .powerOnResetAsserted) (h3 : c ≠ .controllerReset)
    (h4 : c ≠ .controllerResetRelease) (h5 : ∀ l, c ≠ .railSenseChange l) (h6 : ∀ n l, c ≠ .cardGoodChange n l)
    (hd : ∀ n f, c ≠ .discardedFrame n f) : False := by
  cases c
  case powerOnReset a f => exact h1 a f rfl
  case powerOnResetAsserted => exact h2 rfl
  case controllerReset => exact h3 rfl
  case controllerResetRelease => exact h4 rfl
  case railSenseChange l => exact h5 l rfl
  case cardGoodChange n l => exact h6 n l rfl
  case discardedFrame n f => exact hd n f rfl
  all_goals simp [Effect, State.PortFree, hp] at he

/-- Settles O3: a command answers its effect or the state as it was, and under power-on reset no row but those of the
pins and the resets has an effect. -/
theorem everyCommandAnswers : Obligations.EveryCommandAnswers := by
  refine ⟨fun c s => ?_, fun c s hp h1 h2 h3 h4 h5 h6 => ?_, fun s hp => ⟨fun l => ?_, fun n l => ?_, ?_, rfl⟩⟩
  · obtain ⟨t, ht⟩ := exec_answers c s
    refine ⟨t, ht, ?_⟩
    rcases exec_effect ht with rfl | ⟨c', u, he, hd, -, rfl | rfl⟩
    · rfl
    · exact he.pending hd
    · exact he.pending hd
  · obtain ⟨t, ht⟩ := exec_answers c s
    rcases exec_effect ht with rfl | ⟨c', u, he, hd, hc | hc, -⟩
    · exact ht
    · subst hc
      exact (he.not_por hp h1 h2 h3 h4 h5 h6 hd).elim
    · refine (he.not_por hp ?_ ?_ ?_ ?_ ?_ ?_ hd).elim <;>
        · intros
          rintro rfl
          cases hc
  · change execRailSenseChange l s = _
    rw [execRailSenseChange, State.senseRail, if_pos hp]
  · change execCardGoodChange n l s = _
    rw [execCardGoodChange, State.senseCard, if_pos hp]
  · change execControllerReset s = _
    rw [execControllerReset, if_pos hp]

/-- Settles O1: a step of a queue that is not empty is its front command's meaning on the rest. -/
theorem stepRunsFrontCommand : Obligations.StepRunsFrontCommand := fun _ _ _ => rfl

/-! ## The time base and its timers (R1, R72) -/

/-- A microsecond that does not complete its millisecond. -/
theorem State.tick_of_within {s : State} (hp : s.por = false) (h : s.supply.micro + 1 < 1000) : s.tick =
    { s with supply := { s.supply with micro := s.supply.micro + 1, elapsed := s.supply.elapsed + 1 } } := by
  rw [State.tick, if_neg (by simp [hp]), if_pos h]

/-- The last one of a millisecond. -/
theorem State.tick_of_last {s : State} (hp : s.por = false) (h : ¬s.supply.micro + 1 < 1000) :
    s.tick = s.advanceClock := by
  rw [State.tick, if_neg (by simp [hp]), if_neg h]

theorem step_of_empty {s : State} (h : s.pending = []) : step s = .next s.tick := by
  unfold step
  rw [h]

/-- Settles O2: by the three cases of the microsecond, and the clock as SW6 shows it. -/
theorem timePassesByMicroseconds : Obligations.TimePassesByMicroseconds := by
  refine ⟨fun s hs => ⟨fun hp => ?_, fun hp hm => ?_, fun hp hm => ?_⟩, fun s hp => ?_⟩
  · rw [step_of_empty hs, State.tick, if_pos hp]
  · rw [step_of_empty hs, State.tick_of_within hp (by omega)]
  · rw [step_of_empty hs, State.tick_of_last hp (by omega)]
    rfl
  · exact ⟨s.advanceClock, State.event_of hp rfl, rfl, rfl⟩

/-- A time k ms after a start has reached an expiry n ms after it exactly where n ≤ k, for spans that the clock holds.
-/
theorem reached_add_iff (t : Word) {n k : Nat} (hn : n ≤ 65535) (hk : k ≤ 65535) :
    reached (t + BitVec.ofNat 32 k) (t + BitVec.ofNat 32 n) = true ↔ n ≤ k := by
  simp only [reached, decide_eq_true_eq, BitVec.toNat_sub, BitVec.toNat_add, BitVec.toNat_ofNat]
  omega

/-- Settles O17: both expiries are cyclic differences, within half the span for the times the statement names. -/
theorem timersExpireOnTime : Obligations.TimersExpireOnTime := by
  refine ⟨fun t n k hn hk => reached_add_iff t hn hk, fun w w' f n k hf hn hk hm hw => ?_⟩
  have hlt : w.micros < microSpan := by
    have := w.clock.isLt
    simp only [Supply.micros, microSpan]
    omega
  simp only [Supply.microReached, Supply.microExpiry, hw, decide_eq_true_eq]
  simp only [microSpan] at hlt ⊢
  omega

end Sys2Proof.Machine
end

section
/-! Supply Watch: the input filters, the episodes, and the judgements that end recovery (R2, R3, R6 to R14). -/

namespace Sys2Proof.Machine

/-! ## The filters (R2, R3) -/

/-- A raw input seen, with what becomes of a pending change written out. -/
theorem Filter.sense_eq (f : Filter) (clock time : Word) (l : Level) : f.sense clock time l =
    { f with raw := l, change := if l ≠ f.declared then some (f.change.getD clock)
        else f.change.filter fun t => reached clock (t + time) } := by
  have hkept :
      (if f.lasted clock time then f.change else none) = f.change.filter fun t => reached clock (t + time) := by
    unfold Filter.lasted
    cases f.change <;> rfl
  unfold Filter.sense
  by_cases h : l = f.declared
  · simp only [if_pos h, hkept, if_neg (not_not_intro h)]
  · simp only [if_neg h, if_pos h]

/-- Settles O18: a raw input of the running part goes through its filter alone. -/
theorem rawInputsAreTimed : Obligations.RawInputsAreTimed := by
  refine ⟨fun l s hp => ?_, fun n l s hp => ?_⟩
  · change execRailSenseChange l s = _
    rw [execRailSenseChange, State.senseRail, if_neg (by simp [hp]), Filter.sense_eq]
    rfl
  · change execCardGoodChange n l s = _
    rw [execCardGoodChange, State.senseCard, if_neg (by simp [hp]), Filter.sense_eq]
    rfl

/-! ## Episodes (R6 to R11, R14) -/

theorem exec_railDeclaredLow {s : State} (hp : s.por = false)
    (hd : s.supply.rail.StandsFor s.clock s.supply.filterTime .low) :
    exec .railDeclaredLow s = .next (s.judged s.railLow) := State.event_of hp (Filter.declares_iff.mpr hd)

theorem exec_railDeclaredGood {s : State} (hp : s.por = false)
    (hd : s.supply.rail.StandsFor s.clock s.supply.filterTime .good) :
    exec .railDeclaredGood s = .next (s.judged s.railGood) := State.event_of hp (Filter.declares_iff.mpr hd)

/-- Settles O19: the rail declared low opens an episode from NORMAL and RECOVER and continues it from SETTLE. -/
theorem railDeclaredLow : Obligations.RailDeclaredLow := by
  refine fun s hp hd => ⟨fun hs => ?_, fun hs => ?_⟩
  · rw [exec_railDeclaredLow hp hd, State.railLow_of_new hs]
    rfl
  · rw [exec_railDeclaredLow hp hd, State.railLow_of_settle hs]
    rfl

/-- R16: the duration as the statements write it. -/
theorem episodeDuration_eq (change stamp : Word) : episodeDuration change stamp =
    if (change - stamp).toNat ≤ 65535 then BitVec.ofNat 16 (change - stamp).toNat else 65535#16 := by
  rw [episodeDuration, BitVec.ofNat_toNat]

/-- A timer's length read from a field of 16 bits. -/
theorem startTimer_field (clock : Word) (v : BitVec 16) : startTimer clock v.toNat = some (clock + v.setWidth 32) := by
  rw [startTimer, BitVec.ofNat_toNat]

/-- Settles O20: SAG left with the running duration, and SETTLE with the episode's class. -/
theorem sagEndsAndRecoveryBegins : Obligations.SagEndsAndRecoveryBegins := by
  refine ⟨fun s hp hd hs => ?_, fun s e hp hs ht hr => ?_⟩
  · rw [exec_railDeclaredGood hp hd, State.railGood_of_sag hs]
    simp only [State.endSag, State.duration, State.settleStart, episodeDuration_eq, startTimer_field]
    rfl
  · have hdue : s.settleDue = true := by simp [State.settleDue, hs, ht, timerDue, State.clock, hr]
    exact State.event_of hp hdue

/-- Settles O23: outside NORMAL the request changes nothing, in NORMAL it opens a forced episode. -/
theorem relinkAllForcesAnEpisode : Obligations.RelinkAllForcesAnEpisode := by
  refine fun s hf => ⟨fun hs => State.cycle_eq hf ?_, fun hs => State.cycle_eq hf ?_⟩
  · rw [State.takeRelinkAll, if_pos hs]
    simp [State.enterRecover, State.sendSag, State.sendRecover, State.openEpisode, State.raise, State.answered,
      State.shelfRecord, State.gapRecord, State.clock, SlotContext.markEpisode, Classification.code]
  · rw [State.takeRelinkAll, if_neg hs]

/-! ## The end of recovery (R12, R13) -/

theorem SlotState.unsettled_iff {x : SlotState} :
    x.unsettled = true ↔ x ∈ [SlotState.held, .booting, .pending, .training, .identify] := by
  cases x <;> decide

/-- R12: the settled condition, slot by slot and entry by entry. -/
theorem State.settled_iff {s : State} : s.settled = true ↔
    (∀ n, (s.slot n).state ∉ [SlotState.held, .booting, .pending, .training, .identify]) ∧
    ∀ p ∈ s.circuits.entries, p.2.state ≠ .restoring ∧
      (p.2.state = .waiting → s.bothLinked p.2 = true → s.path.captured.restoreFloor < p.2.fields.cls) := by
  have hslot (n : SlotNo) : (!(s.slot n).state.unsettled) = true ↔
      (s.slot n).state ∉ [SlotState.held, .booting, .pending, .training, .identify] := by
    rw [← SlotState.unsettled_iff, Bool.not_eq_true', Bool.not_eq_true]
  have hentry (e : Entry) : (!s.unsettledEntry e) = true ↔ e.state ≠ .restoring ∧
      (e.state = .waiting → s.bothLinked e = true → s.path.captured.restoreFloor < e.fields.cls) := by
    simp only [State.unsettledEntry, State.withinFloor, Bool.not_or, Bool.and_eq_true, Bool.not_eq_true',
      beq_eq_false_iff_ne, Bool.and_eq_false_iff, decide_eq_false_iff_not, BitVec.not_le]
    refine and_congr_right fun _ => ?_
    cases hb : s.bothLinked e <;> simp [imp_iff_not_or]
  simp only [State.settled, Bool.and_eq_true, List.all_eq_true, hslot, hentry]
  exact and_congr_left fun _ => ⟨fun h n => h n (mem_allSlots n), fun h n _ => h n⟩

/-- Settles O21: the command is taken exactly where `State.recovered` holds. -/
theorem recoveryEndsWhenSettled : Obligations.RecoveryEndsWhenSettled := by
  refine fun s hp hs => ⟨fun hj hn he => ?_, fun h => ?_⟩
  · exact State.event_of hp (State.recovered_iff.mpr ⟨hs, hj, State.settled_iff.mpr ⟨hn, he⟩⟩)
  · refine State.event_of_not (Bool.eq_false_of_not_eq_true fun hr => ?_)
    obtain ⟨-, hj, hset⟩ := State.recovered_iff.mp hr
    obtain ⟨hn, he⟩ := State.settled_iff.mp hset
    rcases h with hj' | ⟨n, hn'⟩ | ⟨p, hpm, hr | ⟨hw, hb, hf⟩⟩
    · rw [hj'] at hj
      cases hj
    · exact hn n hn'
    · exact (he p hpm).1 hr
    · exact absurd ((he p hpm).2 hw hb) (by simpa using hf)

/-! ## What is judged, and when (R12, R115, R146) -/

theorem Sparse.mem_of_lookup {α : Type} {l : List (Nat × α)} {k : Nat} {v : α} (h : Sparse.lookup l k = some v) :
    (k, v) ∈ l := by
  induction l with
  | nil => cases h
  | cons p l ih =>
    obtain ⟨j, w⟩ := p
    rw [Sparse.lookup] at h
    split at h
    · rename_i e
      rw [e, Option.some.inj h]
      exact List.mem_cons_self ..
    · exact List.mem_cons_of_mem _ (ih h)

theorem Sparse.lookup_head {α : Type} (p : Nat × α) (l : List (Nat × α)) :
    Sparse.lookup (p :: l) p.1 = some p.2 := by simp [Sparse.lookup]

/-- A canonical table is what its lookups say. -/
theorem Sparse.ext {α : Type} {l m : List (Nat × α)} (hl : Sparse.wf l) (hm : Sparse.wf m)
    (h : ∀ k, Sparse.lookup l k = Sparse.lookup m k) : l = m := by
  induction l generalizing m with
  | nil =>
    cases m with
    | nil => rfl
    | cons q m =>
      have hq := (h q.1).trans (Sparse.lookup_head q m)
      cases hq
  | cons p l ih =>
    cases m with
    | nil =>
      have hp := (h p.1).symm.trans (Sparse.lookup_head p l)
      cases hp
    | cons q m =>
      obtain ⟨hpl, hl'⟩ := List.pairwise_cons.mp hl
      obtain ⟨hqm, hm'⟩ := List.pairwise_cons.mp hm
      have hpq : p = q := by
        rcases List.mem_cons.mp (Sparse.mem_of_lookup ((h p.1).symm.trans (Sparse.lookup_head p l))) with e | hp
        · exact e
        · rcases List.mem_cons.mp (Sparse.mem_of_lookup ((h q.1).trans (Sparse.lookup_head q m))) with e | hq
          · exact e.symm
          · exact absurd (hpl _ hq) (Nat.lt_asymm (hqm _ hp))
      subst hpq
      refine congrArg (p :: ·) (ih hl' hm' fun k => ?_)
      by_cases hk : p.1 = k
      · subst hk
        rw [Sparse.lookup_of_below hpl, Sparse.lookup_of_below hqm]
      · simpa [Sparse.lookup, hk] using h k

/-- What the list of entry states says of an index (R12): the state of the entry listed there, unless it is IDLE. -/
theorem CircuitTable.lookup_states {t : CircuitTable} (h : Sparse.wf t.entries) (k : Nat) :
    Sparse.lookup t.states k =
      (Sparse.lookup t.entries k).bind fun e => if e.state = .idle then none else some e.state := by
  unfold CircuitTable.states
  revert h
  induction t.entries with
  | nil => exact fun _ => rfl
  | cons p l ih =>
    intro h
    obtain ⟨hp, hl⟩ := List.pairwise_cons.mp h
    have ih := ih hl
    obtain ⟨j, e⟩ := p
    by_cases he : e.state = .idle
    · rw [List.map_cons, List.filter_cons_of_neg (by simp [he]), ih]
      by_cases hk : j = k
      · subst hk
        rw [Sparse.lookup_of_below hp]
        simp [Sparse.lookup, he]
      · simp [Sparse.lookup, hk]
    · rw [List.map_cons, List.filter_cons_of_pos (by simp [he])]
      by_cases hk : j = k
      · simp [Sparse.lookup, hk, he]
      · simp [Sparse.lookup, hk, ih]

theorem CircuitTable.states_wf {t : CircuitTable} (h : Sparse.wf t.entries) : Sparse.wf t.states :=
  List.Pairwise.filter _ (List.pairwise_map.mpr h)

/-- The lists of entry states agree exactly where every entry's state does. -/
theorem CountsOk.states_eq_iff {s t : State} (hs : CountsOk s) (ht : CountsOk t) :
    t.circuits.states = s.circuits.states ↔ ∀ i, (t.entry i).state = (s.entry i).state := by
  have hstate (u : State) (hu : CountsOk u) (i : EntryNo) :
      (u.entry i).state = (Sparse.lookup u.circuits.states i.val).getD .idle := by
    rw [CircuitTable.lookup_states hu.listed, State.entry]
    cases Sparse.lookup u.circuits.entries i.val with
    | none => rfl
    | some e =>
      by_cases he : e.state = .idle <;> simp [he]
  refine ⟨fun h i => by rw [hstate s hs, hstate t ht, h], fun h => ?_⟩
  refine Sparse.ext (CircuitTable.states_wf ht.listed) (CircuitTable.states_wf hs.listed) fun k => ?_
  have hnone (u : State) (hu : CountsOk u) (hk : 4096 ≤ k) : Sparse.lookup u.circuits.states k = none := by
    rw [CircuitTable.lookup_states hu.listed]
    cases hl : Sparse.lookup u.circuits.entries k with
    | none => rfl
    | some e => exact absurd (hu.indices _ (Sparse.mem_of_lookup hl)) (Nat.not_lt.mpr hk)
  have hnot (u : State) (hu : CountsOk u) : Sparse.lookup u.circuits.states k ≠ some .idle := by
    rw [CircuitTable.lookup_states hu.listed]
    cases Sparse.lookup u.circuits.entries k with
    | none => nofun
    | some e => by_cases he : e.state = .idle <;> simp [he]
  by_cases hk : k < 4096
  · have hi := h ⟨k, hk⟩
    rw [hstate s hs, hstate t ht] at hi
    have h1 := hnot s hs
    have h2 := hnot t ht
    revert hi h1 h2
    dsimp only
    cases Sparse.lookup t.circuits.states k <;> cases Sparse.lookup s.circuits.states k <;> simp_all
  · rw [hnone s hs (Nat.not_lt.mp hk), hnone t ht (Nat.not_lt.mp hk)]

theorem State.slotStates_eq_iff (s t : State) : (t.slots.map fun c => c.state) = (s.slots.map fun c => c.state) ↔
    ∀ n, (t.slot n).state = (s.slot n).state := by
  rw [Vector.ext_iff]
  simp only [Vector.getElem_map]
  exact ⟨fun h n => h n.val n.isLt, fun h k hk => h ⟨k, hk⟩⟩

/-- R12: what the settled condition is judged on has changed. -/
theorem State.inputsChanged_iff {s t : State} (hs : CountsOk s) (ht : CountsOk t) : s.inputsChanged t = true ↔
    (∃ n, (t.slot n).state ≠ (s.slot n).state) ∨ (∃ i, (t.entry i).state ≠ (s.entry i).state) ∨
      t.path.captured.restoreFloor ≠ s.path.captured.restoreFloor := by
  simp only [State.inputsChanged, State.floorChanged, Bool.or_eq_true, bne_iff_ne, ne_eq, State.slotStates_eq_iff,
    hs.states_eq_iff ht, not_forall, or_assoc]

/-- An access that finds a changed floor's judgement left to act on is not taken (R146, log entries 1 and 20). -/
theorem exec_access_of_floor {c : Instr} {s : State} (hf : s.judging.floor = true) (hc : c.isAccess = true) :
    exec c s = .next s := by
  have ht : s.takesCycle = false := by simp [State.takesCycle, hf]
  have hcycle (t : State) : s.cycle t = .next s := by rw [State.cycle, if_neg (by simp [ht])]
  cases c
  case plainAccess a x e =>
    refine State.event_of_not ?_
    rw [ht]
    rfl
  case windowRead n k => exact State.event_of_not ht
  case windowWrite n k d m => exact State.event_of_not ht
  all_goals try cases hc
  all_goals exact hcycle _

/-- Settles O22: a judgement writes its record only; what has changed is read off the slots, the entries and the
floor. -/
theorem changesAreJudged : Obligations.ChangesAreJudged := by
  refine ⟨fun _ _ => rfl, fun s t hs ht => ?_, fun s t => ?_, fun c s hf hc => exec_access_of_floor hf hc⟩
  · rw [State.judged_recovery, ← State.inputsChanged_iff hs ht]
    simp only [Bool.and_eq_true, Bool.or_eq_true, beq_iff_eq, and_assoc]
  · have hwin : (s.judgeRecovery t).issueWinner.isSome = true ↔ ∃ i, t.issueWinner = some i := Option.isSome_iff_exists
    have hmay : (s.judgeRecovery t).mayIssue = true ↔ t.restore.phase ≠ .sagged ∧ t.restore.restoring < 16 :=
      State.mayIssue_iff
    have hrec : (s.judgeRecovery t).recovered = true ↔
        t.supply.shelf = .recover ∧ (s.judged t).judging.recovery = true ∧ t.settled = true := State.recovered_iff
    have hdrained : (s.judgeRecovery t).drainedNow = t.drainedNow := rfl
    simp only [State.judged_floor, State.judgementDue, Bool.and_eq_true, Bool.or_eq_true, hwin, hmay, hrec, hdrained,
      State.floorChanged, bne_iff_ne]

end Sys2Proof.Machine
end

section
/-! The Slot Sequencer: what each of its commands answers, slot state by slot state (R24 to R49). -/

namespace Sys2Proof.Machine

/-! ## The work of a state ended (R24) -/

section
variable {s : State} {n : SlotNo}

theorem State.endWork_of_booting (h : (s.slot n).state = .booting) : s.endWork n =
    (s.setSlot n { s.slot n with bootTimer := none }).setLink n { s.link n with listening := false } := by
  rw [State.endWork, h]
  rfl

theorem State.endWork_of_training_lane {l : LaneNo} (h : (s.slot n).state = .training) (hl : (s.slot n).lane = some l) :
    s.endWork n = ((s.setSlot n { s.slot n with lane := none }).setLane l none).setLink n
      { s.link n with exchange := none } := by
  rw [State.endWork_of_training h, State.releaseLane, hl]
  rfl

theorem State.endWork_of_rest
    (h : (s.slot n).state ∈ [SlotState.empty, .pending, .held, .failed, .mismatch, .offline]) :
    s.endWork n = s := by
  simp only [List.mem_cons, List.not_mem_nil, or_false] at h
  rcases h with h | h | h | h | h | h <;> rw [State.endWork, h]

/-- An attempt that is not the third fails: the next one, with reset (R26). -/
theorem State.failAttempt_of_lt (reason : FailReason) (h : (s.slot n).attempt < 3) : s.failAttempt n reason =
    s.setSlot n { s.slot n with
      state := .booting, mode := .full, attempt := (s.slot n).attempt + 1, lastFailure := reason,
      pulseTimer := some (s.supply.clock + 10#32), resetOut := true } := by
  unfold State.failAttempt State.bootWithReset
  dsimp only
  rw [if_pos h, State.setSlot_setSlot, State.slot_setSlot, if_pos rfl]
  rfl

theorem State.failAttempt_of_ge (reason : FailReason) (h : 3 ≤ (s.slot n).attempt) : s.failAttempt n reason =
    (s.setSlot n { s.slot n with state := .failed, lastFailure := reason }).raise
      ⟨.slotFailed, some n, 0#8, none, none, s.supply.episode, s.supply.clock, reason.code.setWidth 32⟩ := by
  unfold State.failAttempt State.goFailed
  dsimp only
  rw [if_neg (Nat.not_lt.mpr h), State.setSlot_setSlot, State.slot_setSlot, if_pos rfl]
  rfl

theorem State.bootDue_of {e : Word} (hs : (s.slot n).state = .booting) (ht : (s.slot n).bootTimer = some e)
    (hr : reached s.supply.clock e = true) : s.bootDue n = true := by
  simp [State.bootDue, hs, ht, timerDue, State.clock, hr]

theorem State.exchangeExpired_of {x : Exchange} (h : s.TimedOut n x) : s.exchangeExpired n = true := by
  rw [State.exchangeExpired, h.1]
  exact h.2

theorem State.identDue_of {x : Exchange} (hs : (s.slot n).state = .identify) (h : s.TimedOut n x)
    (hr : x.retry = true) : s.identDue n = true := by
  rw [State.identDue, h.1]
  simp [hs, hr, State.exchangeExpired_of h]

end

/-- Settles O24: the work of each state, both sides of the third attempt, and the two timeouts that fail an attempt. -/
theorem attemptFailures : Obligations.AttemptFailures := by
  refine ⟨fun s n => ⟨State.endWork_of_booting, fun l => State.endWork_of_training_lane, State.endWork_of_identify,
    State.endWork_of_linked, State.endWork_of_rest⟩,
    fun s n r => ⟨State.failAttempt_of_lt r, State.failAttempt_of_ge r⟩,
    fun n s e hp hs ht hr => State.event_of hp (State.bootDue_of hs ht hr), fun n s x hp hs hx hr => ?_⟩
  rw [State.endWork_of_identify hs]
  exact State.event_of hp (State.identDue_of hs hx hr)

/-! ## Card-good declarations (R27, R28) -/

theorem exec_cardGoodDeclaredGood {s : State} {n : SlotNo} (hp : s.por = false)
    (hd : (s.card n).StandsFor s.clock s.supply.filterTime .good) :
    exec (.cardGoodDeclaredGood n) s = .next (s.judged ((s.declareCard n .good).cardArrives n)) :=
  State.event_of hp (Filter.declares_iff.mpr hd)

theorem exec_cardGoodDeclaredLow {s : State} {n : SlotNo} (hp : s.por = false)
    (hd : (s.card n).StandsFor s.clock s.supply.filterTime .low) :
    exec (.cardGoodDeclaredLow n) s = .next (s.judged ((s.declareCard n .low).cardLeaves n)) :=
  State.event_of hp (Filter.declares_iff.mpr hd)

section
variable {s : State} {n : SlotNo}

/-- A good level recorded leaves the flag of the episode as it is (R18). -/
theorem State.recordCardGood_good (s : State) (n : SlotNo) :
    s.recordCardGood n .good = s.setSlot n { s.slot n with cardGood := .good } := by
  rw [State.recordCardGood]
  simp

/-- A low level clears it. -/
theorem State.recordCardGood_low (s : State) (n : SlotNo) :
    s.recordCardGood n .low = s.setSlot n { s.slot n with cardGood := .low, cgHeld := false } := by
  have hlow : (Level.low == Level.good) = false := rfl
  rw [State.recordCardGood, hlow, Bool.and_false]

theorem State.cardArrives_watched (he : (s.slot n).state = .empty) (hw : s.watching = true) :
    s.cardArrives n = s.setSlot n { s.slot n with
      cardGood := .good, state := .held, mode := .full, attempt := 1, forceFull := true, forceReset := false } := by
  rw [State.cardArrives, if_pos he, if_pos hw, State.recordCardGood_good, State.startHeld, State.setSlot_setSlot,
    State.slot_setSlot, if_pos rfl]

theorem State.cardArrives_free (he : (s.slot n).state = .empty) (hw : s.watching = false) :
    s.cardArrives n = (s.setSlot n { s.slot n with
      cardGood := .good, state := .booting, mode := .full, attempt := 1,
      bootTimer := some (s.supply.clock + BitVec.ofNat 32 (s.path.captured.bootLimit.toNat * 100)) }).setLink n
        { (s.link n).finishFrame s.supply.now with listening := true, workingRate := (s.sl0 n).rate } := by
  rw [State.cardArrives, if_pos he, if_neg (by simp [hw]), State.recordCardGood_good, State.bootWithoutReset,
    State.startBootWait]
  simp only [State.setSlot_setSlot, State.slot_setSlot, if_pos]
  rfl

theorem State.cardArrives_of_ne (he : (s.slot n).state ≠ .empty) :
    s.cardArrives n = s.setSlot n { s.slot n with cardGood := .good } := by
  rw [State.cardArrives, if_neg he, State.recordCardGood_good]

theorem State.cardLeaves_offline (ho : (s.slot n).state = .offline) :
    s.cardLeaves n = s.setSlot n { s.slot n with cardGood := .low, cgHeld := false } := by
  rw [State.cardLeaves, if_pos (.inr ho), State.recordCardGood_low]

/-- From a state that the card occupies: EMPTY, its work ended (R28). -/
theorem State.cardLeaves_of (he : (s.slot n).state ≠ .empty) (ho : (s.slot n).state ≠ .offline) : s.cardLeaves n =
    (((s.setSlot n { s.slot n with cardGood := .low, cgHeld := false }).raiseLost n).endWork n).goEmpty n := by
  rw [State.cardLeaves, if_neg (not_or_intro he ho), State.recordCardGood_low]

theorem State.raiseLost_of_linked (h : (s.slot n).state = .linked) : s.raiseLost n =
    s.raise ⟨.slotLost, some n, 0#8, none, none, s.supply.episode, s.supply.clock, 1#32⟩ := by
  rw [State.raiseLost, if_pos (State.linked_iff.mpr h)]
  rfl

theorem State.raiseLost_of_ne (h : (s.slot n).state ≠ .linked) : s.raiseLost n = s := by
  rw [State.raiseLost, if_neg (mt State.linked_iff.mp h)]

end

/-- Settles O25: a declared level by the state of its slot. -/
theorem cardGoodDeclarations : Obligations.CardGoodDeclarations := by
  refine ⟨fun n s hp hd => ⟨fun he hw => ?_, fun he hw => ?_, fun ho => ?_⟩,
    fun n s hp hd => ⟨fun ho => ?_, fun hl => ?_, fun hn => ?_⟩⟩
  · rw [exec_cardGoodDeclaredGood hp hd,
      State.cardArrives_watched (s := s.declareCard n .good) he hw]
    rfl
  · rw [exec_cardGoodDeclaredGood hp hd,
      State.cardArrives_free (s := s.declareCard n .good) he hw]
    rfl
  · have hne : ((s.declareCard n .good).slot n).state ≠ .empty := fun e => by
      rw [show ((s.declareCard n .good).slot n).state = .offline from ho] at e
      cases e
    rw [exec_cardGoodDeclaredGood hp hd,
      State.cardArrives_of_ne (s := s.declareCard n .good) hne]
    rfl
  · rw [exec_cardGoodDeclaredLow hp hd, State.cardLeaves_offline (s := s.declareCard n .low) ho]
    rfl
  · have hs : (s.declareCard n .low).slot n = s.slot n := rfl
    rw [exec_cardGoodDeclaredLow hp hd, State.cardLeaves_of (by simp [hs, hl]) (by simp [hs, hl]),
      State.raiseLost_of_linked (by simp [hs, hl])]
    rfl
  · simp only [List.mem_cons, List.not_mem_nil, or_false, not_or] at hn
    obtain ⟨he, ho, hl⟩ := hn
    have hs : (s.declareCard n .low).slot n = s.slot n := rfl
    rw [exec_cardGoodDeclaredLow hp hd, State.cardLeaves_of (by rwa [hs]) (by rwa [hs]),
      State.raiseLost_of_ne (by simpa [hs] using hl)]
    rfl

/-! ## The reset pulse and the boot wait (R25, R29, R75) -/

section
variable {s : State} {n : SlotNo}

theorem State.endPulse_of_booting (h : (s.slot n).state = .booting) : s.endPulse n =
    (s.setSlot n { s.slot n with
      pulseTimer := none, resetOut := false,
      bootTimer := some (s.supply.clock + BitVec.ofNat 32 (s.path.captured.bootLimit.toNat * 100)) }).setLink n
        { (s.link n).finishFrame s.supply.now with listening := true, workingRate := (s.sl0 n).rate } := by
  unfold State.endPulse State.startBootWait
  simp only [h, beq_self_eq_true, if_true, State.setSlot_setSlot, State.slot_setSlot]
  rfl

theorem State.endPulse_of_held (h : (s.slot n).state = .held) :
    s.endPulse n = s.setSlot n { s.slot n with pulseTimer := none, resetOut := false } := by
  unfold State.endPulse
  simp only [h]
  rfl

theorem timerDue_of {clock e : Word} {t : Timer} (ht : t = some e) (hr : reached clock e = true) :
    timerDue clock t = true := by rw [ht, timerDue, hr]

end

/-- Settles O28: the pulse's end in BOOTING and in HELD, and the idle frame with and without a listening link. -/
theorem resetPulseAndBootWait : Obligations.ResetPulseAndBootWait := by
  refine ⟨fun n s e hp ht hr => ⟨fun hs => State.event_eq hp (timerDue_of ht hr) (State.endPulse_of_booting hs),
    fun hs => State.event_eq hp (timerDue_of ht hr) (State.endPulse_of_held hs)⟩,
    fun n s hp => ⟨fun hs hl => State.event_eq hp ?_ ?_, fun hl => State.event_of_not ?_⟩⟩
  · simp [State.awaitsAlive, hs, hl]
  · rw [State.alive, State.endWork_of_booting hs, State.goPending]
    simp
  · simp [State.awaitsAlive, hl]

/-! ## IDENTIFY (R35 to R39) -/

section
variable {s : State} {n : SlotNo}

theorem State.identityTaken_of {x : Exchange} {tag : BitVec 8} (type revision : BitVec 16)
    (hs : (s.slot n).state = .identify) (hx : s.InFlight n x) (hw : x.work = .identityQuery) (ht : x.tag = tag) :
    s.identityTaken n tag type revision = true :=
  State.identityTaken_iff.mpr ⟨hs, LinkUnit.takesReply_iff.mpr ⟨x, hx, ht, completes_identity.mpr hw⟩⟩

theorem State.clearTaken_of {x : Exchange} {tag : BitVec 8} (hs : (s.slot n).state = .identify) (hx : s.InFlight n x)
    (hw : x.work = .clearOrder) (ht : x.tag = tag) : s.clearTaken n tag = true :=
  State.clearTaken_iff.mpr ⟨hs, LinkUnit.takesReply_iff.mpr ⟨x, hx, ht, completes_done.mpr (.inl hw)⟩⟩

/-- LINKED entered, with the record written out (R39, R50). -/
theorem State.goLinked_eq (s : State) (n : SlotNo) {c d : SlotContext} (hc : s.slot n = c)
    (hd : d = { c with
      state := .linked, lane := none, forceFull := false, forceReset := false,
      lastGood := ⟨c.lock.edge, c.lock.rate, true⟩ }) : s.goLinked n = (s.setSlot n d).raise
        ⟨.slotLinked, some n, c.mode.code.setWidth 8, none, none, s.supply.episode, s.supply.clock, d.ss1⟩ := by
  subst hc hd
  unfold State.goLinked
  simp only [State.slot_setSlot, if_pos]
  rfl

theorem SlotContext.typeMatches_iff {c : SlotContext} {type : BitVec 16} :
    c.typeMatches type = true ↔ c.expected = 0#16 ∨ c.expected = type := by simp [SlotContext.typeMatches]

theorem State.identified_of_mismatch {type : BitVec 16} (revision : BitVec 16)
    (h : ¬(s.slot n).typeMatches type = true) : s.identified n type revision =
      ((s.freeLink n).recordIdentity n type revision).goMismatch n := by
  rw [State.identified]
  exact if_neg h

theorem State.identified_of_verify {type : BitVec 16} (revision : BitVec 16) (h : (s.slot n).typeMatches type = true)
    (hm : (s.slot n).mode = .verify) : s.identified n type revision =
      ((s.freeLink n).recordIdentity n type revision).goLinked n := by
  rw [State.identified, if_pos h, hm]

theorem State.identified_of_full {type : BitVec 16} (revision : BitVec 16) (h : (s.slot n).typeMatches type = true)
    (hm : (s.slot n).mode = .full) : s.identified n type revision =
      ((s.freeLink n).recordIdentity n type revision).send n .clearOrder false := by
  rw [State.identified, if_pos h, hm]

end

/-- Settles O29: the identity reply by the captured type and the mode, and the clear order done. -/
theorem identityAndClearOrder : Obligations.IdentityAndClearOrder := by
  refine ⟨fun n tag type revision s x hp hs hx hw ht => ⟨fun h0 h1 => ?_, fun hm hv => ?_, fun hm hf => ?_⟩,
    fun n tag s x hp hs hx hw ht => State.event_eq hp (State.clearTaken_of hs hx hw ht) ?_⟩
  · refine State.event_eq hp (State.identityTaken_of type revision hs hx hw ht) ?_
    rw [State.identified_of_mismatch revision fun e => (SlotContext.typeMatches_iff.mp e).elim h0 h1,
      State.goMismatch, State.recordIdentity, State.setSlot_setSlot, State.slot_setSlot, if_pos rfl]
    rfl
  · refine State.event_eq hp (State.identityTaken_of type revision hs hx hw ht) ?_
    rw [State.identified_of_verify revision (SlotContext.typeMatches_iff.mpr hm) hv,
      State.goLinked_eq (c := { s.slot n with foundType := type, foundRevision := revision }) _ n
        (by rw [State.recordIdentity, State.slot_setSlot, if_pos rfl]; rfl) rfl, State.recordIdentity,
      State.setSlot_setSlot]
    dsimp only
    rw [hv]
    rfl
  · exact State.event_eq hp (State.identityTaken_of type revision hs hx hw ht)
      (State.identified_of_full revision (SlotContext.typeMatches_iff.mpr hm) hf)
  · exact State.goLinked_eq _ n rfl rfl

/-! ## Link loss (R40, R73, R82) -/

section
variable {s : State} {n : SlotNo}

theorem State.lossDue_of {x : Exchange} {o : Order} (hs : (s.slot n).state = .linked) (hx : s.TimedOut n x)
    (hw : x.work = .order o) (hr : x.retry = true) : s.lossDue n = true := by
  rw [State.lossDue, hx.1]
  simp [hw, Work.isOrder, hr, State.exchangeExpired_of hx, State.linked_iff.mpr hs]

/-- R19, R40: the timing is known as the statements write it. -/
theorem State.timingKnown_eq (s : State) (n : SlotNo) : s.timingKnown n =
    ((s.slot n).lastGood.valid && decide ((s.slot n).lastGood.rate = (s.sl0 n).rate)) := rfl

theorem State.lossMode_eq (s : State) (n : SlotNo) : s.lossMode n = if s.timingKnown n = true then .verify else .full :=
  rfl

theorem Mode.firstAttempt_ite (p : Prop) [Decidable p] :
    (if p then Mode.verify else .full).firstAttempt = if p then 0 else 1 := by
  split <;> rfl

end

/-- Settles O30: the loss declared at the second timeout, and taken by the Slot Sequencer. -/
theorem linkLossRelinksTheSlot : Obligations.LinkLossRelinksTheSlot := by
  refine ⟨fun n s x o hp hs hx hw hr => State.event_of hp (State.lossDue_of hs hx hw hr),
    fun n s hp hs hl v hv => State.event_eq hp ?_ ?_⟩
  · simp [State.lossStands, State.linked_iff.mpr hs, hl]
  · have hlinked : ((s.raise (s.slotRecord .slotLost n 0#8 lostOrderTimeout)).slot n).state = .linked := hs
    rw [State.takeLoss, State.endWork_of_linked hlinked, State.lossMode_eq, Mode.firstAttempt_ite,
      State.timingKnown_eq, ← hv]
    rfl

/-! ## Slot requests (R45 to R49) -/

section
variable {s : State} {n : SlotNo}

theorem State.takeRelink_of_linked (h : (s.slot n).state = .linked) (hw : s.watching = false) :
    s.takeRelink n = (s.endWork n).goPending n .full 1 := by
  rw [State.takeRelink, h]
  simp [hw]

theorem State.takeRelink_of_resting (h : (s.slot n).state ∈ [SlotState.failed, .mismatch]) : s.takeRelink n =
    if s.watching then s.startHeld n (s.slot n).forceReset else s.goPending n .full 1 := by
  simp only [List.mem_cons, List.not_mem_nil, or_false] at h
  rcases h with h | h <;> rw [State.takeRelink, h]

theorem State.takeRelink_of_held (h : (s.slot n).state = .held) :
    s.takeRelink n = s.goHeld n true (s.slot n).forceReset := by
  rw [State.takeRelink, h]

theorem State.takeRelink_of_other
    (h : (s.slot n).state ∈ [SlotState.empty, .booting, .pending, .training, .identify, .offline]) :
    s.takeRelink n = s := by
  simp only [List.mem_cons, List.not_mem_nil, or_false] at h
  rcases h with h | h | h | h | h | h <;> rw [State.takeRelink, h]

/-- RELINK_RESET off the watched rail: the work of the state ended, and BOOTING with reset (R47). -/
theorem State.takeRelinkReset_of_free
    (h : (s.slot n).state ∈ [SlotState.linked, .failed, .mismatch, .booting, .pending, .training, .identify])
    (hw : s.watching = false) : s.takeRelinkReset n = (s.endWork n).bootWithReset n 1 := by
  have hrest (hm : (s.slot n).state ∈ [SlotState.failed, .mismatch]) : s.endWork n = s :=
    State.endWork_of_rest (by simp only [List.mem_cons, List.not_mem_nil, or_false] at hm ⊢; tauto)
  simp only [List.mem_cons, List.not_mem_nil, or_false] at h
  rcases h with h | h | h | h | h | h | h <;>
    simp only [State.takeRelinkReset, h, State.resetNow, State.resetResting, hw, Bool.false_eq_true, if_false]
  · rw [hrest (by simp [h])]
  · rw [hrest (by simp [h])]

theorem State.takeRelinkReset_of_watched (h : (s.slot n).state ∈ [SlotState.failed, .mismatch])
    (hw : s.watching = true) : s.takeRelinkReset n = s.startHeld n true := by
  simp only [List.mem_cons, List.not_mem_nil, or_false] at h
  rcases h with h | h <;> simp only [State.takeRelinkReset, h, State.resetResting, hw, if_true]

theorem State.takeRelinkReset_of_held (h : (s.slot n).state = .held) : s.takeRelinkReset n = s.goHeld n true true := by
  rw [State.takeRelinkReset, h]

theorem State.takeRelinkReset_of_other (h : (s.slot n).state ∈ [SlotState.empty, .offline]) :
    s.takeRelinkReset n = s := by
  simp only [List.mem_cons, List.not_mem_nil, or_false] at h
  rcases h with h | h <;> rw [State.takeRelinkReset, h]

theorem State.takeResume_low (ho : (s.slot n).state = .offline) (hg : (s.slot n).cardGood = .low) :
    s.takeResume n = s.setSlot n { s.slot n with state := .empty, resetOut := false } := by
  rw [State.takeResume, if_pos ho, hg, State.releaseReset]
  simp

theorem State.takeResume_watched (ho : (s.slot n).state = .offline) (hg : (s.slot n).cardGood = .good)
    (hw : s.watching = true) : s.takeResume n = s.setSlot n { s.slot n with
      state := .held, mode := .full, attempt := 1, resetOut := false, forceFull := true, forceReset := false } := by
  rw [State.takeResume, if_pos ho, hg, hw, State.releaseReset, State.startHeld]
  simp

theorem State.takeResume_free (ho : (s.slot n).state = .offline) (hg : (s.slot n).cardGood = .good)
    (hw : s.watching = false) : s.takeResume n = (s.setSlot n { s.slot n with
      state := .booting, resetOut := false, mode := .full, attempt := 1,
      bootTimer := some (s.supply.clock + BitVec.ofNat 32 (s.path.captured.bootLimit.toNat * 100)) }).setLink n
        { (s.link n).finishFrame s.supply.now with listening := true, workingRate := (s.sl0 n).rate } := by
  rw [State.takeResume, if_pos ho, hg, hw, State.releaseReset, State.bootWithoutReset, State.startBootWait]
  simp only [State.setSlot_setSlot, State.slot_setSlot, if_pos]
  rfl

end

/-- Settles O31: each request by the state of its slot and the rail. -/
theorem slotRequestsByState : Obligations.SlotRequestsByState := by
  refine ⟨fun n s hf => ⟨fun h hw => State.cycle_eq hf ?_, fun h hw => State.cycle_eq hf ?_,
    fun h hw => State.cycle_eq hf ?_, fun h => State.cycle_eq hf ?_, fun h => State.cycle_eq hf ?_⟩,
    fun n s hf => ⟨fun h hw => State.cycle_eq hf ?_, fun h hw => State.cycle_eq hf ?_,
    fun h => State.cycle_eq hf ?_, fun h => State.cycle_eq hf ?_⟩,
    fun n s hf => ⟨fun h => State.cycle_eq hf ?_, fun h => State.cycle_eq hf ?_, fun h => State.cycle_eq hf ?_,
    fun h hg => State.cycle_eq hf ?_, fun h hg hw => State.cycle_eq hf ?_, fun h hg hw => State.cycle_eq hf ?_⟩⟩
  · rw [State.takeRelink_of_linked h hw]
    rfl
  · rw [State.takeRelink_of_resting h, if_neg (by simp [hw])]
    rfl
  · rw [State.takeRelink_of_resting h, if_pos hw]
    rfl
  · rw [State.takeRelink_of_held h, State.goHeld, ← h]
  · rw [State.takeRelink_of_other h]
  · rw [State.takeRelinkReset_of_free h hw, State.bootWithReset, State.clock]
    simp [startTimer]
  · rw [State.takeRelinkReset_of_watched h hw]
    rfl
  · rw [State.takeRelinkReset_of_held h, State.goHeld, ← h]
  · rw [State.takeRelinkReset_of_other h]
  · rw [State.takeQuiesce, if_neg h]
    rfl
  · rw [State.takeQuiesce, if_pos h]
  · rw [State.takeResume, if_neg h]
  · rw [State.takeResume_low h hg]
  · rw [State.takeResume_watched h hg hw]
  · rw [State.takeResume_free h hg hw]

end Sys2Proof.Machine
end

section
/-! The shelf notices at the Slot Sequencer (R42, R43): every slot at once. A departure from LINKED, whatever its cause,
is notified to both receivers (R24). -/

namespace Sys2Proof.Machine

/-! ## Along the slots -/

/-- The state is its fields. -/
theorem State.eq_of_fields {s t : State} (h1 : s.supply = t.supply) (h2 : s.watching = t.watching)
    (h3 : s.slots = t.slots) (h4 : s.notices = t.notices) (h5 : s.lanes = t.lanes) (h6 : s.links = t.links)
    (h7 : s.circuits = t.circuits) (h8 : s.restore = t.restore) (h9 : s.journal = t.journal) (h10 : s.path = t.path)
    (h11 : s.judging = t.judging) (h12 : s.memory = t.memory) (h13 : s.ctrlReset = t.ctrlReset) (h14 : s.por = t.por)
    (h15 : s.pending = t.pending) : s = t := by
  cases s
  cases t
  rw [State.mk.injEq]
  exact ⟨h1, h2, h3, h4, h5, h6, h7, h8, h9, h10, h11, h12, h13, h14, h15⟩

/-- An operation that changes what one slot shows, applied along a list of slots. -/
theorem foldl_slots {α : Type} {f : State → SlotNo → State} {view : State → SlotNo → α} {g : α → α}
    (hself : ∀ s n, view (f s n) n = g (view s n)) (hother : ∀ s n m, n ≠ m → view (f s n) m = view s m)
    {l : List SlotNo} (hl : l.Nodup) (s : State) (m : SlotNo) :
    view (l.foldl f s) m = if m ∈ l then g (view s m) else view s m := by
  induction l generalizing s with
  | nil => rfl
  | cons n l ih =>
    obtain ⟨hn, hl⟩ := List.nodup_cons.mp hl
    rw [List.foldl_cons, ih hl]
    by_cases hm : n = m
    · subst hm
      rw [if_neg hn, hself, if_pos (List.mem_cons_self ..)]
    · rw [hother s n m hm]
      simp [Ne.symm hm]

theorem allSlots_nodup : allSlots.Nodup := by decide

/-! ## The sag notice (R42) -/

theorem SlotState.sagMoves_eq (x : SlotState) : x.sagMoves = x.relinking := by cases x <;> rfl

/-- A slot context that the sag notice moves. -/
def SlotContext.heldAtSag (c : SlotContext) : SlotContext :=
  { c.unbooted with state := .held, lane := if c.state = .training then none else c.lane }

/-- What the sag notice makes of a slot context. -/
def SlotContext.atSag (c : SlotContext) : SlotContext := if c.state.relinking then c.heldAtSag else c

/-- What it makes of the Link Unit of a slot. -/
def LinkUnit.atSag (l : LinkUnit) (c : SlotContext) : LinkUnit :=
  { l with listening := if c.state = .booting then false else l.listening,
           exchange := if c.state = .training ∨ c.state = .identify then none else l.exchange }

theorem LinkUnit.atSag_of_rest {l : LinkUnit} {c : SlotContext} (h : c.state.relinking = false) : l.atSag c = l := by
  have hne : c.state ≠ .booting ∧ c.state ≠ .training ∧ c.state ≠ .identify := by
    refine ⟨?_, ?_, ?_⟩ <;> intro e <;> rw [e] at h <;> cases h
  obtain ⟨hb, ht, hi⟩ := hne
  simp [LinkUnit.atSag, hb, ht, hi]

section
variable (s : State) (n m : SlotNo)

theorem State.holdSlot_of_rest {s : State} {n : SlotNo} (h : (s.slot n).state.relinking = false) :
    s.holdSlot n = s := by
  rw [State.holdSlot, SlotState.sagMoves_eq, if_neg (by simp [h])]

theorem State.holdSlot_of {s : State} {n : SlotNo} (h : (s.slot n).state.relinking = true) : s.holdSlot n =
    (s.endWork n).goHeld n (s.slot n).forceFull (s.slot n).forceReset := by
  rw [State.holdSlot, SlotState.sagMoves_eq, if_pos h]

theorem State.slot_holdSlot_self : (s.holdSlot n).slot n = (s.slot n).atSag := by
  cases h : (s.slot n).state.relinking with
  | false => rw [State.holdSlot_of_rest h, SlotContext.atSag, if_neg (by simp [h])]
  | true =>
    rw [State.holdSlot_of h, State.goHeld, State.slot_setSlot, if_pos rfl, State.slot_endWork, if_pos rfl,
      SlotContext.atSag, if_pos h, SlotContext.heldAtSag, SlotContext.unbooted]
    split <;> rfl

theorem State.slot_holdSlot_ne (h : n ≠ m) : (s.holdSlot n).slot m = s.slot m := by
  cases hr : (s.slot n).state.relinking with
  | false => rw [State.holdSlot_of_rest hr]
  | true => rw [State.holdSlot_of hr, State.goHeld, State.slot_setSlot, if_neg h, State.slot_endWork, if_neg h]

theorem State.link_holdSlot_self : (s.holdSlot n).link n = (s.link n).atSag (s.slot n) := by
  cases hr : (s.slot n).state.relinking with
  | false => rw [State.holdSlot_of_rest hr, LinkUnit.atSag_of_rest hr]
  | true => rw [State.holdSlot_of hr, State.goHeld, State.link_setSlot, State.link_endWork, if_pos rfl, LinkUnit.atSag]

theorem State.link_holdSlot_ne (h : n ≠ m) : (s.holdSlot n).link m = s.link m := by
  cases hr : (s.slot n).state.relinking with
  | false => rw [State.holdSlot_of_rest hr]
  | true => rw [State.holdSlot_of hr, State.goHeld, State.link_setSlot, State.link_endWork, if_neg h]

theorem State.lane_holdSlot (l : LaneNo) : (s.holdSlot n).lane l =
    if (s.slot n).state = .training ∧ (s.slot n).lane = some l then none else s.lane l := by
  cases hr : (s.slot n).state.relinking with
  | false =>
    rw [State.holdSlot_of_rest hr, if_neg]
    rintro ⟨e, -⟩
    rw [e] at hr
    cases hr
  | true => rw [State.holdSlot_of hr, State.goHeld, State.lane_setSlot, State.lane_endWork]

theorem State.notices_holdSlot : (s.holdSlot n).notices = if s.linked n then { s.notices with
      departLink := s.notices.departLink ++ [n], departCircuits := s.notices.departCircuits ++ [n] }
    else s.notices := by
  cases hr : (s.slot n).state.relinking with
  | false =>
    rw [State.holdSlot_of_rest hr, if_neg]
    intro e
    rw [State.linked_iff.mp e] at hr
    cases hr
  | true =>
    rw [State.holdSlot_of hr, State.goHeld, State.setSlot_notices, State.notices_endWork]
    by_cases hl : (s.slot n).state = .linked <;> simp [State.linked, hl]

end

/-! ### Every slot -/

section
variable {l : List SlotNo} (hl : l.Nodup) (s : State)
include hl

theorem State.slot_holdAll (m : SlotNo) :
    (l.foldl State.holdSlot s).slot m = if m ∈ l then (s.slot m).atSag else s.slot m :=
  foldl_slots (view := fun s n => s.slot n) State.slot_holdSlot_self State.slot_holdSlot_ne hl s m

theorem State.link_holdAll (m : SlotNo) :
    (l.foldl State.holdSlot s).link m = if m ∈ l then (s.link m).atSag (s.slot m) else s.link m := by
  have h := foldl_slots (f := State.holdSlot) (view := fun s n => (s.slot n, s.link n))
    (g := fun p => (p.1.atSag, p.2.atSag p.1))
    (fun s n => by rw [State.slot_holdSlot_self, State.link_holdSlot_self])
    (fun s n m hm => by rw [State.slot_holdSlot_ne s n m hm, State.link_holdSlot_ne s n m hm]) hl s m
  have h2 := congrArg Prod.snd h
  dsimp only at h2
  rw [h2]
  split <;> rfl

theorem State.lane_holdAll (k : LaneNo) : (l.foldl State.holdSlot s).lane k =
    if ∃ n ∈ l, (s.slot n).state = .training ∧ (s.slot n).lane = some k then none else s.lane k := by
  induction l generalizing s with
  | nil => simp
  | cons n l ih =>
    obtain ⟨hn, hl⟩ := List.nodup_cons.mp hl
    have hsame (m : SlotNo) (hm : m ∈ l) : (s.holdSlot n).slot m = s.slot m :=
      s.slot_holdSlot_ne n m fun e => hn (e ▸ hm)
    have hex : (∃ m ∈ l, ((s.holdSlot n).slot m).state = .training ∧ ((s.holdSlot n).slot m).lane = some k) ↔
        ∃ m ∈ l, (s.slot m).state = .training ∧ (s.slot m).lane = some k :=
      exists_congr fun m => and_congr_right fun hm => by rw [hsame m hm]
    rw [List.foldl_cons, ih hl, State.lane_holdSlot]
    simp only [hex, List.exists_mem_cons_iff]
    by_cases h1 : ∃ m ∈ l, (s.slot m).state = .training ∧ (s.slot m).lane = some k <;>
      by_cases h2 : (s.slot n).state = .training ∧ (s.slot n).lane = some k <;> simp [h1, h2]

theorem State.notices_holdAll : (l.foldl State.holdSlot s).notices = { s.notices with
    departLink := s.notices.departLink ++ l.filter s.linked,
    departCircuits := s.notices.departCircuits ++ l.filter s.linked } := by
  induction l generalizing s with
  | nil => simp
  | cons n l ih =>
    obtain ⟨hn, hl⟩ := List.nodup_cons.mp hl
    have hsame : l.filter (s.holdSlot n).linked = l.filter s.linked := List.filter_congr fun m hm => by
      rw [State.linked, State.linked, s.slot_holdSlot_ne n m fun e => hn (e ▸ hm)]
    rw [List.foldl_cons, ih hl, hsame, State.notices_holdSlot, List.filter_cons]
    split <;> simp

end

section
variable (s : State)

theorem State.slot_holdSlots (m : SlotNo) : s.holdSlots.slot m = (s.slot m).atSag := by
  rw [State.holdSlots, State.slot_holdAll allSlots_nodup, if_pos (mem_allSlots m)]
  rfl

theorem State.link_holdSlots (m : SlotNo) : s.holdSlots.link m = (s.link m).atSag (s.slot m) := by
  rw [State.holdSlots, State.link_holdAll allSlots_nodup, if_pos (mem_allSlots m)]
  rfl

theorem State.lane_holdSlots (k : LaneNo) : s.holdSlots.lane k =
    if ∃ n, (s.slot n).state = .training ∧ (s.slot n).lane = some k then none else s.lane k := by
  rw [State.holdSlots, State.lane_holdAll allSlots_nodup]
  simp only [mem_allSlots, true_and]
  rfl

theorem State.notices_holdSlots : s.holdSlots.notices = { s.notices with
    slots := s.notices.slots.tail, departLink := s.notices.departLink ++ allSlots.filter s.linked,
    departCircuits := s.notices.departCircuits ++ allSlots.filter s.linked } := by
  rw [State.holdSlots, State.notices_holdAll allSlots_nodup]
  rfl

theorem State.watching_holdSlots : s.holdSlots.watching = true :=
  foldl_leaves (fun t : State => t.watching) (f := State.holdSlot)
    (fun _ _ => by simp) allSlots (s.takeSlotsNotice true)

theorem State.holdSlots_eq : s.holdSlots = { s with
    watching := true, slots := s.holdSlots.slots, links := s.holdSlots.links, lanes := s.holdSlots.lanes,
    notices := { s.notices with
      slots := s.notices.slots.tail, departLink := s.notices.departLink ++ allSlots.filter s.linked,
      departCircuits := s.notices.departCircuits ++ allSlots.filter s.linked } } := by
  apply State.eq_of_fields
  case h2 => exact s.watching_holdSlots
  case h4 => exact s.notices_holdSlots
  all_goals simp

end

/-- Settles O26: the notice taken, and each slot held with its work ended. -/
theorem sagNoticeHoldsEverySlot : Obligations.SagNoticeHoldsEverySlot := by
  intro s hp hn r
  have hr : r = s.takeDepartures := rfl
  have hslot (n : SlotNo) : r.slot n = s.slot n := by simp [hr]
  have hlane (k : LaneNo) : r.lane k = s.lane k := by simp [hr]
  refine ⟨s.sagSlots, State.event_of hp (by simp [State.slotsNotice, hn]), fun n => ?_, fun n => ?_, fun k => ?_, ?_⟩
  · rw [State.sagSlots, State.slot_holdSlots, ← hr, hslot]
    rfl
  · rw [State.sagSlots, State.link_holdSlots, ← hr, hslot]
    rfl
  · rw [State.sagSlots, State.lane_holdSlots, ← hr, hlane]
    simp only [hslot]
  · have hlinked : allSlots.filter r.linked = allSlots.filter fun n => (s.slot n).state == .linked :=
      List.filter_congr fun n _ => by rw [State.linked, hslot]
    have hnot : r.notices = { s.notices with departCircuits := [] } := by
      have h1 : r.notices.slots = s.notices.slots := by simp [hr]
      have h2 : r.notices.circuits = s.notices.circuits := by simp [hr]
      have h3 : r.notices.restore = s.notices.restore := by simp [hr]
      have h4 : r.notices.departLink = s.notices.departLink := by simp [hr]
      have h5 : r.notices.departCircuits = [] := by simp [hr]
      change r.notices = ⟨s.notices.slots, s.notices.circuits, s.notices.restore, s.notices.departLink, []⟩
      rw [← h1, ← h2, ← h3, ← h4, ← h5]
    rw [State.sagSlots, ← hr]
    conv_lhs => rw [State.holdSlots_eq, hlinked, hnot, List.nil_append]

/-! ## The recover notice (R43) -/

/-- What the recover notice makes of a slot context, at a clock value and with the captured settings of its slot. -/
def SlotContext.atRecover (c : SlotContext) (clock : Word) (rate : Rate) (cls : Classification) : SlotContext :=
  if c.state = .held then
    if c.resetAtRecover then
      { c with state := .booting, mode := .full, attempt := 1, pulseTimer := startTimer clock 10, resetOut := true,
               forceFull := false, forceReset := false }
    else
      let mode := if cls == .short && c.wasLinked && c.cgHeld && !c.forceFull &&
        (c.lastGood.valid && c.lastGood.rate == rate) then Mode.verify else .full
      { c with state := .pending, mode := mode, attempt := mode.firstAttempt, forceFull := false, forceReset := false }
  else c

section
variable (cls : Classification) (s : State) (n m : SlotNo)

theorem State.slot_recoverSlot_self :
    (State.recoverSlot cls s n).slot n = (s.slot n).atRecover s.clock (s.sl0 n).rate cls := by
  unfold State.recoverSlot SlotContext.atRecover
  split
  · split
    · rw [State.bootWithReset, State.slot_setSlot, if_pos rfl, State.clearForce, State.slot_setSlot, if_pos rfl]
      rfl
    · rw [State.goPending, State.slot_setSlot, if_pos rfl, State.clearForce, State.slot_setSlot, if_pos rfl]
      rfl
  · rfl

theorem State.slot_recoverSlot_ne (h : n ≠ m) : (State.recoverSlot cls s n).slot m = s.slot m := by
  unfold State.recoverSlot
  split
  · split
    · rw [State.bootWithReset, State.slot_setSlot, if_neg h, State.clearForce, State.slot_setSlot, if_neg h]
    · rw [State.goPending, State.slot_setSlot, if_neg h, State.clearForce, State.slot_setSlot, if_neg h]
  · rfl

theorem State.slot_recoverSlots :
    (s.recoverSlots cls).slot m = (s.slot m).atRecover s.clock (s.sl0 m).rate cls := by
  have h := foldl_slots (f := State.recoverSlot cls) (view := fun s n => (s.slot n, s.clock, (s.sl0 n).rate))
    (g := fun p => (p.1.atRecover p.2.1 p.2.2 cls, p.2.1, p.2.2))
    (fun s n => by simp [State.slot_recoverSlot_self, State.clock])
    (fun s n m hm => by simp [State.slot_recoverSlot_ne cls s n m hm, State.clock]) allSlots_nodup
    (s.takeSlotsNotice false) m
  rw [if_pos (mem_allSlots m)] at h
  rw [State.recoverSlots, (State.judgeOnce_leaves _).2.2.2.1]
  exact (Prod.mk.inj h).1

end

/-- Settles O27: the notice taken, each HELD slot reset or relinked, and the judgement recorded. -/
theorem recoverNoticeMovesEveryHeldSlot : Obligations.RecoverNoticeMovesEveryHeldSlot := by
  intro s cls hp hn
  have hexec : exec .recoverNoticeSlots s = .next (s.judged (s.recoverSlots cls)) := by
    change execRecoverNoticeSlots s = _
    rw [execRecoverNoticeSlots, State.slotsNotice, hn]
    exact State.event_of hp rfl
  refine ⟨s.recoverSlots cls, hexec, fun n hs => ?_, fun n hs hr => ?_, fun n hs hf ht v hv => ?_, ?_⟩
  · rw [State.slot_recoverSlots, SlotContext.atRecover, if_neg hs]
  · have hreset : (s.slot n).resetAtRecover = true := by
      rcases hr with e | e <;> simp [SlotContext.resetAtRecover, e]
    rw [State.slot_recoverSlots, SlotContext.atRecover, if_pos hs, if_pos hreset]
    rfl
  · have hreset : ¬(s.slot n).resetAtRecover = true := by simp [SlotContext.resetAtRecover, hf, ht]
    have hmode : (cls == .short && (s.slot n).wasLinked && (s.slot n).cgHeld && !(s.slot n).forceFull &&
        ((s.slot n).lastGood.valid && (s.slot n).lastGood.rate == (s.sl0 n).rate)) = v := by
      rw [hv, ← Bool.and_assoc]
      rfl
    rw [State.slot_recoverSlots, SlotContext.atRecover, if_pos hs, if_neg hreset, hmode]
    dsimp only
    rw [Mode.firstAttempt_ite]
  · have hw : (s.recoverSlots cls).watching = false := by
      simp only [State.recoverSlots, State.judgeOnce_leaves]
      exact foldl_leaves (fun t : State => t.watching) (f := State.recoverSlot cls) (fun _ _ => by simp) allSlots
        (s.takeSlotsNotice false)
    have hnot : (s.recoverSlots cls).notices = { s.notices with slots := s.notices.slots.tail } := by
      simp only [State.recoverSlots, State.judgeOnce_leaves]
      exact foldl_leaves (fun t : State => t.notices) (f := State.recoverSlot cls) (fun _ _ => by simp) allSlots
        (s.takeSlotsNotice false)
    have hj : (allSlots.foldl (State.recoverSlot cls) (s.takeSlotsNotice false)).judging = s.judging :=
      foldl_leaves (fun t : State => t.judging) (f := State.recoverSlot cls) (fun _ _ => by simp) allSlots
        (s.takeSlotsNotice false)
    apply State.eq_of_fields
    case h2 => exact hw
    case h4 => exact hnot
    case h11 =>
      rw [State.recoverSlots, State.judgeOnce, hj]
    all_goals simp

/-! ## Every departure from LINKED (R24) -/

section
variable (s : State) {n m : SlotNo} (h : n ≠ m)
include h

theorem State.slot_failAttempt_ne (r : FailReason) : (s.failAttempt n r).slot m = s.slot m := by
  unfold State.failAttempt
  dsimp only
  split <;> simp [State.bootWithReset, State.goFailed, h]

theorem State.slot_goLinked_ne : (s.goLinked n).slot m = s.slot m := by simp [State.goLinked, h]

theorem State.slot_identified_ne (t r : BitVec 16) : (s.identified n t r).slot m = s.slot m := by
  have hr : ((s.freeLink n).recordIdentity n t r).slot m = s.slot m := by simp [State.recordIdentity, h]
  unfold State.identified
  dsimp only
  split
  · split
    · rw [State.slot_goLinked_ne _ h, hr]
    · simpa using hr
  · simpa [State.goMismatch, h] using hr

theorem State.slot_failVerify_ne (l : LaneNo) (r : FailReason) : (s.failVerify l n r).slot m = s.slot m := by
  simp [State.failVerify, h]

theorem State.slot_bindLane_ne (l : LaneNo) : (s.bindLane n l).slot m = s.slot m := by
  unfold State.bindLane State.startSweep
  (repeat' split) <;> simp [State.slot_failVerify_ne _ h, h]

theorem State.slot_grant_ne (l : LaneNo) : (s.grant n l).slot m = s.slot m := by
  rw [State.grant, State.slot_bindLane_ne _ h]
  simp

theorem State.slot_failSweep_ne (l : LaneNo) (md : Mode) (r : FailReason) :
    (s.failSweep l n md r).slot m = s.slot m := by
  unfold State.failSweep
  split
  · exact s.slot_failVerify_ne h l r
  · rw [State.slot_failAttempt_ne _ h, State.slot_releaseLane, if_neg h]

theorem State.slot_endProbe_ne (b : Bool) : (s.endProbe n b).slot m = s.slot m := by
  unfold State.endProbe State.sampled State.concludeSweep
  (repeat' split) <;> simp [State.slot_failSweep_ne _ h, State.slot_lockSweep, h]

end

/-- What R24 asks of a slot that was LINKED: LINKED still with no departure notice sent, or its two notices sent. -/
def State.Notified (n : SlotNo) (s : State) : Prop :=
  ((s.slot n).state = .linked ∧ s.notices.departLink.count n = 0 ∧ s.notices.departCircuits.count n = 0) ∨
  ((s.slot n).state ≠ .linked ∧ s.notices.departLink.count n = 1 ∧ s.notices.departCircuits.count n = 1)

namespace State.Notified

variable {s t : State} {n : SlotNo}

/-- A LINKED slot has no departure notice on its way. -/
theorem of_linked (hd : DeparturesOk s) (hs : (s.slot n).state = .linked) : s.Notified n := by
  have hno : ¬s.departing n = true := fun e => (hd.away n e).2.2 hs
  simp only [State.departing, Bool.or_eq_true, List.contains_iff_mem, not_or] at hno
  exact .inl ⟨hs, List.count_eq_zero.mpr hno.1, List.count_eq_zero.mpr hno.2⟩

theorem congr (h : s.Notified n) (hs : (t.slot n).state = (s.slot n).state)
    (hl : t.notices.departLink = s.notices.departLink) (hc : t.notices.departCircuits = s.notices.departCircuits) :
    t.Notified n := by
  rw [State.Notified, hs, hl, hc]
  exact h

theorem keptBySlotMoves (n : SlotNo) : KeptBySlotMoves (State.Notified n) where
  congr s t k h := h.congr (congrArg (·.1) (k.slot n)) (by rw [k.notices]) (by rw [k.notices])
  leave s k c hc _ h := by
    unfold State.Notified
    rw [State.slot_setSlot, show ((s.endWork k).setSlot k c).notices = (s.endWork k).notices from rfl,
      State.notices_endWork]
    by_cases hk : k = n
    · subst hk
      rw [if_pos rfl]
      refine .inr ⟨hc.2.2, ?_⟩
      rcases h with ⟨hs, hl, hc⟩ | ⟨hs, hl, hc⟩
      · simp [hs, hl, hc]
      · simp [hs, hl, hc]
    · rw [if_neg hk, State.slot_endWork, if_neg hk]
      split <;> simpa [hk, State.Notified] using h

theorem writeShadow (h : s.Notified n) (hs : (s.slot n).state = .linked) (w : ShadowWord) (d : Word)
    (e : ByteEnables) : ((s.writeShadow w d e).slot n).state = .linked ∨ (s.writeShadow w d e).Notified n := by
  have same : KeptByRequestWrites fun t => (t.slot n).state = .linked := ⟨?_, ?_, ?_, ?_⟩
  cases w with
  | cw k =>
    refine .inl (State.writeControl_keeps (P := fun t => (t.slot n).state = .linked) ⟨?_, ?_, ?_, ?_, ?_, ?_⟩ same
      (fun t ht => (congrArg (·.1) (t.work_takeRelinkAll n)).trans ht) hs k d e)
    all_goals
      intros
      simpa
  | sl1 m =>
    unfold State.writeShadow
    dsimp only
    split
    · exact .inr (State.slotRequest_keeps (keptBySlotMoves n).slotRequests h m _)
    · exact .inl hs
  | request i => exact .inl (State.writeCircuit_keeps same hs i d e)
  | sl0 m => exact .inl (by simpa [State.writeShadow] using hs)
  | sw k => exact .inl hs
  | ss m k => exact .inl hs
  | entryState i => exact .inl hs
  all_goals
    intros
    simpa

/-- A LINKED slot holds no lane, so that no probe of its moves it. -/
theorem linked_endProbe (hl : LanesOk s) (hs : (s.slot n).state = .linked) (m : SlotNo) (b : Bool) :
    ((s.endProbe m b).slot n).state = .linked := by
  by_cases hm : m = n
  · subst hm
    have hnone : (s.slot m).lane = none := hl.lane_eq_none (by simp [hs])
    rw [State.endProbe, State.sweepOf, hnone]
    exact hs
  · rw [s.slot_endProbe_ne hm b, hs]

/-- A command finds the slot LINKED, and leaves it so or sends its notices. -/
theorem of_effect {c : Instr} (h : s.Notified n) (hl : LanesOk s) (hs : (s.slot n).state = .linked)
    (he : Effect s t c) (hc : ∀ n f, c ≠ .discardedFrame n f) (hp : ∀ a f, c ≠ .powerOnReset a f) :
    (t.slot n).state = .linked ∨ t.Notified n := by
  have slots := keptBySlotMoves n
  have other {m : SlotNo} {x : SlotState} (hm : (s.slot m).state = x) (hx : x ≠ .linked) : m ≠ n := by
    rintro rfl
    exact hx (hm.symm.trans hs)
  have still {u : State} (hu : u.slot n = s.slot n) : (u.slot n).state = .linked := by rw [hu, hs]
  cases c
  case powerOnReset a f => exact absurd rfl (hp a f)
  case powerOnResetAsserted =>
    subst he
    refine .inl ?_
    rw [State.slot_assertPowerOn]
    exact hs
  case controllerReset => rcases he with ⟨-, rfl⟩ | ⟨-, rfl⟩ <;> exact .inl hs
  case railDeclaredLow =>
    obtain ⟨-, -, rfl⟩ := he
    exact .inl ((congrArg (·.1) (s.work_railLow n)).trans hs)
  case cardGoodDeclaredGood m =>
    obtain ⟨-, -, rfl⟩ := he
    exact .inr (slots.cardArrives m (h.congr rfl rfl rfl))
  case cardGoodDeclaredLow m =>
    obtain ⟨-, -, rfl⟩ := he
    exact .inr (slots.cardLeaves m (h.congr rfl rfl rfl))
  case sagNoticeSlots =>
    obtain ⟨-, -, ht⟩ := he
    rw [ht]
    have hr : s.takeDepartures.Notified n := by
      rcases h with ⟨hx, hl, -⟩ | ⟨hx, -⟩
      · exact .inl ⟨by simpa using hx, by simpa using hl, by simp⟩
      · exact absurd hs hx
    exact .inr (slots.holdSlots (hr.congr rfl rfl rfl))
  case recoverNoticeSlots =>
    obtain ⟨-, cls, -, ht⟩ := he
    rw [ht]
    exact .inr (slots.recoverSlots cls (h.congr rfl rfl rfl))
  case resetPulseExpiry m =>
    obtain ⟨-, -, rfl⟩ := he
    exact .inr (slots.congr _ _ (s.endPulse_same m) h)
  case bootTimeout m =>
    obtain ⟨-, -, rfl⟩ := he
    exact .inr (slots.bootTimeout m _ h)
  case idleFrame m =>
    obtain ⟨-, -, rfl⟩ := he
    exact .inr (slots.alive m h)
  case laneGrant =>
    obtain ⟨-, m, l, hd, rfl⟩ := he
    have hm := other (State.grantWinner_waits (State.grantDue_iff.mp hd).1) nofun
    exact .inl (still (s.slot_grant_ne hm l))
  case sampleReply m tag bit =>
    obtain ⟨-, -, rfl⟩ := he
    exact .inl (linked_endProbe hl hs m bit)
  case probeTimeout m =>
    obtain ⟨-, -, rfl⟩ := he
    exact .inl (linked_endProbe hl hs m false)
  case identityReply m tag type revision =>
    obtain ⟨-, hi, rfl⟩ := he
    exact .inl (still (s.slot_identified_ne (other (State.identityTaken_iff.mp hi).1 nofun) _ _))
  case clearOrderDone m tag =>
    obtain ⟨-, hi, rfl⟩ := he
    exact .inl (still (State.slot_goLinked_ne _ (other (State.clearTaken_iff.mp hi).1 nofun)))
  case identTimeout m =>
    obtain ⟨-, hi, rfl⟩ := he
    exact .inr (slots.identTimeout (State.identDue_state hi) _ h)
  case linkLoss m =>
    obtain ⟨-, -, rfl⟩ := he
    exact .inr (slots.takeLoss m h)
  case relink m =>
    obtain ⟨-, rfl⟩ := he
    exact .inr (slots.takeRelink m h)
  case relinkReset m =>
    obtain ⟨-, rfl⟩ := he
    exact .inr (slots.takeRelinkReset m h)
  case quiesce m =>
    obtain ⟨-, rfl⟩ := he
    exact .inr (slots.takeQuiesce m h)
  case resume m =>
    obtain ⟨-, rfl⟩ := he
    exact .inr (slots.takeResume m h)
  case relinkAll =>
    obtain ⟨-, rfl⟩ := he
    exact .inl ((congrArg (·.1) (s.work_takeRelinkAll n)).trans hs)
  case settableWordWrite w d e =>
    obtain ⟨-, rfl⟩ := he
    exact h.writeShadow hs w d e
  case discardedFrame m f => exact absurd rfl (hc m f)
  all_goals
    simp only [Effect] at he
    try casesm* _ ∧ _, ∃ _, _
    subst_vars
    exact .inl (still (by simp))

end State.Notified

/-- Settles O4: a slot that leaves LINKED does so by a move that ends the work of LINKED, which sends both notices. -/
theorem everyDepartureIsNotified : Obligations.EveryDepartureIsNotified := by
  intro c s t n hl hd h hp hs hn
  have counts {u : State} (hu : (u.slot n).state = .linked ∨ u.Notified n) (hn : (u.slot n).state ≠ .linked) :
      u.notices.departLink.count n = 1 ∧ u.notices.departCircuits.count n = 1 := by
    rcases hu with e | ⟨e, -⟩ | ⟨-, h⟩
    · exact absurd e hn
    · exact absurd e hn
    · exact h
  rcases exec_effect h with rfl | ⟨c', u, he, hframe, hc, ht⟩
  · exact absurd hs hn
  have hp' : ∀ a f, c' ≠ .powerOnReset a f := by
    rintro a f rfl
    rcases hc with e | e
    · exact hp a f e.symm
    · cases e
  have hu := (State.Notified.of_linked hd hs).of_effect hl hs he hframe hp'
  rcases ht with rfl | rfl
  · exact counts hu hn
  · exact counts hu hn

end Sys2Proof.Machine
end

section
/-! Link training: the grant, the walk of the probes through a sweep, its outcome, and the search for an edge. -/

namespace Sys2Proof.Machine

/-! ## The first of an ordered list -/

/-- The first element of an ordered list that qualifies is the least that does. -/
theorem find?_of_least {α : Type} [LinearOrder α] {l : List α} {p : α → Bool} {a : α} (hl : l.Pairwise (· < ·))
    (ha : a ∈ l) (hp : p a = true) (hleast : ∀ b, p b = true → a ≤ b) : l.find? p = some a := by
  induction l with
  | nil => cases ha
  | cons b l ih =>
    obtain ⟨hb, hl⟩ := List.pairwise_cons.mp hl
    rcases List.mem_cons.mp ha with rfl | ha
    · rw [List.find?_cons_of_pos hp]
    · rw [List.find?_cons_of_neg fun e => not_lt_of_ge (hleast b e) (hb a ha)]
      exact ih hl ha

/-- So is the first that has an answer. -/
theorem findSome?_of_least {α β : Type} [LT α] {l : List α} {f : α → Option β} {a : α} {b : β}
    (hl : l.Pairwise (· < ·)) (ha : a ∈ l) (hf : f a = some b) (hless : ∀ c, c < a → f c = none) :
    l.findSome? f = some b := by
  induction l with
  | nil => cases ha
  | cons c l ih =>
    obtain ⟨hc, hl⟩ := List.pairwise_cons.mp hl
    rcases List.mem_cons.mp ha with rfl | ha
    · rw [List.findSome?_cons, hf]
    · rw [List.findSome?_cons, hless c (hc a ha)]
      exact ih hl ha

theorem mem_allLanes (l : LaneNo) : l ∈ allLanes := by
  revert l
  decide

theorem allSlots_ordered : allSlots.Pairwise (· < ·) := by decide

/-! ## The lane arbiter (R52) -/

section
variable {s : State} {n : SlotNo} {l : LaneNo}

/-- The waiting slot of the lowest relink level, the lowest number among equals, wins. -/
theorem State.grantWinner_of_least (hn : (s.slot n).state = .pending)
    (hleast : ∀ m, (s.slot m).state = .pending → (s.sl0 n).relinkLevel < (s.sl0 m).relinkLevel ∨
      ((s.sl0 n).relinkLevel = (s.sl0 m).relinkLevel ∧ n ≤ m)) : s.grantWinner = some n := by
  have hmem : (s.sl0 n).relinkLevel ∈ [0#2, 1#2, 2#2, 3#2] := by
    generalize (s.sl0 n).relinkLevel = v
    revert v
    decide
  refine findSome?_of_least (by decide) hmem
    (find?_of_least allSlots_ordered (mem_allSlots n) (by simp [State.waits, hn]) fun m hm => ?_) fun v hv => ?_
  · simp only [State.waits, Bool.and_eq_true, beq_iff_eq] at hm
    rcases hleast m hm.1 with h | ⟨-, h⟩
    · exact absurd h (by rw [hm.2]; exact BitVec.lt_irrefl _)
    · exact h
  · refine List.find?_eq_none.mpr fun m _ hm => ?_
    simp only [State.waits, Bool.and_eq_true, beq_iff_eq] at hm
    rcases hleast m hm.1 with h | ⟨h, -⟩
    · exact BitVec.lt_asymm hv (hm.2 ▸ h)
    · exact absurd hv (by rw [h, hm.2]; exact BitVec.lt_irrefl _)

theorem State.idleLane_of_least (hl : s.lane l = none) (hleast : ∀ k, s.lane k = none → l ≤ k) :
    s.idleLane = some l :=
  find?_of_least (by decide) (mem_allLanes l) (by simp [hl]) fun k hk => hleast k (by simpa using hk)

theorem State.grantDue_none (h : (∀ n, (s.slot n).state ≠ .pending) ∨ (∀ l, s.lane l ≠ none)) : s.grantDue = none := by
  refine Option.eq_none_iff_forall_ne_some.mpr fun ⟨n, l⟩ hd => ?_
  obtain ⟨hn, hl⟩ := State.grantDue_iff.mp hd
  rcases h with h | h
  · exact h n (State.grantWinner_waits hn)
  · exact h l (State.idleLane_idle hl)

end

/-! ## The start of a sweep (R54, R65) -/

/-- A sweep begun by a slot whose context has just been written, in a state that has the settings of `s`. -/
theorem State.beginSweep_at {s u : State} {n : SlotNo} {l : LaneNo} {c : SlotContext} {mode : Mode}
    (hsup : u.supply = s.supply) (hset : u.sl0 n = s.sl0 n) (hlast : c.lastGood = (s.slot n).lastGood) :
    (u.setSlot n c).beginSweep l n mode = State.send (((u.setSlot n c).setLane l (some (s.freshSweep n mode))).setLink n
      { (u.link n).finishFrame s.supply.now with
        workingRate := (s.sl0 n).rate }) n (.probe (tapAt (s.freshSweep n mode).centre 0)) false := by
  have hfresh : (u.setSlot n c).freshSweep n mode = s.freshSweep n mode := by
    simp [State.freshSweep, hset, hlast]
  rw [State.beginSweep_eq, hfresh, State.continueSweep, State.sendProbe, State.setRate, State.setLane_setLink]
  rw [show (u.setSlot n c).supply = s.supply from hsup, show (u.setSlot n c).sl0 n = s.sl0 n from hset]
  rfl

section
variable {s : State} {n : SlotNo} {l : LaneNo}

theorem State.tapAt_freshSweep_full (s : State) (n : SlotNo) : tapAt (s.freshSweep n .full).centre 0 = 0#6 := rfl

theorem State.tapAt_freshSweep_verify (s : State) (n : SlotNo) :
    tapAt (s.freshSweep n .verify).centre 0 = (s.slot n).lastGood.edge - 4#6 := BitVec.add_zero _

theorem exec_laneGrant (hp : s.por = false) (hd : s.grantDue = some (n, l)) :
    exec .laneGrant s = .next (s.judged (s.grant n l)) := by
  change execLaneGrant s = _
  rw [execLaneGrant, hd]
  exact State.event_of hp rfl

end

/-- The winner's notices taken, as the statement writes it. -/
theorem State.finishDeparture_eq (s : State) (n : SlotNo) : s.finishDeparture n =
    let v := if n ∈ s.notices.departLink then s.departLink n else s
    let w := Nat.repeat State.takeSagCircuits (s.notices.circuits - s.notices.slots.count .sag) v
    if n ∈ w.notices.departCircuits then w.parkSlot n else w := by
  have hv : s.finishLink n = if n ∈ s.notices.departLink then s.departLink n else s := by
    simp [State.finishLink]
  have hlate : (s.finishLink n).lateSags = s.notices.circuits - s.notices.slots.count .sag := by
    simp [State.lateSags]
  rw [State.finishDeparture, State.finishCircuits, State.finishSags, hlate, hv]
  simp

/-- Settles O32: the winner's notices taken, and the sweep of its mode started on the lane. -/
theorem laneGrantServesLowestLevelFirst : Obligations.LaneGrantServesLowestLevelFirst := by
  refine ⟨fun s n l hp hn hleast hl hlane => ?_, fun s hp h => ?_⟩
  · intro v late w u start c known
    have hu : s.finishDeparture n = u := s.finishDeparture_eq n
    have hsup : u.supply = s.supply := by simp [← hu]
    have hset : u.sl0 n = s.sl0 n := by
      have hcap : u.path.captured = s.path.captured := by simp [← hu]
      exact congrArg (fun k : Captured => k.slot[n]) hcap
    have hslot : u.slot n = s.slot n := by simp [← hu]
    have hd : s.grantDue = some (n, l) :=
      State.grantDue_iff.mpr ⟨State.grantWinner_of_least hn hleast, State.idleLane_of_least hl hlane⟩
    have hgrant : exec .laneGrant s = .next (s.judged ((u.setSlot n c).startSweep l n)) := by
      rw [exec_laneGrant hp hd, State.grant, State.bindLane, hu, hslot]
    have hself : (u.setSlot n c).slot n = c := by rw [State.slot_setSlot, if_pos rfl]
    have hknown : (u.setSlot n c).timingKnown n = true ↔ known := by
      simp [State.timingKnown, hset, c, known]
    refine ⟨fun hm => ?_, fun hm hk => ?_, fun hm hk => ?_⟩
    · have hmode : ((u.setSlot n c).slot n).mode = .full := by rw [hself]; exact hm
      rw [hgrant, State.startSweep, hmode]
      exact congrArg (fun t => Host.Outcome.next (s.judged t)) (State.beginSweep_at (c := c) hsup hset rfl)
    · have hmode : ((u.setSlot n c).slot n).mode = .verify := by rw [hself]; exact hm
      rw [hgrant, State.startSweep, hmode]
      dsimp only
      rw [if_pos (hknown.mpr hk), State.beginSweep_at (c := c) hsup hset rfl, State.tapAt_freshSweep_verify]
    · have hmode : ((u.setSlot n c).slot n).mode = .verify := by rw [hself]; exact hm
      rw [hgrant, State.startSweep, hmode]
      dsimp only
      rw [if_neg (mt hknown.mp hk), State.failVerify, hself, State.setSlot_setSlot]
      exact congrArg (fun t => Host.Outcome.next (s.judged t)) (State.beginSweep_at hsup hset rfl)
  · change execLaneGrant s = _
    rw [execLaneGrant, State.grantDue_none h]
    exact State.event_of_not rfl

/-! ## Probes (R55, R56) -/

section
variable {s : State} {n : SlotNo} {l : LaneNo} {w : Sweep}

/-- A sample, or a timeout that stands for the sample 0, ends the probe in flight. -/
theorem exec_probeEnd {x : Exchange} {tap : Tap} {bit : Bool} {c : Instr} (hp : s.por = false) (hx : s.InFlight n x)
    (hw : x.work = .probe tap) (hc : c = .sampleReply n x.tag bit ∨
      (c = .probeTimeout n ∧ bit = false ∧ s.supply.microReached x.expiry = true)) :
    exec c s = .next (s.judged (s.endProbe n bit)) := by
  have hcomp : ∀ b, completes x.work (.sample b) = true := fun _ => completes_sample.mpr ⟨tap, hw⟩
  rcases hc with rfl | ⟨rfl, rfl, ht⟩
  · exact State.event_of hp (LinkUnit.takesReply_iff.mpr ⟨x, hx, rfl, hcomp bit⟩)
  · have hdue : s.probeDue n = true := by
      rw [State.probeDue, hx]
      simp [hcomp, State.exchangeExpired_of ⟨hx, ht⟩]
    exact State.event_of hp hdue

theorem State.endProbe_of_sweeping (h : s.Sweeping n l w) (bit : Bool) :
    s.endProbe n bit = (s.freeLink n).sampled l n (w.count bit) := by
  rw [State.endProbe, State.sweepOf_eq_some.mpr h]

end

/-- Settles O33: below the eighth probe the same tap, below the last position the next one, and the three readings. -/
theorem probesWalkThroughTheSweep : Obligations.ProbesWalkThroughTheSweep := by
  refine ⟨fun n l w s x tap bit c hp hs hx hw hc => ?_, fun k hk => ?_⟩
  · intro ones next
    rw [exec_probeEnd hp hx hw hc, State.endProbe_of_sweeping hs, State.sampled]
    refine ⟨fun h => ?_, fun h8 hpos => ?_⟩
    · rw [if_pos (by exact h)]
      rfl
    · rw [if_neg (by exact Nat.not_lt.mpr h8), if_pos (by exact hpos)]
      rfl
  · unfold readingOf
    split
    · simp
      omega
    · split
      · simp
        omega
      · simp
        omega

/-! ## The outcome of a sweep (R57 to R65) -/

section
variable {s : State} {n : SlotNo} {l : LaneNo} {w : Sweep}

theorem State.concludeSweep_of_fail {r : FailReason} (h : (findEdge w.readings w.mode = none ∧ r = .noEdge) ∨
    (∃ h p, findEdge w.readings w.mode = some (h, p) ∧
      s.path.captured.spreadLimit.toNat < edgeSpread (tapAt w.centre p) (tapAt w.centre h) ∧ r = .spread)) :
    s.concludeSweep l n w = s.failSweep l n w.mode r := by
  rcases h with ⟨hf, rfl⟩ | ⟨h, p, hf, hlim, rfl⟩
  · rw [State.concludeSweep, hf]
  · rw [State.concludeSweep, hf]
    exact if_pos hlim

theorem State.concludeSweep_of_lock {h p : Nat} (hf : findEdge w.readings w.mode = some (h, p))
    (hlim : edgeSpread (tapAt w.centre p) (tapAt w.centre h) ≤ s.path.captured.spreadLimit.toNat) :
    s.concludeSweep l n w = s.lockSweep n w (tapAt w.centre p) (tapAt w.centre h) := by
  rw [State.concludeSweep, hf]
  exact if_neg (Nat.not_lt.mpr hlim)

/-- The last probe of a sweep concludes it. -/
theorem State.sampled_of_last (h8 : 8 ≤ w.probe) (hpos : w.mode.positions ≤ w.position + 1) :
    s.sampled l n w = s.concludeSweep l n w.record := by
  rw [State.sampled, if_neg (Nat.not_lt.mpr h8), if_neg (Nat.not_lt.mpr hpos)]

theorem State.releaseLane_of (hl : (s.slot n).lane = some l) :
    s.releaseLane n = (s.setSlot n { s.slot n with lane := none }).setLane l none := by
  rw [State.releaseLane, hl]
  rfl

theorem State.failSweep_full (hl : (s.slot n).lane = some l) (r : FailReason) : (s.freeLink n).failSweep l n .full r =
    State.failAttempt (((s.setSlot n { s.slot n with lane := none }).setLane l none).setLink n
      { s.link n with exchange := none }) n r := by
  rw [State.failSweep, State.releaseLane_of (s := s.freeLink n) hl]
  rfl

theorem State.failSweep_verify (r : FailReason) : (s.freeLink n).failSweep l n .verify r =
    State.send (((s.setSlot n { s.slot n with
      lastFailure := r, mode := .full, attempt := 1 }).setLane l (some (s.freshSweep n .full))).setLink n
      { ({ s.link n with exchange := none } : LinkUnit).finishFrame s.supply.now with
        workingRate := (s.sl0 n).rate }) n (.probe 0#6) false := by
  refine Eq.trans (State.beginSweep_at (s := s) (u := s.freeLink n) (c := { s.slot n with
    lastFailure := r, mode := .full, attempt := 1 }) rfl rfl rfl) ?_
  rw [State.tapAt_freshSweep_full, State.freeLink, State.setSlot_setLink, State.setLane_setLink, State.setLink_setLink,
    State.link_setLink, if_pos rfl]

theorem State.raiseDrift_eq (s : State) (n : SlotNo) (mode : Mode) (k : LockResults) : s.raiseDrift n mode k =
    if s.path.captured.driftLimit ≠ 0#5 ∧ s.path.captured.driftLimit.toNat < k.drift.natAbs then
      s.raise ⟨.drift, some n, mode.code.setWidth 8, none, none, s.supply.episode, s.supply.clock,
        driftValue k.drift k.edge⟩
    else s := by
  simp only [State.raiseDrift, driftExceeds, Bool.and_eq_true, bne_iff_ne, decide_eq_true_eq]
  rfl

theorem State.enterIdentify_at (s : State) (n : SlotNo) (l : LaneNo) (c : SlotContext) (k : LockResults) :
    (((s.freeLink n).setSlot n c).setLane l none).enterIdentify n k =
      State.send (((s.setSlot n { c with
        state := .identify, lock := k, expected := (s.sl0 n).expectedType }).setLane l none).setLink n
      { ({ s.link n with exchange := none } : LinkUnit).finishFrame s.supply.now with
        workingRate := k.rate, workingTap := k.lockTap }) n .identityQuery false := by
  simp only [State.enterIdentify, State.tuneLink, State.freeLink, State.setSlot_setLink, State.setLane_setLink,
    State.setLink_setLink, State.setSlot_setLane, State.setSlot_setSlot, State.slot_setLink, State.slot_setLane,
    State.slot_setSlot, State.link_setLink, if_pos]
  rfl

theorem State.lockSweep_eq (hl : (s.slot n).lane = some l) (low high : Tap) :
    let k := s.lockOf n w low high
    (s.freeLink n).lockSweep n w low high = State.send ((((s.raiseDrift n w.mode k).setSlot n { s.slot n with
        state := .identify, lane := none, lock := k, expected := (s.sl0 n).expectedType }).setLane l none).setLink n
      { ({ s.link n with exchange := none } : LinkUnit).finishFrame s.supply.now with
        workingRate := w.rate, workingTap := k.lockTap }) n .identityQuery false := by
  intro k
  have hk : (s.freeLink n).lockOf n w low high = k := rfl
  have hraise : (s.freeLink n).raiseDrift n w.mode k = (s.raiseDrift n w.mode k).freeLink n := by
    by_cases hd : driftExceeds k.drift s.path.captured.driftLimit = true
    · rw [show s.raiseDrift n w.mode k = s.raise _ from if_pos hd]
      exact if_pos hd
    · rw [show s.raiseDrift n w.mode k = s from if_neg hd]
      exact if_neg hd
  have hslot : ((s.raiseDrift n w.mode k).freeLink n).slot n = s.slot n := by simp
  have hset : (s.raiseDrift n w.mode k).sl0 n = s.sl0 n := by simp
  have hlink : (s.raiseDrift n w.mode k).link n = s.link n := by simp
  have hsup : (s.raiseDrift n w.mode k).supply = s.supply := by simp
  rw [← hset, ← hlink, ← hsup, State.lockSweep, hk, hraise, State.releaseLane_of (by rw [hslot, hl]), hslot]
  exact State.enterIdentify_at _ n l _ k

end

/-- Settles O34: the sweep that its last probe concludes fails in its mode, or locks. -/
theorem sweepsLockOrFail : Obligations.SweepsLockOrFail := by
  intro n l w s x tap bit c hp hs hx hw hc h8 hpos found spread limit freed
  have hexec : exec c s = .next (s.judged ((s.freeLink n).concludeSweep l n (w.count bit).record)) := by
    rw [exec_probeEnd hp hx hw hc, State.endProbe_of_sweeping hs, State.sampled_of_last (w := w.count bit) h8 hpos]
  refine ⟨fun reason hr => ?_, fun h p hf hlim => ?_⟩
  · rw [hexec, State.concludeSweep_of_fail (r := reason) hr]
    refine ⟨fun hm => ?_, fun hm => ?_⟩
    · rw [show (w.count bit).record.mode = .full from hm, State.failSweep_full hs.1]
    · rw [show (w.count bit).record.mode = .verify from hm, State.failSweep_verify]
  · intro edge drift k v
    rw [hexec, State.concludeSweep_of_lock (s := s.freeLink n) (w := (w.count bit).record) hf hlim]
    have hv : s.raiseDrift n w.mode k = v := s.raiseDrift_eq n w.mode k
    rw [← hv]
    exact congrArg (fun t => Host.Outcome.next (s.judged t)) (State.lockSweep_eq (w := (w.count bit).record) hs.1 _ _)

/-! ## The search for an edge (R57, R58) -/

/-- Behind positions that an index walks through, the search answers the first that is not UNSURE, where it is LOW. -/
theorem lowBehind_map_range' {r : List Reading} {f : Nat → Nat} {a k p : Nat} :
    lowBehind r ((List.range' a k).map f) = some p ↔ ∃ d, a ≤ d ∧ d < a + k ∧ p = f d ∧ readingAt r p = .low ∧
      ∀ e, a ≤ e → e < d → readingAt r (f e) = .unsure := by
  induction k generalizing a with
  | zero => exact iff_of_false nofun fun ⟨d, h1, h2, _⟩ => by omega
  | succ k ih =>
    rw [List.range'_succ, List.map_cons, lowBehind]
    cases hr : readingAt r (f a) with
    | unsure =>
      dsimp only
      rw [ih]
      refine ⟨fun ⟨d, h1, h2, hp, hl, he⟩ => ⟨d, by omega, by omega, hp, hl, fun e h3 h4 => ?_⟩,
        fun ⟨d, h1, h2, hp, hl, he⟩ => ?_⟩
      · rcases Nat.eq_or_lt_of_le h3 with rfl | h3
        · exact hr
        · exact he e h3 h4
      · have hd : d ≠ a := by
          rintro rfl
          rw [hp, hr] at hl
          cases hl
        exact ⟨d, by omega, by omega, hp, hl, fun e h3 h4 => he e (by omega) h4⟩
    | low =>
      refine ⟨fun h => ?_, fun ⟨d, h1, _, hp, hl, he⟩ => ?_⟩
      · obtain rfl := Option.some.inj h
        exact ⟨a, le_rfl, by omega, rfl, hr, fun e h3 h4 => by omega⟩
      · rcases Nat.eq_or_lt_of_le h1 with rfl | h1
        · rw [hp]
        · rw [he a le_rfl h1] at hr
          cases hr
    | high =>
      refine iff_of_false nofun fun ⟨d, h1, _, hp, hl, he⟩ => ?_
      rcases Nat.eq_or_lt_of_le h1 with rfl | h1
      · rw [hp, hr] at hl
        cases hl
      · rw [he a le_rfl h1] at hr
        cases hr

theorem qualifies_eq_some {r : List Reading} {behind : Nat → List Nat} {h : Nat} {q : Nat × Nat} :
    qualifies r behind h = some q ↔
      q.1 = h ∧ readingAt r h = .high ∧ lowBehind r (behind h) = some q.2 := by
  obtain ⟨h', p⟩ := q
  unfold qualifies
  split
  · rename_i e
    simp [e, Option.map_eq_some_iff, Prod.ext_iff]
    tauto
  · rename_i e
    simp [e]
  · rename_i e
    simp [e]

theorem qualifies_full {r : List Reading} {h : Nat} {q : Nat × Nat} (hh : h < 64) :
    qualifies r behindFull h = some q ↔ q.1 = h ∧ FullEdge r h q.2 := by
  have hstep (d : Nat) : (h + 63 - d) % 64 = (h + 64 - (d + 1)) % 64 := by
    congr 1
    omega
  rw [qualifies_eq_some, behindFull, List.range_eq_range', lowBehind_map_range', FullEdge]
  refine and_congr_right fun _ => ⟨fun ⟨hhigh, d, _, hd, hp, hlow, he⟩ => ?_,
    fun ⟨_, hhigh, d, h1, h2, hp, hlow, he⟩ => ?_⟩
  · refine ⟨hh, hhigh, d + 1, by omega, by omega, by rw [hp, hstep], hlow, fun e h3 h4 => ?_⟩
    obtain ⟨e, rfl⟩ : ∃ k, e = k + 1 := ⟨e - 1, by omega⟩
    rw [← hstep]
    exact he e (Nat.zero_le e) (by omega)
  · obtain ⟨d, rfl⟩ : ∃ k, d = k + 1 := ⟨d - 1, by omega⟩
    refine ⟨hhigh, d, Nat.zero_le d, by omega, by rw [hp, hstep], hlow, fun e _ h4 => ?_⟩
    rw [hstep]
    exact he (e + 1) (by omega) (by omega)

theorem qualifies_verify {r : List Reading} {k : Nat} {q : Nat × Nat} (hk : k < 9) :
    qualifies r behindVerify k = some q ↔ q.1 = k ∧ VerifyEdge r k q.2 := by
  rw [qualifies_eq_some, behindVerify, List.range_eq_range', List.reverse_range', List.range_eq_range',
    lowBehind_map_range', VerifyEdge]
  refine and_congr_right fun _ => ⟨fun ⟨hhigh, d, _, hd, hp, hlow, he⟩ => ?_, fun ⟨_, hhigh, hj, hlow, he⟩ => ?_⟩
  · refine ⟨hk, hhigh, by omega, hlow, fun i h3 h4 => ?_⟩
    have hi : i = 0 + k - 1 - (k - 1 - i) := by omega
    rw [hi]
    exact he _ (Nat.zero_le _) (by omega)
  · exact ⟨hhigh, k - 1 - q.2, Nat.zero_le _, by omega, by omega, hlow, fun e _ h4 => he _ (by omega) (by omega)⟩

/-- A search along the positions answers the first edge, where each position answers its own. -/
theorem findSome?_range'_eq_some {f : Nat → Option (Nat × Nat)} {a k h p : Nat} {E : Nat → Nat → Prop}
    (hf : ∀ i, i < a + k → ∀ q : Nat × Nat, f i = some q ↔ q.1 = i ∧ E i q.2) :
    (List.range' a k).findSome? f = some (h, p) ↔
      a ≤ h ∧ h < a + k ∧ E h p ∧ ∀ h' p', a ≤ h' → h' < h → ¬E h' p' := by
  induction k generalizing a with
  | zero => exact iff_of_false nofun fun ⟨h1, h2, _⟩ => by omega
  | succ k ih =>
    rw [List.range'_succ, List.findSome?_cons]
    cases hfa : f a with
    | some q =>
      obtain ⟨hq, hE⟩ := (hf a (by omega) q).mp hfa
      refine ⟨fun e => ?_, fun ⟨h1, _, hEh, hno⟩ => ?_⟩
      · obtain rfl := Option.some.inj e
        obtain rfl : h = a := hq
        exact ⟨le_rfl, by omega, hE, fun h' p' h3 h4 => by omega⟩
      · rcases Nat.eq_or_lt_of_le h1 with rfl | h1
        · rw [← hfa, (hf a (by omega) (a, p)).mpr ⟨rfl, hEh⟩]
        · exact absurd hE (hno a q.2 le_rfl h1)
    | none =>
      have hno (p' : Nat) : ¬E a p' := fun e => by
        rw [(hf a (by omega) (a, p')).mpr ⟨rfl, e⟩] at hfa
        cases hfa
      dsimp only
      rw [ih fun i hi => hf i (by omega)]
      refine ⟨fun ⟨h1, h2, hE, he⟩ => ⟨by omega, by omega, hE, fun h' p' h3 h4 => ?_⟩,
        fun ⟨h1, h2, hE, he⟩ => ⟨?_, by omega, hE, fun h' p' h3 h4 => he h' p' (by omega) h4⟩⟩
      · rcases Nat.eq_or_lt_of_le h3 with rfl | h3
        · exact hno p'
        · exact he h' p' h3 h4
      · rcases Nat.eq_or_lt_of_le h1 with rfl | h1
        · exact absurd hE (hno p)
        · exact h1

/-- The whole search, along all positions of a sweep. -/
theorem findSome?_range_edge {f : Nat → Option (Nat × Nat)} {k : Nat} {E : Nat → Nat → Prop}
    (hf : ∀ i, i < k → ∀ q : Nat × Nat, f i = some q ↔ q.1 = i ∧ E i q.2) (hE : ∀ h p, E h p → h < k) :
    (∀ h p, (List.range k).findSome? f = some (h, p) ↔ E h p ∧ ∀ h' p', h' < h → ¬E h' p') ∧
      ((List.range k).findSome? f = none ↔ ∀ h p, ¬E h p) := by
  have hsome (h p : Nat) :
      (List.range k).findSome? f = some (h, p) ↔ E h p ∧ ∀ h' p', h' < h → ¬E h' p' := by
    rw [List.range_eq_range', findSome?_range'_eq_some fun i hi => hf i (by omega)]
    exact ⟨fun ⟨_, _, h1, h2⟩ => ⟨h1, fun h' p' => h2 h' p' (Nat.zero_le _)⟩,
      fun ⟨h1, h2⟩ => ⟨Nat.zero_le _, by have := hE h p h1; omega, h1, fun h' p' _ => h2 h' p'⟩⟩
  refine ⟨hsome, fun hnone h p he => ?_, fun hno => Option.eq_none_iff_forall_ne_some.mpr fun ⟨h, p⟩ e =>
    hno h p ((hsome h p).mp e).1⟩
  have hfh := List.findSome?_eq_none_iff.mp hnone h (List.mem_range.mpr (hE h p he))
  rw [(hf h (hE h p he) (h, p)).mpr ⟨rfl, he⟩] at hfh
  cases hfh

/-! ## Spread and drift (R59, R61) -/

theorem driftOf_of_known {g : LastGood} {rate : Rate} (hv : g.valid = true) (hr : g.rate = rate) (e : Tap) :
    driftOf g rate e = ((e.toNat : Int) - g.edge.toNat + 32) % 64 - 32 := by
  simp [driftOf, hv, hr, cyclicDrift]

theorem driftOf_of_unknown {g : LastGood} {rate : Rate} (h : g.valid = false ∨ g.rate ≠ rate) (e : Tap) :
    driftOf g rate e = 0 := by
  rcases h with h | h <;> simp [driftOf, h]

theorem driftOf_range (g : LastGood) (rate : Rate) (e : Tap) : -32 ≤ driftOf g rate e ∧ driftOf g rate e ≤ 31 := by
  by_cases h : g.valid = true ∧ g.rate = rate
  · rw [driftOf_of_known h.1 h.2]
    omega
  · have hu : g.valid = false ∨ g.rate ≠ rate := by simpa [imp_iff_not_or] using h
    rw [driftOf_of_unknown hu]
    decide

/-- The drift of an edge at a position of the VERIFY window: the position counted from the last-good edge. -/
theorem driftOf_tapAt {g : LastGood} (hv : g.valid = true) {i : Nat} (hi : i ≤ 8) :
    driftOf g g.rate (tapAt (some g.edge) i) = (i : Int) - 4 := by
  have hedge := g.edge.isLt
  have htap : (tapAt (some g.edge) i).toNat = (g.edge.toNat + 60 + i) % 64 := by
    simp only [tapAt, BitVec.toNat_add, BitVec.toNat_sub, BitVec.toNat_ofNat]
    omega
  rw [driftOf_of_known hv rfl, htap]
  omega

/-- Settles O35: each search answers its first edge; spread and drift by their distances. -/
theorem searchesFindTheFirstEdge : Obligations.SearchesFindTheFirstEdge := by
  refine ⟨fun r => ?_, fun r => ?_, fun low high hne => ?_, fun g rate e => ?_, fun g j k hv hjk hk => ?_⟩
  · exact findSome?_range_edge (E := FullEdge r) (fun i hi q => qualifies_full hi) fun h p he => he.1
  · exact findSome?_range_edge (E := VerifyEdge r) (fun i hi q => qualifies_verify hi) fun h p he => he.1
  · have hpos := edgeDistance_pos hne
    rw [← edgeDistance_eq, edgeSpread]
    have hlt := edgeDistance_eq low high
    omega
  · exact ⟨(driftOf_range g rate e).1, (driftOf_range g rate e).2, fun hv hr => driftOf_of_known hv hr e,
      fun h => driftOf_of_unknown h e⟩
  · intro low high
    have hedge : edgeTap low high = tapAt (some g.edge) (j + (k - j + 1) / 2) :=
      edgeTap_tapAt_some g.edge hjk.le (by omega)
    rw [hedge, driftOf_tapAt hv (by omega), edgeSpread, edgeDistance_tapAt_some g.edge hjk.le (by omega)]
    omega

end Sys2Proof.Machine
end

section
/-! The Link Units: the choice of an exchange and its retry, what the transmit pair carries, the frames that R69
discards, and the departure notice. -/

namespace Sys2Proof.Machine

/-! ## Exchanges (R72, R73, R79) -/

section
variable {s : State} {n : SlotNo}

theorem State.linkChooses_of (hs : (s.slot n).state = .linked) (hx : (s.link n).exchange = none)
    (hl : (s.link n).lossDeclared = false) : s.linkChooses n = true := by
  simp [State.linkChooses, State.linked_iff.mpr hs, hx, hl]

/-- A request sent by a link of which only exchange, window and orders have been written. -/
theorem State.send_eq (s : State) (n : SlotNo) (work : Work) (retry : Bool) :
    s.send n work retry = s.setLink n { (s.link n).transmit s.supply.now work with
      nextTag := (s.link n).nextTag + 1#8,
      exchange := some ⟨work, (s.link n).nextTag, retry, s.supply.microExpiry
        (((s.link n).frameEnds s.supply.now + frameTime (s.link n).workingRate (requestBits work)) / 16 -
          s.supply.elapsed) (requestTimeout work)⟩ } := rfl

theorem State.startWindow_eq (s : State) (n : SlotNo) (w : WindowRequest) :
    s.startWindow n w = s.setLink n { (s.link n).transmit s.supply.now (.register w.op w.index) with
      window := some { w with inFlight := true }, nextTag := (s.link n).nextTag + 1#8,
      exchange := some ⟨.register w.op w.index, (s.link n).nextTag, false, s.supply.microExpiry
        (((s.link n).frameEnds s.supply.now +
          frameTime (s.link n).workingRate (requestBits (.register w.op w.index))) / 16 - s.supply.elapsed) 500⟩ } := by
  rw [State.startWindow, State.send_eq, State.setLink_setLink, State.link_setLink, if_pos rfl]
  rfl

theorem State.startOrder_eq {o : Order} {rest : List Order} (h : (s.link n).orders = o :: rest) :
    s.startOrder n o = s.setLink n { (s.link n).transmit s.supply.now (.order { o with inFlight := true }) with
      orders := { o with inFlight := true } :: rest, nextTag := (s.link n).nextTag + 1#8,
      exchange := some ⟨.order { o with inFlight := true }, (s.link n).nextTag, false, s.supply.microExpiry
        (((s.link n).frameEnds s.supply.now +
          frameTime (s.link n).workingRate (requestBits (.order o))) / 16 - s.supply.elapsed) 2000⟩ } := by
  rw [State.startOrder, State.send_eq, State.setLink_setLink, State.link_setLink, if_pos rfl, h]
  rfl

theorem requestBits_connect {o : Order} (h : o.kind = .connect) : requestBits (.order o) = 72 := by
  rw [requestBits, Work.kind, h]
  rfl

theorem requestBits_release {o : Order} (h : o.kind = .release) : requestBits (.order o) = 48 := by
  rw [requestBits, Work.kind, h]
  rfl

theorem State.retryDue_of {x : Exchange} (hx : s.TimedOut n x) (hr : x.retry = false) :
    s.retryDue n = x.work.retried := by
  rw [State.retryDue, hx.1]
  simp [hr, State.exchangeExpired_of hx]

theorem State.resend_eq {x : Exchange} (hx : (s.link n).exchange = some x) : s.resend n = s.send n x.work true := by
  rw [State.resend, hx]

end

/-! ## The lengths of frames (R68) -/

@[simp] theorem length_fieldBits {w : Nat} (v : BitVec w) : (fieldBits v).length = w := by simp [fieldBits]

@[simp] theorem length_placeBits {w : Nat} (place : Nat) (v : Option (BitVec w)) : (placeBits place v).length = 8 := by
  cases v <;> simp [placeBits]

theorem length_wholeFrame (kind : FrameKind) (tag : BitVec 8) (body : List Bool) :
    (wholeFrame kind tag body).length = (if kind = .idle then 24 else 32) + body.length := by
  simp only [wholeFrame, checkedBits, List.length_append, length_fieldBits]
  split
  · simp
    omega
  · simp
    omega

theorem Work.length_frame (w : Work) (tag : BitVec 8) : (w.frame tag).length = requestBits w := by
  rw [Work.frame, length_wholeFrame, requestBits]
  cases w with
  | probe tap => simp [Work.kind, Work.body, FrameKind.length]
  | identityQuery => rfl
  | clearOrder => rfl
  | order o => cases h : o.kind <;> simp [Work.kind, Work.body, Order.portBits, FrameKind.length, h]
  | register op index => cases op <;> simp [Work.kind, Work.body, FrameKind.length]

theorem length_idleFrame : idleFrame.length = 24 := by
  rw [idleFrame, length_wholeFrame]
  rfl

/-! ## What the transmit pair carries (R67, R68, R75) -/

section
variable {l : LinkUnit} {t : Nat}

theorem frameTime_idle (rate : Rate) :
    frameTime rate FrameKind.idle.length = match rate with | .std => 96 | .fast => 24 := by cases rate <;> rfl

theorem frameTime_request_pos (rate : Rate) (w : Work) : 0 < frameTime rate (requestBits w) := by
  have hw : 0 < requestBits w := by
    rw [requestBits]
    cases w.kind <;> decide
  cases rate <;> simp [frameTime, hw]

theorem LinkUnit.frameEnds_of_le (h : t ≤ l.idleFrom) : l.frameEnds t = l.idleFrom := if_pos h

/-- Idle frames follow one another from `idleFrom` on, and the one on the pair ends within its length. -/
theorem LinkUnit.frameEnds_of_lt (h : l.idleFrom < t) :
    ∃ k, l.frameEnds t = l.idleFrom + k * frameTime l.workingRate FrameKind.idle.length ∧
      l.frameEnds t < t + frameTime l.workingRate FrameKind.idle.length := by
  have hp := frameTime_idle_pos l.workingRate
  refine ⟨_, if_neg (Nat.not_le.mpr h), ?_⟩
  rw [LinkUnit.frameEnds, if_neg (Nat.not_le.mpr h)]
  generalize frameTime l.workingRate FrameKind.idle.length = p at *
  have hdiv := Nat.div_mul_le_self (t - l.idleFrom + (p - 1)) p
  omega

theorem LinkUnit.lineAt_of_ended (h : ∀ f ∈ l.line, f.ends ≤ t) :
    l.lineAt t = .frame l.workingRate l.strobe idleFrame := by
  have hnone : l.line.find? (fun f => t < f.ends) = none :=
    List.find?_eq_none.mpr fun f hf => by simpa using h f hf
  rw [LinkUnit.lineAt, hnone]

theorem LinkUnit.lineAt_of_sent {sent rest : List LineFrame} {f : LineFrame} (h : l.line = sent ++ f :: rest)
    (hsent : ∀ g ∈ sent, g.ends ≤ t) (hf : t < f.ends) : l.lineAt t = .frame f.rate f.strobe f.bits := by
  have hnone : sent.find? (fun g => t < g.ends) = none :=
    List.find?_eq_none.mpr fun g hg => by simpa using hsent g hg
  have hsome : l.line.find? (fun g => t < g.ends) = some f := by
    rw [h, List.find?_append, hnone, Option.none_or, List.find?_cons_of_pos (by simpa using hf)]
  rw [LinkUnit.lineAt, hsome]

/-- Once all that was placed has ended, finishing leaves the idle frame on the pair and nothing else. -/
theorem LinkUnit.finishFrame_line (h : ∀ f ∈ l.line, f.ends ≤ t) : (l.finishFrame t).line =
    if l.idleFrom < t ∧ t < l.frameEnds t then [⟨none, l.workingRate, l.strobe, l.frameEnds t⟩] else [] := by
  have hnil : l.line.filter (fun f => t < f.ends) = [] :=
    List.filter_eq_nil_iff.mpr fun f hf => by simpa using h f hf
  rw [LinkUnit.finishFrame, hnil, List.nil_append]

/-- An idle frame is on the pair where it has not ended. -/
theorem LinkUnit.idleFrom_lt (hidle : l.idleFrom ≤ t) (ht : t < l.frameEnds t) : l.idleFrom < t := by
  rcases Nat.eq_or_lt_of_le hidle with e | h
  · rw [LinkUnit.frameEnds_of_le e.ge, e] at ht
    exact absurd ht (lt_irrefl _)
  · exact h

/-- The frames on a pair end in the order they were placed, none after the time from which idle frames follow. -/
structure LinkUnit.LineOk (l : LinkUnit) : Prop where
  ends_le : ∀ f ∈ l.line, f.ends ≤ l.idleFrom
  ordered : l.line.Pairwise fun f g => f.ends < g.ends

theorem LinkUnit.LineOk.finishFrame (h : l.LineOk) (t : Nat) : (l.finishFrame t).LineOk where
  ends_le f hf := by
    have hle := l.idleFrom_le_frameEnds t
    rcases LinkUnit.mem_finishFrame.mp hf with ⟨hf, -⟩ | ⟨-, -, rfl⟩
    · exact (h.ends_le f hf).trans hle
    · exact le_rfl
  ordered := by
    rw [LinkUnit.finishFrame]
    refine List.pairwise_append.mpr ⟨h.ordered.filter _, ?_, fun f hf g hg => ?_⟩
    · split
      · exact List.pairwise_singleton ..
      · exact List.Pairwise.nil
    · split at hg
      · rename_i hi
        obtain rfl := List.mem_singleton.mp hg
        exact (h.ends_le f (List.mem_of_mem_filter hf)).trans_lt (hi.1.trans hi.2)
      · cases hg

theorem LinkUnit.LineOk.transmit (h : l.LineOk) (t : Nat) (w : Work) : (l.transmit t w).LineOk := by
  have hf := h.finishFrame t
  have hlt : l.frameEnds t < l.requestEnds t w := Nat.lt_add_of_pos_right (frameTime_request_pos _ w)
  refine ⟨fun f hm => ?_, List.pairwise_append.mpr ⟨hf.ordered, List.pairwise_singleton .., fun f hm g hg => ?_⟩⟩
  · rcases List.mem_append.mp hm with hm | hm
    · exact (hf.ends_le f hm).trans hlt.le
    · rw [List.mem_singleton.mp hm]
      exact le_rfl
  · rw [List.mem_singleton.mp hg]
    exact (hf.ends_le f hm).trans_lt hlt

/-- New settings take the pair over at the end of the idle frame that is on it. -/
theorem LinkUnit.lineAt_finishFrame (h : ∀ f ∈ l.line, f.ends ≤ t) (hidle : l.idleFrom ≤ t) (hx : l.exchange = none)
    (rate : Rate) (tap : Tap) {t' : Nat} (ht : t ≤ t') :
    let m : LinkUnit := { l.finishFrame t with workingRate := rate, workingTap := tap }
    (t' < l.frameEnds t → m.lineAt t' = .frame l.workingRate l.workingTap idleFrame) ∧
      (l.frameEnds t ≤ t' → m.lineAt t' = .frame rate tap idleFrame) := by
  intro m
  have hline : m.line = _ := LinkUnit.finishFrame_line h
  refine ⟨fun hlt => ?_, fun hle => ?_⟩
  · have hnow := ht.trans_lt hlt
    rw [if_pos ⟨LinkUnit.idleFrom_lt hidle hnow, hnow⟩] at hline
    rw [LinkUnit.lineAt_of_sent (sent := []) hline nofun hlt, LinkUnit.strobe, hx]
    rfl
  · rw [LinkUnit.lineAt_of_ended fun f hf => ?_, LinkUnit.strobe, show m.exchange = none from hx]
    rw [hline] at hf
    split at hf
    · rw [List.mem_singleton.mp hf]
      exact hle
    · cases hf

/-- A request sent over ended frames: the idle frame on the pair to its end, then the request, then idle frames. -/
theorem LinkUnit.lineAt_transmit (h : ∀ f ∈ l.line, f.ends ≤ t) (hidle : l.idleFrom ≤ t) (w : Work) {m : LinkUnit}
    (hline : m.line = (l.transmit t w).line) {t' : Nat} (ht : t ≤ t') :
    (t' < l.frameEnds t → m.lineAt t' = .frame l.workingRate l.strobe idleFrame) ∧
      (l.frameEnds t ≤ t' → t' < l.requestEnds t w →
        m.lineAt t' = .frame l.workingRate (l.requestStrobe w) (w.frame l.nextTag)) ∧
      (l.requestEnds t w ≤ t' → m.lineAt t' = .frame m.workingRate m.strobe idleFrame) := by
  have hline : m.line = (if l.idleFrom < t ∧ t < l.frameEnds t then
        [⟨none, l.workingRate, l.strobe, l.frameEnds t⟩] else []) ++
      [⟨some (w, l.nextTag), l.workingRate, l.requestStrobe w, l.requestEnds t w⟩] := by
    rw [hline, LinkUnit.transmit, LinkUnit.finishFrame_line h]
  have hplaced : ∀ f ∈ (if l.idleFrom < t ∧ t < l.frameEnds t then
      [(⟨none, l.workingRate, l.strobe, l.frameEnds t⟩ : LineFrame)] else []), f.ends = l.frameEnds t := fun f hf => by
    split at hf
    · rw [List.mem_singleton.mp hf]
    · cases hf
  refine ⟨fun hlt => ?_, fun hle hlt => ?_, fun hle => LinkUnit.lineAt_of_ended fun f hf => ?_⟩
  · have hnow := ht.trans_lt hlt
    rw [if_pos ⟨LinkUnit.idleFrom_lt hidle hnow, hnow⟩] at hline
    exact LinkUnit.lineAt_of_sent (sent := []) hline nofun hlt
  · exact LinkUnit.lineAt_of_sent hline (fun g hg => (hplaced g hg).trans_le hle) hlt
  · rw [hline] at hf
    rcases List.mem_append.mp hf with hf | hf
    · exact (hplaced f hf).trans_le ((Nat.le_add_right ..).trans hle)
    · rw [List.mem_singleton.mp hf]
      exact hle

end

theorem State.linkLine_of_running {s : State} (hp : s.por = false) (n : SlotNo) :
    s.linkLine n = (s.link n).lineAt s.supply.now := by simp [State.linkLine, hp]

/-- Time does not go back as microseconds pass. -/
theorem Supply.now_le_later (w : Supply) (k : Nat) : w.now ≤ ({ w with elapsed := w.elapsed + k } : Supply).now := by
  have h1 := (Config.instant w.elapsed).isLt
  rw [Supply.now, Supply.now]
  cases k with
  | zero => exact le_rfl
  | succ k =>
    dsimp only
    omega

/-- Settles O37: a window request before an order, the retry of what is retried, the frames and their lengths, and
what the pair carries until a request, during it and after it. -/
theorem exchangesStartAndRetry : Obligations.ExchangesStartAndRetry := by
  refine ⟨fun n s hp hs hx hloss => ?_, fun n s x hp hx hr => ?_,
    fun w tag => ⟨w.length_frame tag, length_idleFrame, rfl⟩,
    fun n s => ?_, fun l t => ?_, fun n s w retry k hp hended hidle => ?_⟩
  · have hdue := State.linkChooses_of hs hx hloss
    have hnext : exec (.chooseNextExchange n) s = .next (s.judged (s.chooseNext n)) := State.event_of hp hdue
    refine ⟨fun w hw => ?_, fun o rest hw ho => ?_, fun hw ho => ?_⟩
    · have hstart : s.chooseNext n = s.startWindow n w := by simp [State.chooseNext, hw]
      intro work
      rw [hnext, hstart, State.startWindow_eq]
      obtain ⟨op, index, _, _⟩ := w
      cases op with
      | read => rfl
      | write d m => rfl
    · have hstart : s.chooseNext n = s.startOrder n o := by simp [State.chooseNext, hw, ho]
      intro work
      rw [hnext, hstart, State.startOrder_eq ho]
      obtain ⟨kind, _⟩ := o
      cases kind with
      | connect => rfl
      | release => rfl
    · rw [hnext, show s.chooseNext n = s by simp [State.chooseNext, hw, ho]]
  · have hdue := State.retryDue_of hx hr
    have hexec (hw : x.work.retried = true) :
        exec (.exchangeRetry n) s = .next (s.judged (s.send n x.work true)) := by
      rw [← State.resend_eq hx.1]
      exact State.event_of hp (hdue.trans hw)
    refine ⟨fun hw => ?_, fun o hw hk => ?_, fun o hw hk => ?_, fun hw => ?_⟩
    · rcases hw with hw | hw
      · rw [hexec (by rw [hw]; rfl), State.send_eq, hw]
        rfl
      · rw [hexec (by rw [hw]; rfl), State.send_eq, hw]
        rfl
    · rw [hexec (by rw [hw]; rfl), State.send_eq, hw, requestBits_connect hk]
      rfl
    · rw [hexec (by rw [hw]; rfl), State.send_eq, hw, requestBits_release hk]
      rfl
    · have hno : x.work.retried = false := by rcases hw with ⟨tap, hw⟩ | ⟨op, index, hw⟩ <;> rw [hw] <;> rfl
      exact State.event_of_not (hdue.trans hno)
  · refine ⟨fun hp => by simp [State.linkLine, hp], fun hp h => ?_, fun hp sent f rest hl hsent hf => ?_⟩
    · rw [State.linkLine_of_running hp]
      exact LinkUnit.lineAt_of_ended h
    · rw [State.linkLine_of_running hp]
      exact LinkUnit.lineAt_of_sent hl hsent hf
  · intro idle
    have hi : frameTime l.workingRate FrameKind.idle.length = idle := frameTime_idle _
    refine ⟨LinkUnit.frameEnds_of_le, fun hlt => ?_, fun he ho => ?_, fun he hid hx rate tap t' ht =>
      LinkUnit.lineAt_finishFrame he hid hx rate tap ht⟩
    · obtain ⟨k, hk, hk'⟩ := LinkUnit.frameEnds_of_lt hlt
      rw [hi] at hk hk'
      exact ⟨k, hk, l.le_frameEnds t, hk'⟩
    · have hok : l.LineOk := ⟨he, ho⟩
      exact ⟨(hok.finishFrame t).ends_le, (hok.finishFrame t).ordered, LinkUnit.frameEnds_of_le (l.le_frameEnds t),
        fun w => ⟨(hok.transmit t w).ends_le, (hok.transmit t w).ordered⟩⟩
  · intro l u later time begins ends tap
    have hlater : later.linkLine n = (u.link n).lineAt time := State.linkLine_of_running (s := later)
      (by simpa [later, u]) n
    have hlink : u.link n = _ := (s.send_eq n w retry ▸ State.link_setLink ..).trans (if_pos rfl)
    have hends : l.requestEnds s.supply.now w = ends := by
      have hlen := w.length_frame l.nextTag
      cases hr : l.workingRate with
      | std => simp [LinkUnit.requestEnds, frameTime, ends, begins, hlen, hr]
      | fast => simp [LinkUnit.requestEnds, frameTime, ends, begins, hlen, hr]
    have htap : l.requestStrobe w = tap := by cases w <;> rfl
    have hrate : (u.link n).workingRate = l.workingRate := by rw [hlink]; rfl
    have hstrobe : (u.link n).strobe = tap := by
      rw [← htap, hlink]
      cases w <;> rfl
    have h := LinkUnit.lineAt_transmit hended hidle w (m := u.link n) (by rw [hlink]) (s.supply.now_le_later k)
    rw [hstrobe, hrate, htap, hends] at h
    rw [hlater]
    exact h

/-! ## Frames that are discarded (R68, R69) -/

section
variable {f : RxFrame} {l : LinkUnit}

theorem RxFrame.checkPasses_iff {rate : Rate} : f.checkPasses rate = true ↔ ∃ kind, f.content.kind = some kind ∧
    f.rate = rate ∧ frameCheck (checkedBits kind f.tag f.content.body) = f.check := by
  unfold RxFrame.checkPasses
  cases f.content.kind <;> simp

/-- A frame taken that is not idle is a reply to the exchange in flight. -/
theorem LinkUnit.takesReply_of_takesContent (hi : f.content ≠ .idle) (h : l.takesContent f = true) :
    ∃ x, l.exchange = some x ∧ x.tag = f.tag ∧ completes x.work f.content = true := by
  refine LinkUnit.takesReply_iff.mp ?_
  unfold LinkUnit.takesContent at h
  split at h
  · exact absurd ‹_› hi
  · cases h
  · cases h
  · exact h

theorem LinkUnit.listening_of_takesContent (hi : f.content = .idle) (h : l.takesContent f = true) :
    l.listening = true := by
  rw [LinkUnit.takesContent, hi] at h
  exact h

end

/-- Settles O38: a frame is taken only where all five tests pass. -/
theorem discardedFramesHaveNoEffect : Obligations.DiscardedFramesHaveNoEffect := by
  intro n f s h
  refine if_neg fun htaken => ?_
  obtain ⟨hcontent, hcheck⟩ := Bool.and_eq_true_iff.mp htaken
  obtain ⟨kind, hkind, hrate, hsum⟩ := RxFrame.checkPasses_iff.mp hcheck
  rcases h with h | h | h | ⟨kind', hk, h⟩ | ⟨hi, h⟩ | ⟨hi, h⟩ | ⟨hi, x, hx, h⟩ | ⟨hi, x, hx, h⟩
  · rw [h] at hkind
    cases hkind
  · rw [h] at hkind
    cases hkind
  · exact h hrate
  · obtain rfl := Option.some.inj (hk.symm.trans hkind)
    exact h hsum
  · rw [LinkUnit.listening_of_takesContent hi hcontent] at h
    cases h
  all_goals obtain ⟨y, hy, htag, hcomp⟩ := LinkUnit.takesReply_of_takesContent hi hcontent
  · rw [hy] at h
    cases h
  · obtain rfl := Option.some.inj (hx.symm.trans hy)
    exact h htag
  · obtain rfl := Option.some.inj (hx.symm.trans hy)
    rw [hcomp] at h
    cases h

/-! ## The departure notice (R81, R84) -/

theorem LinkUnit.depart_eq (l : LinkUnit) : l.depart = { l with
    exchange := l.exchange.filter fun x => match x.work with
      | .order _ => false
      | .register _ _ => false
      | _ => true
    window := none, orders := [], lossDeclared := false } := by
  have hwork : (fun x : Exchange => !x.work.ofLinked) = fun x => match x.work with
      | .order _ => false
      | .register _ _ => false
      | _ => true := by
    funext x
    cases x.work <;> rfl
  rw [LinkUnit.depart, hwork]

/-- Settles O39: the link emptied, its window request ended, and its orders handed back. -/
theorem departureEmptiesTheLink : Obligations.DepartureEmptiesTheLink := by
  intro n s hp hn l u
  have hexec : exec (.departureNoticeLink n) s = .next (s.judged (s.departLink n)) :=
    State.event_of hp (by simpa using hn)
  have hdepart : s.departLink n = l.orders.foldl (State.handBack n) (u.departWindow l.window) :=
    congrArg (fun d => l.orders.foldl (State.handBack n) ((State.setLink { s with
      notices := { s.notices with departLink := s.notices.departLink.erase n } } n d).departWindow l.window))
        l.depart_eq
  rw [hexec, hdepart]
  refine ⟨fun hw => by rw [hw]; rfl, fun w hw hc => ?_, fun w hw hc => ?_⟩
  · rw [hw, State.departWindow, if_neg (by simp [hc])]
  · rw [hw, State.departWindow, if_pos hc]
    cases hop : w.op <;> rfl

end Sys2Proof.Machine
end

section
/-! The Circuit Table: entry writes and their counts, becoming IDLE, and the request-word writes by entry state. -/

namespace Sys2Proof.Machine

/-! ## Counts (R90) -/

theorem moveCount_add {st old new : EntryState} {c : Nat} (h : old = st → 1 ≤ c) :
    moveCount st old new c + (if old = st then 1 else 0) = c + if new = st then 1 else 0 := by
  unfold moveCount
  by_cases ho : old = st
  · have := h ho
    simp only [ho, if_true]
    omega
  · simp only [ho, if_false]
    omega

/-- An entry in a state outside IDLE is counted there. -/
theorem CountsOk.one_le {s : State} (h : CountsOk s) {i : EntryNo} {st : EntryState} (hst : st ≠ .idle)
    (hi : (s.entry i).state = st) : 1 ≤ s.circuits.inState st := by
  have hhit : Sparse.hits (fun q => q.2.state == st) s.circuits.entries i.val = 1 := by
    rw [Sparse.hits]
    rw [State.entry] at hi
    cases hl : Sparse.lookup s.circuits.entries i.val with
    | none =>
      rw [hl] at hi
      exact absurd hi.symm hst
    | some e =>
      rw [hl] at hi
      simpa using hi
  have := Sparse.countP_erase (p := fun q : Nat × Entry => q.2.state == st) h.listed i.val
  rw [CircuitTable.inState]
  omega

/-- Settles O40: each count by the move, and the entry that becomes IDLE. -/
theorem entryWritesAndBecomingIdle : Obligations.EntryWritesAndBecomingIdle := by
  intro s i h
  refine ⟨fun e j => ?_, fun e => ⟨?_, ?_, ?_, ?_⟩, ?_, fun j hj => ?_, rfl, s.holder_becomeIdle i⟩
  · rw [State.entry_putEntry]
    simp only [eq_comm]
  · exact moveCount_add fun hi => h.waiting ▸ h.one_le (by decide) hi
  · exact moveCount_add fun hi => h.live ▸ h.one_le (by decide) hi
  · exact moveCount_add fun hi => h.faulted ▸ h.one_le (by decide) hi
  · exact moveCount_add fun hi => h.restoring ▸ h.one_le (by decide) hi
  · rw [State.entry_becomeIdle, if_pos rfl]
    rfl
  · rw [State.entry_becomeIdle, if_neg (Ne.symm hj)]

/-! ## An entry written twice -/

theorem Sparse.insert_insert {α : Type} (l : List (Nat × α)) (k : Nat) (v w : α) :
    Sparse.insert (Sparse.insert l k v) k w = Sparse.insert l k w := by
  induction l with
  | nil => simp [Sparse.insert]
  | cons p l ih =>
    obtain ⟨j, u⟩ := p
    rcases Nat.lt_trichotomy k j with h | h | h
    · simp [Sparse.insert, h]
    · simp [Sparse.insert, h]
    · simp [Sparse.insert, Nat.not_lt.mpr h.le, h.ne', ih]

theorem moveCount_self (st old : EntryState) (c : Nat) : moveCount st old old c = c := by
  rw [moveCount]
  omega

/-- Of two writes in one state the second stands. -/
theorem State.putEntry_putEntry {s : State} {i : EntryNo} {d e : Entry} (hd : d ≠ .initial) (he : e ≠ .initial)
    (hds : d.state = (s.entry i).state) (hes : e.state = d.state) : (s.putEntry i d).putEntry i e = s.putEntry i e := by
  have hentry : (s.putEntry i d).entry i = d := by rw [State.entry_putEntry, if_pos rfl]
  have hlist : putEntries (putEntries s.circuits.entries i d) i e = putEntries s.circuits.entries i e := by
    simp only [putEntries, hd, he, if_false]
    exact Sparse.insert_insert ..
  have hentries : (s.putEntry i d).circuits.entries = putEntries s.circuits.entries i d := rfl
  rw [State.putEntry, hentry, hentries, hlist]
  simp only [State.putEntry, hes, hds, moveCount_self]

/-! ## Writes to an IDLE entry (R92) -/

section
variable {s : State} {i : EntryNo}

theorem RequestFieldsBad_iff {f : RequestFields} :
    RequestFieldsBad f = true ↔ 24 ≤ f.a.slot.toNat ∨ 24 ≤ f.b.slot.toNat ∨ f.a = f.b := by
  simp [RequestFieldsBad, slotOf_eq_none, or_assoc]

theorem State.portInUse_iff {f : RequestFields} :
    s.portInUse f = true ↔ (s.holder f.a).isSome = true ∨ (s.holder f.b).isSome = true := by
  simp [State.portInUse]

theorem State.writeRequest_partial {c : RequestCode} {f : RequestFields} {b : ByteEnables} (h : b ≠ 15#4) :
    s.writeRequest i c f b = s.putEntry i { s.entry i with outcome := .partialWrite } := if_pos h

theorem State.writeRequest_idle {c : RequestCode} {f : RequestFields} {b : ByteEnables} (h : b = 15#4)
    (hs : (s.entry i).state = .idle) : s.writeRequest i c f b = s.writeIdle i c f := by
  rw [State.writeRequest, if_neg (not_not.mpr h), if_pos hs]

/-- A write with other fields to an entry outside IDLE is refused as BUSY (R93). -/
theorem State.writeRequest_other {c : RequestCode} {f : RequestFields} {b : ByteEnables} (h : b = 15#4)
    (hs : (s.entry i).state ≠ .idle) (hf : (s.entry i).fields ≠ f) :
    s.writeRequest i c f b = s.putEntry i { s.entry i with outcome := .busy } := by
  rw [State.writeRequest, if_neg (not_not.mpr h), if_neg hs]
  exact if_neg hf

theorem State.writeBusy_same_none {f : RequestFields} (hf : (s.entry i).fields = f) :
    s.writeBusy i .none f = s.putEntry i { s.entry i with code := .none } := if_pos hf

theorem State.writeBusy_same_connect {f : RequestFields} (hf : (s.entry i).fields = f) :
    s.writeBusy i .connect f = s.putEntry i { s.entry i with code := .connect, outcome := .busy } := by
  have hentry : (s.captureCode i .connect).entry i = { s.entry i with code := .connect } := by
    rw [State.captureCode, State.entry_putEntry, if_pos rfl]
  have hnew (e : Entry) (h : e.code = .connect) : e ≠ .initial := by
    rintro rfl
    cases h
  refine (if_pos hf).trans ?_
  dsimp only
  rw [State.setOutcome, hentry, State.captureCode]
  exact State.putEntry_putEntry (hnew _ rfl) (hnew _ rfl) rfl rfl

theorem State.writeBusy_same_release {f : RequestFields} (hf : (s.entry i).fields = f) :
    s.writeBusy i .release f = (s.captureCode i .release).applyRelease i := if_pos hf

end

/-- The table after a CONNECT accepted: one entry, the index, the age list, the next tag and the count of WAITING. -/
theorem State.acceptConnect_eq {s : State} {i : EntryNo} (hs : (s.entry i).state = .idle) (f : RequestFields) :
    s.acceptConnect i f = { s with circuits := { s.circuits with
      entries := (s.acceptConnect i f).circuits.entries, index := (s.acceptConnect i f).circuits.index,
      ageList := s.circuits.ageList ++ [i], admissions := s.circuits.admissions + 1#16,
      waiting := s.circuits.waiting + 1 } } := by
  simp [State.acceptConnect, State.putEntry, hs, moveCount]

/-- Settles O41: the write refused in the order of R91 to R93, or the entry admitted. -/
theorem connectAdmitsOrRefuses : Obligations.ConnectAdmitsOrRefuses := by
  intro i f b s h r refused off held
  have hexec {t : State} (ht : r.writeRequest i .connect f b = t) :
      exec (.connect i f b) s = .next (s.judged (t.answered .written)) :=
    State.cycle_eq h (congrArg (State.answered · .written) ht)
  refine ⟨fun hb => hexec (State.writeRequest_partial hb), fun hb hs ho => ?_, fun hb hs ho hh => ?_,
    fun hb hs ho hh => ?_, fun hb hs hf => hexec (State.writeRequest_other hb hs hf), fun hb hs hf => ?_⟩
  · refine hexec ((State.writeRequest_idle hb hs).trans ?_)
    exact if_pos (RequestFieldsBad_iff.mpr ho)
  · refine hexec ((State.writeRequest_idle hb hs).trans ?_)
    exact (if_neg (mt RequestFieldsBad_iff.mp ho)).trans (if_pos (State.portInUse_iff.mpr hh))
  · have hw : r.writeRequest i .connect f b = r.acceptConnect i f := by
      refine (State.writeRequest_idle hb hs).trans ?_
      exact (if_neg (mt RequestFieldsBad_iff.mp ho)).trans (if_neg (mt State.portInUse_iff.mp hh))
    refine ⟨_, hexec hw, ?_, fun j hj => ?_, r.holder_admit i f, ?_, ?_⟩
    · exact (r.entry_admit i i f).trans (if_pos rfl)
    · exact (r.entry_admit i j f).trans (if_neg (Ne.symm hj))
    · exact congrArg State.circuits (State.acceptConnect_eq hs f)
    · apply State.eq_of_fields
      case h8 =>
        have hrestore : (r.acceptConnect i f).restore = r.restore := by rw [State.acceptConnect_eq hs f]
        exact hrestore
      all_goals rfl
  · refine hexec ?_
    rw [State.writeRequest, if_neg (not_not.mpr hb), if_neg hs, State.writeBusy_same_connect hf]

/-! ## RELEASE by entry state (R94, R95) -/

section
variable {s : State} {i : EntryNo} {e : Entry}

theorem Entry.noMarks_iff : e.noMarks = true ↔ e.markA = .none ∧ e.markB = .none := by simp [Entry.noMarks]

theorem Mark.toUndo_eq (m : Mark) : m.toUndo = if m = .lateConnect then .connectThenRelease else m := by
  cases m <;> rfl

theorem Entry.undoLate_eq : e.undoLate = { e with
    markA := if e.markA = .lateConnect then .connectThenRelease else e.markA
    markB := if e.markB = .lateConnect then .connectThenRelease else e.markB } := by
  rw [Entry.undoLate, Mark.toUndo_eq, Mark.toUndo_eq]

theorem State.applyRelease_unmarked (h : (s.entry i).state = .waiting ∨ (s.entry i).state = .faulted)
    (hm : (s.entry i).markA = .none ∧ (s.entry i).markB = .none) : s.applyRelease i = s.becomeIdle i := by
  have hm := Entry.noMarks_iff.mpr hm
  rcases h with h | h
  · rw [State.applyRelease, h]
    exact if_pos hm
  · rw [State.applyRelease, h]
    exact if_pos hm

theorem State.applyRelease_waiting (h : (s.entry i).state = .waiting)
    (hm : ¬((s.entry i).markA = .none ∧ (s.entry i).markB = .none)) :
    s.applyRelease i = s.putEntry i { (s.entry i).undoLate with state := .releasing, outcome := .accepted } := by
  rw [State.applyRelease, h]
  exact if_neg (mt Entry.noMarks_iff.mp hm)

theorem State.applyRelease_faulted (h : (s.entry i).state = .faulted)
    (hm : ¬((s.entry i).markA = .none ∧ (s.entry i).markB = .none)) :
    s.applyRelease i = s.putEntry i { s.entry i with state := .releasing, outcome := .accepted } := by
  rw [State.applyRelease, h]
  exact if_neg (mt Entry.noMarks_iff.mp hm)

theorem State.applyRelease_restoring (h : (s.entry i).state = .restoring) :
    s.applyRelease i = s.putEntry i { s.entry i with releaseAfter := true, outcome := .accepted } := by
  simp [State.applyRelease, h]

theorem State.applyRelease_live (h : (s.entry i).state = .live) : s.applyRelease i = s.releaseBoth i (s.entry i) := by
  rw [State.applyRelease, h]

theorem State.applyRelease_releasing (h : (s.entry i).state = .releasing) :
    s.applyRelease i = s.putEntry i { s.entry i with outcome := .accepted } := by
  simp [State.applyRelease, h]

end

/-- Settles O42: RELEASE by the state of the entry, and the writes that release nothing. -/
theorem releaseNoneAndBadRequests : Obligations.ReleaseNoneAndBadRequests := by
  refine ⟨fun i f b s h => ?_, fun i f b s h => ?_⟩
  · intro r e same unmarked gives
    have hexec {t : State} (ht : r.writeRequest i .release f b = t) : gives t :=
      State.cycle_eq h (congrArg (State.answered · .written) ht)
    have hself : (r.putEntry i e).entry i = e := by rw [State.entry_putEntry, if_pos rfl]
    have hsame {t : State} (hsame : same) (hs : (r.entry i).state ≠ .idle) (ht : (r.putEntry i e).applyRelease i = t) :
        gives t := by
      refine hexec ?_
      rw [State.writeRequest, if_neg (not_not.mpr hsame.1), if_neg hs, State.writeBusy_same_release hsame.2]
      exact ht
    refine ⟨fun hb => hexec (State.writeRequest_partial hb), fun hb hs => hexec (State.writeRequest_idle hb hs),
      fun hb hs hf => hexec (State.writeRequest_other hb hs hf), fun hsm hs hm => ?_, fun hsm hs hm => ?_,
      fun hsm hs => ?_, fun hsm hs => ?_, fun hsm hs => ?_, fun hsm hs hm => ?_⟩
    · exact hsame hsm (by rcases hs with hs | hs <;> simp [hs])
        (State.applyRelease_unmarked (by rw [hself]; exact hs) (by rw [hself]; exact hm))
    · refine hsame hsm (by simp [hs]) ?_
      rw [State.applyRelease_waiting (by rw [hself]; exact hs) (by rw [hself]; exact hm), hself, Entry.undoLate_eq]
    · refine hsame hsm (by simp [hs]) ?_
      rw [State.applyRelease_restoring (by rw [hself]; exact hs), hself]
    · refine hsame hsm (by simp [hs]) ?_
      rw [State.applyRelease_live (by rw [hself]; exact hs), hself]
      rfl
    · refine hsame hsm (by simp [hs]) ?_
      rw [State.applyRelease_releasing (by rw [hself]; exact hs), hself]
    · refine hsame hsm (by simp [hs]) ?_
      rw [State.applyRelease_faulted (by rw [hself]; exact hs) (by rw [hself]; exact hm), hself]
  · intro r write
    have hnone {e : Entry} (ht : r.writeRequest i .none f b = r.putEntry i e) :
        exec (.noneRequest i f b) s = .next (s.judged (write e)) :=
      State.cycle_eq h (congrArg (State.answered · .written) ht)
    have hbad {e : Entry} (ht : r.writeBad i b = r.putEntry i e) :
        exec (.badRequest i b) s = .next (s.judged (write e)) :=
      State.cycle_eq h (congrArg (State.answered · .written) ht)
    refine ⟨fun hb => ⟨hnone (State.writeRequest_partial hb), hbad (if_pos hb)⟩,
      fun hb => hbad (if_neg (not_not.mpr hb)), fun hb hs => hnone (State.writeRequest_idle hb hs),
      fun hb hs hf => hnone (State.writeRequest_other hb hs hf), fun hb hs hf => hnone ?_⟩
    rw [State.writeRequest, if_neg (not_not.mpr hb), if_neg hs, State.writeBusy_same_none hf]

end Sys2Proof.Machine
end

section
/-! Orders: appended, handed back, withdrawn, and their results taken against the marks of the entry. -/

namespace Sys2Proof.Machine

/-! ## Marks and done flags of the sides that an order serves -/

section
variable (e : Entry) (x : Side) (m : Mark) (d : Bool)

theorem Entry.setMarks_one : e.setMarks (.one x) m = e.setMark x m := rfl

theorem Entry.setMarks_both : e.setMarks .both m = { e with markA := m, markB := m } := rfl

theorem Entry.setDones_one : e.setDones (.one x) d = e.setDone x d := rfl

theorem Entry.setDones_both : e.setDones .both d = { e with doneA := d, doneB := d } := rfl

theorem Entry.setMark_self : e.setMark x (e.mark x) = e := by cases x <;> rfl

theorem Entry.setMarks_both_self (h : e.markA = e.markB) : e.setMarks .both e.markA = e := by
  cases e
  cases h
  rfl

theorem Entry.mark_setMark_other : (e.setMark x m).mark x.other = e.mark x.other := by cases x <;> rfl

theorem Entry.noMarks_freed : ((e.setMark x .none).setDone x d).noMarks = true ↔ e.mark x.other = .none := by
  cases x <;> simp [Entry.noMarks, Entry.setMark, Entry.setDone, Entry.mark, Side.other]

theorem Entry.noMarks_setMark_none : (e.setMark x .none).noMarks = true ↔ e.mark x.other = .none := by
  cases x <;> simp [Entry.noMarks, Entry.setMark, Entry.mark, Side.other]

theorem Entry.dones_joined : (((e.setDone x true).setMark x m).doneA && ((e.setDone x true).setMark x m).doneB) =
    e.done x.other := by
  cases x <;> simp [Entry.setMark, Entry.setDone, Entry.done, Side.other]

theorem Mark.isConnect_iff : m.isConnect = true ↔ m ∈ [Mark.connect, .lateConnect, .connectThenRelease] := by
  cases m <;> simp [Mark.isConnect]

theorem Mark.isConnect_of_not (h : m ∈ [Mark.none, .release]) : m.isConnect = false := by
  cases m <;> simp_all [Mark.isConnect]

end

/-! ## A RELEASING entry that has given up a mark (R101, R102) -/

section
variable {s : State} {i : EntryNo} {e : Entry}

theorem State.settleReleasing_last (hs : e.state = .releasing) (hm : e.noMarks = true) :
    (s.putEntry i e).settleReleasing i = (s.putEntry i e).becomeIdle i := by
  have hself : (s.putEntry i e).entry i = e := by rw [State.entry_putEntry, if_pos rfl]
  rw [State.settleReleasing, hself, if_pos ⟨hs, hm⟩]

theorem State.settleReleasing_more (h : e.state ≠ .releasing ∨ ¬e.noMarks = true) :
    (s.putEntry i e).settleReleasing i = s.putEntry i e := by
  have hself : (s.putEntry i e).entry i = e := by rw [State.entry_putEntry, if_pos rfl]
  have hnot : ¬(e.state = .releasing ∧ e.noMarks = true) := fun hc => h.elim (· hc.1) (· hc.2)
  rw [State.settleReleasing, hself, if_neg hnot]

end

/-! ## The end of a release order (R81, R101) -/

section
variable {s : State} {i : EntryNo} {x : Side}

theorem State.releaseEnded_ignored {d : Ends} (h : (s.entry i).mark d.lead ≠ .release) : s.releaseEnded i d = s :=
  if_neg h

theorem State.releaseEnded_one (h : (s.entry i).mark x = .release) : s.releaseEnded i (.one x) =
    (s.putEntry i (((s.entry i).setMark x .none).setDone x false)).settleReleasing i := by
  have hend : (s.entry i).endRelease x = ((s.entry i).setMark x .none).setDone x false := if_pos h
  rw [← hend]
  exact if_pos h

theorem State.releaseEnded_both (ha : (s.entry i).markA = .release) (hb : (s.entry i).markB = .release) :
    s.releaseEnded i .both = (s.putEntry i { s.entry i with
      doneA := false, doneB := false, markA := .none, markB := .none }).settleReleasing i := by
  have hend : [Side.a, .b].foldl Entry.endRelease (s.entry i) = { s.entry i with
      doneA := false, doneB := false, markA := .none, markB := .none } := by
    simp [Entry.endRelease, Entry.mark, Entry.setMark, Entry.setDone, ha, hb]
  rw [← hend]
  exact if_pos ha

/-! ## A connect order handed back (R81, R103) -/

theorem State.connectDropped_ignored {d : Ends} (h : ((s.entry i).mark d.lead).isConnect = false) :
    s.connectDropped i d = s := if_neg (by simp [h])

theorem State.connectDropped_one (h : ((s.entry i).mark x).isConnect = true) :
    s.connectDropped i (.one x) = s.putEntry i ((s.entry i).setMark x .none) := by
  have hdrop : (s.entry i).dropConnect x = (s.entry i).setMark x .none := if_pos h
  rw [← hdrop]
  exact if_pos h

theorem State.connectDropped_both (h : (s.entry i).markA.isConnect = true)
    (hab : (s.entry i).markA = (s.entry i).markB) :
    s.connectDropped i .both = s.putEntry i { s.entry i with markA := .none, markB := .none } := by
  have hdrop : [Side.a, .b].foldl Entry.dropConnect (s.entry i) =
      { s.entry i with markA := .none, markB := .none } := by
    simp [Entry.dropConnect, Entry.mark, Entry.setMark, h, ← hab]
  rw [← hdrop]
  exact if_pos h

end

section
variable {s : State} {n : SlotNo} {o : Order}

theorem State.handBack_ignored (h : ¬o.NamesOn n (s.entry o.entry)) : s.handBack n o = s :=
  if_neg (mt Order.serves_iff.mp h)

theorem State.handBack_connect (h : o.NamesOn n (s.entry o.entry)) (hk : o.kind = .connect) :
    s.handBack n o = s.connectDropped o.entry o.ends := by
  rw [State.handBack, if_pos (Order.serves_iff.mpr h), hk]

theorem State.handBack_release (h : o.NamesOn n (s.entry o.entry)) (hk : o.kind = .release) :
    s.handBack n o = s.releaseEnded o.entry o.ends := by
  rw [State.handBack, if_pos (Order.serves_iff.mpr h), hk]

end

/-! ## Orders appended (R76, R77) -/

section
variable {s : State} {i : EntryNo} {kind : OrderKind} {n : SlotNo}

/-- The list of a Link Unit with an order at its tail. -/
def State.addOrder (s : State) (n : SlotNo) (o : Order) : State :=
  s.setLink n { s.link n with orders := (s.link n).orders ++ [o] }

theorem State.appendOrder_linked {d : Ends} (hn : ((s.entry i).endpoint d.lead).slot.toNat = n.val)
    (hl : (s.slot n).state = .linked) : s.appendOrder i kind d = s.addOrder n ((s.entry i).order i kind d) := by
  rw [State.appendOrder, slotOf_eq.mpr hn]
  exact if_pos (State.linked_iff.mpr hl)

theorem State.appendOrder_away {d : Ends} (hn : ((s.entry i).endpoint d.lead).slot.toNat = n.val)
    (hl : (s.slot n).state ≠ .linked) : s.appendOrder i kind d = s.handBack n ((s.entry i).order i kind d) := by
  rw [State.appendOrder, slotOf_eq.mpr hn]
  exact if_neg (mt State.linked_iff.mp hl)

theorem Entry.oneSlot_iff {e : Entry} {na nb : SlotNo} (ha : e.fields.a.slot.toNat = na.val)
    (hb : e.fields.b.slot.toNat = nb.val) : e.oneSlot = true ↔ na = nb := by
  rw [Entry.oneSlot, beq_iff_eq, Fin.ext_iff, ← ha, ← hb, ← BitVec.toNat_inj]

theorem State.appendBoth_oneSlot (h : (s.entry i).oneSlot = true) : s.appendBoth i kind = s.appendOrder i kind .both :=
  if_pos h

theorem State.appendBoth_apart (h : (s.entry i).oneSlot = false) :
    s.appendBoth i kind = (s.appendOrder i kind (.one .a)).appendOrder i kind (.one .b) := if_neg (by simp [h])

theorem Entry.order_eq (e : Entry) (i : EntryNo) (kind : OrderKind) :
    let cls := if kind = .connect then some e.fields.cls else none
    let peer := fun p : Endpoint => if kind = .connect then some p else none
    e.order i kind (.one .a) = ⟨kind, i, .one .a, e.fields.a.port, none, peer e.fields.b, cls, false⟩ ∧
      e.order i kind (.one .b) = ⟨kind, i, .one .b, e.fields.b.port, none, peer e.fields.a, cls, false⟩ ∧
      e.order i kind .both = ⟨kind, i, .both, e.fields.a.port, some e.fields.b.port, none, cls, false⟩ := by
  cases kind with
  | connect => exact ⟨rfl, rfl, rfl⟩
  | release => exact ⟨rfl, rfl, rfl⟩

end

/-! ## Connect orders withdrawn (R78) -/

section
variable {s : State} {i : EntryNo} {d : Ends} {n : SlotNo}

theorem Order.isFor_iff {o : Order} : o.isFor i d = true ↔ o.entry = i ∧ o.ends = d := by simp [Order.isFor]

theorem LinkUnit.withdraw_found {l : LinkUnit} {before after : List Order} {o : Order}
    (h : l.orders = before ++ o :: after) (ho : o.isFor i d = true) (hno : ∀ p ∈ before, ¬p.isFor i d = true) :
    l.withdrawAnswer i d = (if o.inFlight = true then .inFlight else .withdrawn) ∧
      (o.inFlight = false → l.withdraw i d = { l with orders := before ++ after }) ∧
      (o.inFlight = true → l.withdraw i d = l) := by
  have hfind : l.orders.find? (fun p => p.isFor i d) = some o := by
    rw [h, List.find?_append, List.find?_eq_none.mpr hno, Option.none_or,
      List.find?_cons_of_pos (p := fun p : Order => p.isFor i d) ho]
  have hanswer : l.withdrawAnswer i d = if o.inFlight = true then .inFlight else .withdrawn := by
    rw [LinkUnit.withdrawAnswer, hfind]
  refine ⟨hanswer, fun hf => ?_, fun hf => ?_⟩
  · rw [LinkUnit.withdraw, hanswer, hf, h, List.eraseP_append_right _ hno,
      List.eraseP_cons_of_pos (p := fun p : Order => p.isFor i d) ho]
    rfl
  · rw [LinkUnit.withdraw, hanswer, hf]
    rfl

theorem LinkUnit.withdraw_absent {l : LinkUnit} (h : ∀ o ∈ l.orders, ¬o.isFor i d = true) :
    l.withdrawAnswer i d = .notPresent ∧ l.withdraw i d = l := by
  have hanswer : l.withdrawAnswer i d = .notPresent := by
    rw [LinkUnit.withdrawAnswer, List.find?_eq_none.mpr h]
  refine ⟨hanswer, ?_⟩
  rw [LinkUnit.withdraw, hanswer]
  rfl

theorem State.withdrawConnect_eq (hn : ((s.entry i).endpoint d.lead).slot.toNat = n.val) (m : Mark) :
    s.withdrawConnect i d m = (s.setLink n ((s.link n).withdraw i d)).putEntry i ((s.entry i).setMarks d
      (markAfterWithdraw ((s.link n).withdrawAnswer i d) m ((s.entry i).mark d.lead))) := by
  rw [State.withdrawConnect, State.withdrawOrder, State.withdrawAnswer, slotOf_eq.mpr hn]

end

/-- Settles O43: the orders appended by the slots of the endpoints, the hand-back by mark, and the withdrawal. -/
theorem ordersAppendedWithdrawnHandedBack : Obligations.OrdersAppendedWithdrawnHandedBack := by
  refine ⟨fun s i kind na nb => ?_, fun s n o => ?_, fun s i d m n => ?_⟩
  · intro f cls peer add forA forB forBoth ha hb
    obtain ⟨hA, hB, hBoth⟩ := (s.entry i).order_eq i kind
    have hone := Entry.oneSlot_iff (e := s.entry i) ha hb
    refine ⟨fun hla hlb => ⟨fun hne => ?_, fun he => ?_⟩, fun hla => ⟨?_, fun he => ?_⟩, fun hlb => ?_⟩
    · rw [State.appendBoth_apart (Bool.eq_false_iff.mpr (mt hone.mp hne)),
        State.appendOrder_linked (d := .one .a) ha hla,
        hA]
      exact (State.appendOrder_linked (s := s.addOrder na forA) (d := .one .b) hb hlb).trans
        (congrArg (State.addOrder _ nb) hB)
    · rw [State.appendBoth_oneSlot (hone.mpr he), State.appendOrder_linked (d := .both) ha hla, hBoth]
      rfl
    · rw [State.appendOrder_away (d := .one .a) ha hla, hA]
    · rw [State.appendBoth_oneSlot (hone.mpr he), State.appendOrder_away (d := .both) ha hla, hBoth]
    · rw [State.appendOrder_away (d := .one .b) hb hlb, hB]
  · intro e back
    refine ⟨State.handBack_ignored, fun x hx hnames => ?_, fun hd hnames hab => ?_⟩
    · intro freed
      have hconnect (hk : o.kind = .connect) : back = s.connectDropped o.entry (.one x) := by
        rw [← hx]
        exact State.handBack_connect hnames hk
      have hrelease (hk : o.kind = .release) : back = s.releaseEnded o.entry (.one x) := by
        rw [← hx]
        exact State.handBack_release hnames hk
      refine ⟨fun hk hm => (hconnect hk).trans (State.connectDropped_one ((Mark.isConnect_iff _).mpr hm)),
        fun hk hm => (hconnect hk).trans (State.connectDropped_ignored (Mark.isConnect_of_not _ hm)),
        fun hk hm => (hrelease hk).trans (State.releaseEnded_ignored hm), fun hk hm hs ho => ?_, fun hk hm ho => ?_⟩
      · rw [hrelease hk, State.releaseEnded_one hm]
        exact State.settleReleasing_last (by simpa using hs) ((Entry.noMarks_freed ..).mpr ho)
      · rw [hrelease hk, State.releaseEnded_one hm]
        exact State.settleReleasing_more (ho.imp (by simp [e]) (mt (Entry.noMarks_freed ..).mp))
    · intro freed
      have hconnect (hk : o.kind = .connect) : back = s.connectDropped o.entry .both := by
        rw [← hd]
        exact State.handBack_connect hnames hk
      have hrelease (hk : o.kind = .release) : back = s.releaseEnded o.entry .both := by
        rw [← hd]
        exact State.handBack_release hnames hk
      refine ⟨fun hk hm => (hconnect hk).trans (State.connectDropped_both ((Mark.isConnect_iff _).mpr hm) hab),
        fun hk hm => (hconnect hk).trans (State.connectDropped_ignored (Mark.isConnect_of_not _ hm)),
        fun hk hm => (hrelease hk).trans (State.releaseEnded_ignored hm), fun hk hm hs => ?_, fun hk hm hs => ?_⟩
      · rw [hrelease hk, State.releaseEnded_both hm (hab ▸ hm)]
        exact State.settleReleasing_last hs rfl
      · rw [hrelease hk, State.releaseEnded_both hm (hab ▸ hm)]
        exact State.settleReleasing_more (.inl hs)
  · intro e marked hn
    have hmarked (m : Mark) : (s.entry i).setMarks d m = marked m := by cases d <;> rfl
    rw [State.withdrawConnect_eq hn]
    refine ⟨fun before o after hl ho hd hno => ?_, fun hno hab => ?_⟩
    · obtain ⟨hanswer, hfree, hflight⟩ := LinkUnit.withdraw_found hl (Order.isFor_iff.mpr ⟨ho, hd⟩)
        fun p hp => mt Order.isFor_iff.mp (hno p hp)
      refine ⟨fun hf => ?_, fun hf => ?_⟩
      · rw [hanswer, hfree hf, hf, hmarked]
        rfl
      · rw [hanswer, hflight hf, hf, hmarked, State.setLink_link]
        rfl
    · obtain ⟨hanswer, hsame⟩ := LinkUnit.withdraw_absent fun o ho => mt Order.isFor_iff.mp (hno o ho)
      rw [hanswer, hsame, State.setLink_link]
      refine congrArg (s.putEntry i) ?_
      cases d with
      | one x => exact Entry.setMark_self _ x
      | both => exact Entry.setMarks_both_self (s.entry i) (hab rfl)

/-! ## Results of orders (R98 to R101) -/

section
variable {s : State} {n : SlotNo} {x : Exchange} {o : Order}

theorem State.answeredOrder_of {c : FrameContent} (hx : s.InFlight n x) (hw : x.work = .order o)
    (hc : completes (.order o) c = true) : s.answeredOrder n o.kind x.tag c = some o := by
  have htakes : (s.link n).takesReply x.tag c = true := LinkUnit.takesReply_iff.mpr ⟨x, hx, rfl, hw ▸ hc⟩
  rw [State.answeredOrder, hx]
  dsimp only
  rw [hw]
  exact if_pos ⟨rfl, htakes⟩

theorem exec_connectDone (hp : s.por = false) (hx : s.InFlight n x) (hw : x.work = .order o) (hk : o.kind = .connect) :
    exec (.connectDone n x.tag) s =
      .next (s.judged (((s.reachEntry o.entry).completeOrder n).takeConnectDone n o)) := by
  change execConnectDone n x.tag s = _
  rw [execConnectDone, ← hk, State.answeredOrder_of hx hw rfl]
  exact State.event_of hp rfl

theorem exec_connectRefusal (reason : RefusalReason) (hp : s.por = false) (hx : s.InFlight n x)
    (hw : x.work = .order o) (hk : o.kind = .connect) : exec (.connectRefusal n x.tag reason) s =
      .next (s.judged (((s.reachEntry o.entry).completeOrder n).takeConnectRefusal n o reason)) := by
  change execConnectRefusal n x.tag reason s = _
  rw [execConnectRefusal, ← hk, State.answeredOrder_of hx hw rfl]
  exact State.event_of hp rfl

theorem exec_releaseResult (answer : ReleaseAnswer) (hp : s.por = false) (hx : s.InFlight n x)
    (hw : x.work = .order o) (hk : o.kind = .release) : exec (.releaseResult n x.tag answer) s =
      .next (s.judged (((s.reachEntry o.entry).completeOrder n).takeReleaseEnd n o)) := by
  change execReleaseResult n x.tag answer s = _
  rw [execReleaseResult, ← hk, State.answeredOrder_of hx hw (by cases answer <;> rfl)]
  exact State.event_of hp rfl

end

section
variable {s : State} {i : EntryNo} {d : Ends} {x : Side}

theorem State.connectDone_ignored (h : (s.entry i).mark d.lead = .none ∨ (s.entry i).mark d.lead = .release) :
    s.connectDone i d = s := by
  rcases h with h | h <;> rw [State.connectDone, h]

theorem State.connectDone_late (h : (s.entry i).mark d.lead = .lateConnect) :
    s.connectDone i d = s.putEntry i ((s.entry i).setMarks d .none) := by rw [State.connectDone, h]

theorem State.connectDone_undone (h : (s.entry i).mark d.lead = .connectThenRelease) : s.connectDone i d =
    (s.putEntry i (((s.entry i).setDones d true).setMarks d .release)).appendOrder i .release d := by
  rw [State.connectDone, h]

theorem State.connectDone_expected (h : (s.entry i).mark d.lead = .connect) (hs : (s.entry i).state = .restoring) :
    s.connectDone i d = s.connectCompleted i d := by
  rw [State.connectDone, h]
  exact if_pos hs

theorem State.connectCompleted_one (h : (s.entry i).done x.other = false) : s.connectCompleted i (.one x) =
    s.putEntry i (((s.entry i).setDone x true).setMark x .none) := by
  refine if_neg ?_
  rw [Entry.setDones_one, Entry.setMarks_one, Entry.dones_joined, h]
  exact Bool.false_ne_true

theorem State.connectCompleted_last (h : (s.entry i).done x.other = true) : s.connectCompleted i (.one x) =
    s.joined i (((s.entry i).setDone x true).setMark x .none) := by
  refine if_pos ?_
  rw [Entry.setDones_one, Entry.setMarks_one, Entry.dones_joined, h]

theorem State.connectCompleted_both : s.connectCompleted i .both = s.joined i { s.entry i with
    doneA := true, doneB := true, markA := .none, markB := .none } := rfl

theorem State.joined_kept {e : Entry} (h : e.releaseAfter = false) :
    s.joined i e = s.putEntry i { e with state := .live } := if_neg (by simp [h])

theorem State.joined_released {e : Entry} (h : e.releaseAfter = true) : s.joined i e = s.releaseBoth i e := if_pos h

end

/-- Settles O45: done by the mark that the order finds. -/
theorem connectDoneByMark : Obligations.ConnectDoneByMark := by
  intro n s x o hp hx hw hk i r e u gives released
  have hexec {t : State} (ht : u.takeConnectDone n o = t) : gives t := by
    rw [← ht]
    exact exec_connectDone hp hx hw hk
  have hserved {t : State} (hnames : o.NamesOn n e) (ht : u.connectDone i o.ends = t) : gives t :=
    hexec ((if_pos (Order.serves_iff.mpr hnames)).trans ht)
  have hentry : u.entry i = e := rfl
  refine ⟨fun hnames => hexec (if_neg (mt Order.serves_iff.mp hnames)), fun y hy hnames => ?_, fun hd hnames => ?_⟩
  · intro joined
    have hserved {t : State} (ht : u.connectDone i (.one y) = t) : gives t := hserved hnames (hy ▸ ht)
    have hjoined : joined.releaseAfter = e.releaseAfter := by simp [joined]
    refine ⟨fun hm hs hdone => hserved ?_, fun hm hs hdone hr => hserved ?_, fun hm hs hdone hr => hserved ?_,
      fun hm => hserved (State.connectDone_undone hm), fun hm => hserved (State.connectDone_late hm),
      fun hm => hserved (State.connectDone_ignored hm)⟩
    · rw [State.connectDone_expected (s := u) (d := .one y) hm hs]
      exact State.connectCompleted_one hdone
    · rw [State.connectDone_expected (s := u) (d := .one y) hm hs, State.connectCompleted_last (s := u) hdone]
      exact State.joined_kept (hjoined.trans hr)
    · rw [State.connectDone_expected (s := u) (d := .one y) hm hs, State.connectCompleted_last (s := u) hdone]
      exact State.joined_released (hjoined.trans hr)
  · intro joined
    have hserved {t : State} (ht : u.connectDone i .both = t) : gives t := hserved hnames (hd ▸ ht)
    refine ⟨fun hm hs hr => hserved ?_, fun hm hs hr => hserved ?_,
      fun hm => hserved ?_,
      fun hm => hserved ?_,
      fun hm => hserved (State.connectDone_ignored (s := u) (d := .both) hm)⟩
    · rw [State.connectDone_expected (s := u) (d := .both) hm hs, State.connectCompleted_both, hentry]
      exact State.joined_kept hr
    · rw [State.connectDone_expected (s := u) (d := .both) hm hs, State.connectCompleted_both, hentry]
      exact State.joined_released hr
    · rw [State.connectDone_undone (s := u) (d := .both) hm, hentry, Entry.setDones_both, Entry.setMarks_both]
    · rw [State.connectDone_late (s := u) (d := .both) hm, hentry, Entry.setMarks_both]

section
variable {s : State} {i : EntryNo} {d : Ends} {x : Side} {n : SlotNo} {reason : RefusalReason}

theorem State.connectRefused_ignored (h : (s.entry i).mark d.lead = .none ∨ (s.entry i).mark d.lead = .release) :
    s.connectRefused n i d reason = s := by
  rcases h with h | h <;> rw [State.connectRefused, h]

theorem State.connectRefused_late (h : (s.entry i).mark d.lead = .lateConnect) :
    s.connectRefused n i d reason = s.putEntry i ((s.entry i).setMarks d .none) := by rw [State.connectRefused, h]

theorem State.connectRefused_undone (h : (s.entry i).mark d.lead = .connectThenRelease) :
    s.connectRefused n i d reason = (s.putEntry i ((s.entry i).setMarks d .none)).settleReleasing i := by
  rw [State.connectRefused, h]

theorem State.connectRefused_expected (h : (s.entry i).mark d.lead = .connect) (hs : (s.entry i).state = .restoring) :
    s.connectRefused n i d reason = s.entryRefused n i d reason := by
  rw [State.connectRefused, h]
  exact if_pos hs

theorem State.dealOther_connect (h : (s.entry i).mark x = .connect) :
    s.dealOther i x = s.withdrawConnect i (.one x) .connectThenRelease := if_pos h

theorem State.dealOther_done (h : (s.entry i).mark x ≠ .connect) (hd : (s.entry i).done x = true) :
    s.dealOther i x = s.undoJoin i x := (if_neg h).trans (if_pos hd)

theorem State.dealOther_rest (h : (s.entry i).mark x ≠ .connect) (hd : (s.entry i).done x = false) :
    s.dealOther i x = s := (if_neg h).trans (if_neg (by simp [hd]))

end

/-- Settles O46: the entry faulted and its other endpoint dealt with, or the mark cleared. -/
theorem connectRefusalByMark : Obligations.ConnectRefusalByMark := by
  intro n reason s x o hp hx hw hk i r e u gives v faulted resolved
  have hexec {t : State} (ht : u.takeConnectRefusal n o reason = t) : gives t := by
    rw [← ht]
    exact exec_connectRefusal reason hp hx hw hk
  have hserved {t : State} (hnames : o.NamesOn n e) (ht : u.connectRefused n i o.ends reason = t) : gives t :=
    hexec ((if_pos (Order.serves_iff.mpr hnames)).trans ht)
  have hentry : u.entry i = e := rfl
  have hrecord : u.raise (u.faultRecord n i reason) = v := by
    have hsup : r.supply = s.supply := by simp [r]
    have hclock : u.clock = s.supply.clock := congrArg Supply.clock hsup
    have hepisode : u.supply.episode = s.supply.episode := congrArg Supply.episode hsup
    rw [State.faultRecord, hclock, hepisode]
    rfl
  have hrefused (d : Ends) : u.entryRefused n i d reason = resolved (d.others.foldl (fun t x => t.dealOther i x)
      (v.putEntry i (faulted (e.setMarks d .none)))) := by
    rw [State.entryRefused, hrecord]
    rfl
  refine ⟨fun hnames => hexec (if_neg (mt Order.serves_iff.mp hnames)), fun y hy hnames => ?_, fun hd hnames => ?_⟩
  · have hserved {t : State} (ht : u.connectRefused n i (.one y) reason = t) : gives t := hserved hnames (hy ▸ ht)
    refine ⟨fun hm hs => ?_, fun hm hs ho => hserved ?_, fun hm ho => hserved ?_,
      fun hm => hserved (State.connectRefused_late hm), fun hm => hserved (State.connectRefused_ignored hm)⟩
    · intro w
      have hentry : w.entry i = faulted (e.setMark y .none) := by rw [State.entry_putEntry, if_pos rfl]
      have hmark : (w.entry i).mark y.other = e.mark y.other := by
        rw [hentry, ← Entry.mark_setMark_other e y .none]
        cases y.other <;> rfl
      have hdone : (w.entry i).done y.other = e.done y.other := by
        rw [hentry, ← Entry.setMark_done e y y.other .none]
        cases y.other <;> rfl
      have hdeal {t : State} (ht : w.dealOther i y.other = t) : gives (resolved t) := by
        refine hserved ?_
        rw [State.connectRefused_expected (s := u) (d := .one y) hm hs, hrefused, ← ht]
        rfl
      refine ⟨fun ho => hdeal (State.dealOther_connect (hmark.trans ho)), fun ho hdn => hdeal ?_,
        fun ho hdn => hdeal (State.dealOther_rest (hmark ▸ ho) (hdone.trans hdn))⟩
      rw [State.dealOther_done (hmark ▸ ho) (hdone.trans hdn), State.undoJoin, hentry]
    · rw [State.connectRefused_undone (s := u) (d := .one y) hm]
      exact State.settleReleasing_last ((Entry.setMark_state e y .none).trans hs)
        ((Entry.noMarks_setMark_none ..).mpr ho)
    · rw [State.connectRefused_undone (s := u) (d := .one y) hm]
      exact State.settleReleasing_more (ho.imp (fun h c => h ((Entry.setMark_state e y .none).symm.trans c))
        (mt (Entry.noMarks_setMark_none ..).mp))
  · intro dropped
    have hserved {t : State} (ht : u.connectRefused n i .both reason = t) : gives t := hserved hnames (hd ▸ ht)
    refine ⟨fun hm hs => hserved ?_, fun hm hs => hserved ?_, fun hm hs => hserved ?_,
      fun hm => hserved ?_, fun hm => hserved (State.connectRefused_ignored hm)⟩
    · rw [State.connectRefused_expected (s := u) (d := .both) hm hs, hrefused]
      rfl
    · rw [State.connectRefused_undone (s := u) (d := .both) hm, hentry, Entry.setMarks_both]
      exact State.settleReleasing_last hs rfl
    · rw [State.connectRefused_undone (s := u) (d := .both) hm, hentry, Entry.setMarks_both]
      exact State.settleReleasing_more (.inl hs)
    · rw [State.connectRefused_late (s := u) (d := .both) hm, hentry, Entry.setMarks_both]

/-- Settles O47: the release ended at each served endpoint, and the entry IDLE with its last mark. -/
theorem releaseResultEndsTheRelease : Obligations.ReleaseResultEndsTheRelease := by
  intro n answer s x o hp hx hw hk i r e u gives
  have hexec {t : State} (ht : u.takeReleaseEnd n o = t) : gives t := by
    rw [← ht]
    exact exec_releaseResult answer hp hx hw hk
  have hignored (hnames : ¬o.NamesOn n e) : gives u := hexec (if_neg (mt Order.serves_iff.mp hnames))
  have hserved {t : State} (hnames : o.NamesOn n e) (ht : u.releaseEnded i o.ends = t) : gives t :=
    hexec ((if_pos (Order.serves_iff.mpr hnames)).trans ht)
  refine ⟨hignored, fun y hy hnames => ?_, fun hd hnames ha hb => ?_, fun hd ha => ?_⟩
  · intro freed
    have hserved {t : State} (ht : u.releaseEnded i (.one y) = t) : gives t := hserved hnames (hy ▸ ht)
    have hstate : freed.state = e.state := by simp [freed]
    refine ⟨fun hm hs ho => hserved ?_, fun hm ho => hserved ?_, fun hm => hserved (State.releaseEnded_ignored hm)⟩
    · rw [State.releaseEnded_one (s := u) hm]
      exact State.settleReleasing_last (hstate.trans hs) ((Entry.noMarks_freed ..).mpr ho)
    · rw [State.releaseEnded_one (s := u) hm]
      exact State.settleReleasing_more (ho.imp (fun h c => h (hstate.symm.trans c)) (mt (Entry.noMarks_freed ..).mp))
  · intro freed
    have hserved {t : State} (ht : u.releaseEnded i .both = t) : gives t := hserved hnames (hd ▸ ht)
    refine ⟨fun hs => hserved ?_, fun hs => hserved ?_⟩
    · rw [State.releaseEnded_both (s := u) ha hb, show u.entry i = e from rfl]
      exact State.settleReleasing_last hs rfl
    · rw [State.releaseEnded_both (s := u) ha hb, show u.entry i = e from rfl]
      exact State.settleReleasing_more (.inl hs)
  · by_cases hnames : o.NamesOn n e
    · refine hserved hnames ?_
      rw [hd]
      exact State.releaseEnded_ignored ha
    · exact hignored hnames

end Sys2Proof.Machine
end

section
/-! The words of the shelf area and of a journal record: each field at its place (R130, R143, R149 to R160, R168, R170,
R171), and the region of every offset (R127, R128). -/

namespace Sys2Proof.Machine

/-! ## A field of a word put together from parts -/

section
variable {v w k len : Nat} {x : BitVec v} {lo : BitVec w} {f : BitVec len}

/-- The part at the low end. -/
theorem field_low : (x ++ lo).extractLsb' 0 w = lo := BitVec.extractLsb'_append_eq_right

/-- A field of the upper part. -/
theorem field_above (h : x.extractLsb' k len = f) : (x ++ lo).extractLsb' (k + w) len = f := by
  rw [BitVec.extractLsb'_append_eq_of_le (Nat.le_add_left ..), Nat.add_sub_cancel, h]

/-- Bits that no part holds read as 0 where they read as 0 in both. -/
theorem unused_append {m : BitVec (v + w)} (hx : x &&& m.extractLsb' w v = 0#v) (hlo : lo &&& m.extractLsb' 0 w = 0#w) :
    (x ++ lo) &&& m = 0#(v + w) := by
  rw [← BitVec.extractLsb'_append_extractLsb' (x := m), BitVec.and_append, hx, hlo, BitVec.zero_append_zero]

/-- A part outside the mask. -/
theorem unused_field {m : BitVec v} (h : m = 0#v) : x &&& m = 0#v := by rw [h, BitVec.and_zero]

end

/-! ## Control and status words -/

theorem Captured.cw0_fields (c : Captured) :
    c.cw0.extractLsb' 8 1 = BitVec.ofBool c.attentionEnable ∧ c.cw0 &&& 0xFFFFFEFF#32 = 0#32 :=
  ⟨field_above field_low, unused_append (unused_append BitVec.zero_and (unused_field rfl)) BitVec.zero_and⟩

theorem Captured.cw1_fields (c : Captured) :
    c.cw1.extractLsb' 0 2 = c.restoreFloor ∧ c.cw1.extractLsb' 16 16 = c.barrierTime ∧ c.cw1 &&& 0x0000FFFC#32 = 0#32 :=
  ⟨field_low, field_above (field_above BitVec.extractLsb'_eq_self),
    unused_append (unused_append (unused_field rfl) BitVec.zero_and) (unused_field rfl)⟩

theorem Captured.cw2_fields (c : Captured) :
    c.cw2.extractLsb' 0 16 = c.settleTime ∧ c.cw2.extractLsb' 16 16 = c.shortSagLimit :=
  ⟨field_low, field_above BitVec.extractLsb'_eq_self⟩

theorem Captured.cw3_fields (c : Captured) :
    c.cw3.extractLsb' 0 8 = c.bootLimit ∧ c.cw3.extractLsb' 8 5 = c.driftLimit ∧
      c.cw3.extractLsb' 16 4 = c.spreadLimit ∧ c.cw3 &&& 0xFFF0E000#32 = 0#32 :=
  ⟨field_low, field_above field_low, field_above (field_above (field_above field_low)),
    unused_append (unused_append (unused_append (unused_append BitVec.zero_and (unused_field rfl)) BitVec.zero_and)
      (unused_field rfl)) (unused_field rfl)⟩

theorem sw1Word_fields (shelf : ShelfState) (lowest : Nat) (episode : BitVec 16) :
    (sw1Word shelf lowest episode).extractLsb' 0 2 = shelf.code ∧ (sw1Word shelf lowest episode).extractLsb' 2 3 =
    BitVec.ofNat 3 lowest ∧ (sw1Word shelf lowest episode).extractLsb' 16 16 = episode ∧ (sw1Word shelf lowest
    episode) &&& 0x0000FFE0#32 = 0#32 :=
  ⟨field_low, field_above field_low, field_above (field_above (field_above BitVec.extractLsb'_eq_self)),
  unused_append (unused_append (unused_append (unused_field rfl) BitVec.zero_and) (unused_field rfl)) (unused_field
  rfl)⟩

theorem sw2Word_fields (duration : BitVec 16) (cls : Classification) :
    (sw2Word duration cls).extractLsb' 0 16 = duration ∧ (sw2Word duration cls).extractLsb' 16 2 = cls.code ∧
    (sw2Word duration cls) &&& 0xFFFC0000#32 = 0#32 :=
  ⟨field_low, field_above field_low, unused_append (unused_append BitVec.zero_and (unused_field rfl)) (unused_field
  rfl)⟩

theorem sw3Word_fields (j : Journal) :
    (sw3Word j).extractLsb' 0 8 = j.head ∧ (sw3Word j).extractLsb' 8 8 = j.tail ∧ (sw3Word j).extractLsb' 16 1 =
    BitVec.ofBool j.overrun ∧ (sw3Word j) &&& 0xFFFE0000#32 = 0#32 :=
  ⟨field_low, field_above field_low, field_above (field_above field_low), unused_append (unused_append
  (unused_append BitVec.zero_and (unused_field rfl)) (unused_field rfl)) (unused_field rfl)⟩

theorem sw4Word_fields (waiting live : Nat) :
    (sw4Word waiting live).extractLsb' 0 13 = BitVec.ofNat 13 waiting ∧ (sw4Word waiting live).extractLsb' 16 13 =
    BitVec.ofNat 13 live ∧ (sw4Word waiting live) &&& 0xE000E000#32 = 0#32 :=
  ⟨field_low, field_above (field_above field_low), unused_append (unused_append (unused_append BitVec.zero_and
  (unused_field rfl)) BitVec.zero_and) (unused_field rfl)⟩

theorem sw5Word_fields (restoring faulted : Nat) :
    (sw5Word restoring faulted).extractLsb' 0 5 = BitVec.ofNat 5 restoring ∧ (sw5Word restoring faulted).extractLsb'
    16 13 = BitVec.ofNat 13 faulted ∧ (sw5Word restoring faulted) &&& 0xE000FFE0#32 = 0#32 :=
  ⟨field_low, field_above (field_above field_low), unused_append (unused_append (unused_append BitVec.zero_and
  (unused_field rfl)) BitVec.zero_and) (unused_field rfl)⟩

/-! ## Slot words -/

theorem SlotSettings.word_fields (c : SlotSettings) :
    c.word.extractLsb' 0 16 = c.expectedType ∧ c.word.extractLsb' 16 2 = c.relinkLevel ∧ c.word.extractLsb' 20 1 =
    c.rate.code ∧ c.word.extractLsb' 24 5 = c.margin ∧ c.word &&& 0xE0EC0000#32 = 0#32 :=
  ⟨field_low, field_above field_low, field_above (field_above (field_above field_low)), field_above (field_above
  (field_above (field_above (field_above field_low)))), unused_append (unused_append (unused_append (unused_append
  (unused_append (unused_append BitVec.zero_and (unused_field rfl)) BitVec.zero_and) (unused_field rfl))
  BitVec.zero_and) (unused_field rfl)) (unused_field rfl)⟩

theorem SlotContext.ss0_fields (c : SlotContext) :
    c.ss0.extractLsb' 0 4 = c.state.code ∧ c.ss0.extractLsb' 4 1 = c.mode.code ∧ c.ss0.extractLsb' 5 2 =
    BitVec.ofNat 2 c.attempt ∧ c.ss0.extractLsb' 8 3 = laneCode c.lane ∧ c.ss0.extractLsb' 12 1 = c.cardGood.code ∧
    c.ss0.extractLsb' 16 4 = c.lastFailure.code ∧ c.ss0 &&& 0xFFF0E880#32 = 0#32 :=
  ⟨field_low, field_above field_low, field_above (field_above field_low), field_above (field_above (field_above
  (field_above field_low))), field_above (field_above (field_above (field_above (field_above (field_above
  field_low))))), field_above (field_above (field_above (field_above (field_above (field_above (field_above
  (field_above field_low))))))), unused_append (unused_append (unused_append (unused_append (unused_append
  (unused_append (unused_append (unused_append (unused_append BitVec.zero_and (unused_field rfl)) BitVec.zero_and)
  (unused_field rfl)) BitVec.zero_and) (unused_field rfl)) BitVec.zero_and) (unused_field rfl)) (unused_field rfl))
  (unused_field rfl)⟩

theorem SlotContext.ss1_fields (c : SlotContext) :
    c.ss1.extractLsb' 0 6 = c.lastGood.edge ∧ c.ss1.extractLsb' 8 6 = c.lock.lockTap ∧ c.ss1.extractLsb' 16 6 =
    BitVec.ofNat 6 c.lock.spread ∧ c.ss1.extractLsb' 24 6 = driftCode c.lock.drift ∧ c.ss1.extractLsb' 30 1 =
    BitVec.ofBool c.lastGood.valid ∧ c.ss1.extractLsb' 31 1 = c.lastGood.rate.code ∧ c.ss1 &&& 0x00C0C0C0#32 = 0#32 :=
  ⟨field_low, field_above (field_above field_low), field_above (field_above (field_above (field_above field_low))),
  field_above (field_above (field_above (field_above (field_above (field_above field_low))))), field_above
  (field_above (field_above (field_above (field_above (field_above (field_above field_low)))))), field_above
  (field_above (field_above (field_above (field_above (field_above (field_above (field_above
  BitVec.extractLsb'_eq_self))))))), unused_append (unused_append (unused_append (unused_append (unused_append
  (unused_append (unused_append (unused_append (unused_field rfl) (unused_field rfl)) (unused_field rfl))
  BitVec.zero_and) (unused_field rfl)) BitVec.zero_and) (unused_field rfl)) BitVec.zero_and) (unused_field rfl)⟩

theorem SlotContext.ss2_fields (c : SlotContext) :
    c.ss2.extractLsb' 0 16 = c.foundType ∧ c.ss2.extractLsb' 16 16 = c.foundRevision :=
  ⟨field_low, field_above BitVec.extractLsb'_eq_self⟩

theorem LinkUnit.ss3_fields (l : LinkUnit) (b : Bool) :
    (l.ss3 b).extractLsb' 0 7 = BitVec.ofNat 7 (if b then l.orders.length else 0) ∧ (l.ss3 b).extractLsb' 8 1 =
    BitVec.ofBool l.window.isSome ∧ (l.ss3 b) &&& 0xFFFFFE80#32 = 0#32 :=
  ⟨field_low, field_above (field_above field_low), unused_append (unused_append (unused_append BitVec.zero_and
  (unused_field rfl)) BitVec.zero_and) (unused_field rfl)⟩

/-- A drift of six bits reads back as it is. -/
theorem driftCode_toInt {d : Int} (hlow : -32 ≤ d) (hhigh : d ≤ 31) : (driftCode d).toInt = d := by
  rw [driftCode, BitVec.toInt_ofInt]
  exact Int.bmod_eq_of_le (by omega) (by omega)

theorem laneCode_toNat (l : LaneNo) : (laneCode (some l)).toNat = l.val := by
  have := l.isLt
  simp [laneCode]
  omega

/-! ## Circuit entry words -/

theorem Entry.requestWord_fields (e : Entry) :
    e.requestWord.extractLsb' 0 2 = e.code.code ∧ e.requestWord.extractLsb' 2 2 = e.fields.cls ∧
    e.requestWord.extractLsb' 4 5 = e.fields.a.slot ∧ e.requestWord.extractLsb' 9 6 = e.fields.a.port ∧
    e.requestWord.extractLsb' 16 5 = e.fields.b.slot ∧ e.requestWord.extractLsb' 21 6 = e.fields.b.port ∧
    e.requestWord &&& 0xF8008000#32 = 0#32 :=
  ⟨field_low, field_above field_low, field_above (field_above field_low), field_above (field_above (field_above
  field_low)), field_above (field_above (field_above (field_above (field_above field_low)))), field_above
  (field_above (field_above (field_above (field_above (field_above field_low))))), unused_append (unused_append
  (unused_append (unused_append (unused_append (unused_append (unused_append BitVec.zero_and (unused_field rfl))
  (unused_field rfl)) BitVec.zero_and) (unused_field rfl)) (unused_field rfl)) (unused_field rfl)) (unused_field
  rfl)⟩

theorem Entry.stateWord_fields (e : Entry) :
    e.stateWord.extractLsb' 0 3 = e.state.code ∧ e.stateWord.extractLsb' 4 4 = e.outcome.code ∧
    e.stateWord.extractLsb' 8 1 = BitVec.ofBool e.releaseAfter ∧ e.stateWord.extractLsb' 9 1 = BitVec.ofBool e.doneA
    ∧ e.stateWord.extractLsb' 10 1 = BitVec.ofBool e.doneB ∧ e.stateWord.extractLsb' 16 16 = e.tag ∧ e.stateWord &&&
    0x0000F808#32 = 0#32 :=
  ⟨field_low, field_above (field_above field_low), field_above (field_above (field_above field_low)), field_above
  (field_above (field_above (field_above field_low))), field_above (field_above (field_above (field_above
  (field_above field_low)))), field_above (field_above (field_above (field_above (field_above (field_above
  (field_above BitVec.extractLsb'_eq_self)))))), unused_append (unused_append (unused_append (unused_append
  (unused_append (unused_append (unused_append (unused_field rfl) BitVec.zero_and) (unused_field rfl)) (unused_field
  rfl)) (unused_field rfl)) (unused_field rfl)) BitVec.zero_and) (unused_field rfl)⟩

/-! ## Journal record words -/

theorem Record.word_fields (r : Record) :
    (r.word 0).extractLsb' 0 8 = r.kind.code ∧ (r.word 0).extractLsb' 16 8 = r.aux ∧
      (r.word 1).extractLsb' 16 16 = r.episode :=
  ⟨field_low, field_above (field_above field_low), field_above BitVec.extractLsb'_eq_self⟩

theorem Record.word_slot {r : Record} {n : SlotNo} (h : r.slot = some n) :
    ((r.word 0).extractLsb' 8 8).toNat = n.val := by
  have hword : (r.word 0).extractLsb' 8 8 = BitVec.ofNat 8 n.val := by
    simp only [Record.word, Record.j0, h]
    exact field_above field_low
  rw [hword]
  exact Nat.mod_eq_of_lt (by omega)

theorem Record.word_class {r : Record} {c : BitVec 2} (h : r.cls = some c) :
    ((r.word 0).extractLsb' 24 8).toNat = c.toNat := by
  have hword : (r.word 0).extractLsb' 24 8 = c.setWidth 8 := by
    simp only [Record.word, Record.j0, h]
    exact field_above (field_above (field_above BitVec.extractLsb'_eq_self))
  rw [hword]
  exact BitVec.toNat_setWidth_of_le (by decide)

theorem Record.word_entry {r : Record} {i : EntryNo} (h : r.entry = some i) :
    ((r.word 1).extractLsb' 0 16).toNat = i.val := by
  have hword : (r.word 1).extractLsb' 0 16 = BitVec.ofNat 16 i.val := by
    simp only [Record.word, Record.j1, h]
    exact field_low
  rw [hword]
  exact Nat.mod_eq_of_lt (by omega)

/-- A record of no slot, class or entry. -/
theorem Record.word_none (r : Record) : (r.slot = none → (r.word 0).extractLsb' 8 8 = 0xFF#8) ∧
    (r.cls = none → (r.word 0).extractLsb' 24 8 = 0xFF#8) ∧
    (r.entry = none → (r.word 1).extractLsb' 0 16 = 0xFFFF#16) := by
  refine ⟨fun h => ?_, fun h => ?_, fun h => ?_⟩
  · simp only [Record.word, Record.j0, h]
    exact field_above field_low
  · simp only [Record.word, Record.j0, h]
    exact field_above (field_above (field_above BitVec.extractLsb'_eq_self))
  · simp only [Record.word, Record.j1, h]
    exact field_low

theorem driftValue_fields (d : Int) (e : Tap) : (driftValue d e).extractLsb' 0 6 = e ∧
    (driftValue d e).extractLsb' 24 6 = driftCode d ∧ driftValue d e &&& 0xC0FFFFC0#32 = 0#32 :=
  ⟨field_low, field_above (field_above field_low),
    unused_append (unused_append (unused_append BitVec.zero_and (unused_field rfl)) BitVec.zero_and) (unused_field rfl)⟩

theorem toNat_append_add {v w : Nat} (x : BitVec v) (y : BitVec w) : (x ++ y).toNat = 2 ^ w * x.toNat + y.toNat := by
  rw [BitVec.toNat_append, Nat.shiftLeft_eq, Nat.mul_comm, Nat.two_pow_add_eq_or_of_lt y.isLt]

theorem entryFaultedValue_toNat (n : SlotNo) (reason : RefusalReason) :
    (entryFaultedValue n reason).toNat = 256 * n.val + reason.code.toNat := by
  simp only [entryFaultedValue, toNat_append_add, BitVec.toNat_ofNat]
  omega

theorem barrierOpenValue_toNat (cls cause : BitVec 8) :
    (barrierOpenValue cls cause).toNat = 256 * cause.toNat + cls.toNat := by
  simp only [barrierOpenValue, toNat_append_add, BitVec.toNat_ofNat]
  omega

theorem windowFaultValue_toNat (index : BitVec 10) (reason : BitVec 8) :
    (windowFaultValue index reason).toNat = 65536 * (4 * index.toNat) + reason.toNat := by
  simp only [windowFaultValue, toNat_append_add, BitVec.toNat_ofNat]
  omega

theorem State.readShadow_length (s : State) (n : SlotNo) :
    ((s.slot n).state = .linked → (s.readShadow (.ss n 3)).extractLsb' 0 7 = BitVec.ofNat 7 (s.link n).orders.length) ∧
      ((s.slot n).state ≠ .linked → (s.readShadow (.ss n 3)).extractLsb' 0 7 = 0#7) := by
  have hread : (s.readShadow (.ss n 3)).extractLsb' 0 7 =
      BitVec.ofNat 7 (if s.linked n then (s.link n).orders.length else 0) := field_low
  rw [hread]
  refine ⟨fun h => ?_, fun h => ?_⟩
  · rw [if_pos (State.linked_iff.mpr h)]
  · rw [if_neg (mt State.linked_iff.mp h)]

theorem tailWord_fields (tail : BitVec 8) :
    (tail.setWidth 32).extractLsb' 0 8 = tail ∧ tail.setWidth 32 &&& 0xFFFFFF00#32 = 0#32 := by
  have hword : tail.setWidth 32 = 0#24 ++ tail := BitVec.setWidth_eq_append (by decide)
  rw [hword]
  exact ⟨field_low, unused_append BitVec.zero_and (unused_field rfl)⟩

theorem State.readShadow_lane (s : State) (n : SlotNo) :
    (∀ l, (s.slot n).lane = some l → ((s.readShadow (.ss n 0)).extractLsb' 8 3).toNat = l.val) ∧
      ((s.slot n).lane = none → (s.readShadow (.ss n 0)).extractLsb' 8 3 = 7#3) := by
  have hlane : (s.readShadow (.ss n 0)).extractLsb' 8 3 = laneCode (s.slot n).lane :=
    (s.slot n).ss0_fields.2.2.2.1
  refine ⟨fun l h => ?_, fun h => ?_⟩
  · rw [hlane, h, laneCode_toNat]
  · rw [hlane, h]
    rfl

/-! ## The region of an offset -/

theorem classify_slotRecord {x : Nat} (hlow : 0x100 ≤ x) (hhigh : x < 0x400) :
    classify x = classifySlotRecord (Fin.ofNat 24 ((x - 0x100) / 32)) ((x - 0x100) % 32 / 4) := by
  unfold classify
  rw [if_neg (by omega), if_neg (by omega), if_neg (by omega), if_neg (by omega), if_pos hhigh]

theorem classify_circuit {x : Nat} (hlow : 0x1000 ≤ x) (hhigh : x < 0x9000) : classify x =
    if (x - 0x1000) % 8 < 4 then .shadow (.request (Fin.ofNat 4096 ((x - 0x1000) / 8)))
    else .shadow (.entryState (Fin.ofNat 4096 ((x - 0x1000) / 8))) := by
  unfold classify
  rw [if_neg (by omega), if_neg (by omega), if_neg (by omega), if_neg (by omega), if_neg (by omega),
    if_neg (by omega), if_pos hhigh]

theorem classify_ring {x : Nat} (hlow : 0x9000 ≤ x) (hhigh : x < 0xA000) : classify x = .ring := by
  unfold classify
  rw [if_neg (by omega), if_neg (by omega), if_neg (by omega), if_neg (by omega), if_neg (by omega),
    if_neg (by omega), if_neg (by omega), if_pos hhigh]

theorem classify_window {x : Nat} (hlow : 0x10000 ≤ x) (hhigh : x < 0x28000) : classify x =
    .window (Fin.ofNat 24 ((x - 0x10000) / 4096)) (BitVec.ofNat 10 ((x - 0x10000) % 4096 / 4)) := by
  unfold classify
  rw [if_neg (by omega), if_neg (by omega), if_neg (by omega), if_neg (by omega), if_neg (by omega),
    if_neg (by omega), if_neg (by omega), if_neg (by omega), if_neg (by omega), if_pos hhigh]

theorem classify_unnamed {x : Nat} (h : (0x14 ≤ x ∧ x < 0x20) ∨ (0x3C ≤ x ∧ x < 0x100) ∨ (0x400 ≤ x ∧ x < 0x1000) ∨
    (0xA000 ≤ x ∧ x < 0x10000) ∨ 0x28000 ≤ x) : classify x = .plain := by
  unfold classify
  split_ifs
  any_goals rfl
  all_goals omega

/-- The word r of the record of slot n. -/
theorem classify_slotWord (n : SlotNo) {r x : Nat} (hr : r < 8) (hx : x = 0x100 + 32 * n.val + 4 * r) :
    classify x = classifySlotRecord n r := by
  have hslot : Fin.ofNat 24 ((x - 0x100) / 32) = n := Fin.ext (by simp; omega)
  have hword : (x - 0x100) % 32 / 4 = r := by omega
  rw [classify_slotRecord (by omega) (by omega), hslot, hword]

theorem areaOffset_eq (area : BitVec 6) (addr : WordAddr) : areaOffset area addr =
    if 262144 * area.toNat ≤ 4 * addr.toNat ∧ 4 * addr.toNat < 262144 * area.toNat + 262144 then
      some (4 * addr.toNat - 262144 * area.toNat) else none := by
  rw [areaOffset, areaBase, byteAddress, Nat.mul_comm area.toNat]
  rfl

/-- Settles O59: each offset by the range it falls in. -/
theorem everyOffsetHasItsRegion : Obligations.EveryOffsetHasItsRegion := by
  refine ⟨by decide, by decide, fun n => ⟨?_, ?_, ?_, ?_, fun k => ?_⟩, fun i => ⟨?_, ?_⟩,
    fun x hlow hhigh => classify_ring hlow (by omega), fun n k => ?_, fun x => classify_unnamed, areaOffset_eq⟩
  · exact classify_slotWord n (r := 0) (by decide) (by omega)
  · exact classify_slotWord n (r := 1) (by decide) (by omega)
  · exact classify_slotWord n (r := 2) (by decide) (by omega)
  · exact classify_slotWord n (r := 3) (by decide) (by omega)
  · rw [classify_slotWord n (r := 4 + k.val) (by omega) (by omega), classifySlotRecord, if_neg (by omega),
      if_neg (by omega), if_pos (by omega), Nat.add_sub_cancel_left, Fin.ofNat_val_eq_self]
  · have hentry : Fin.ofNat 4096 ((0x1000 + 8 * i.val - 0x1000) / 8) = i := Fin.ext (by simp)
    rw [classify_circuit (by omega) (by omega), if_pos (by omega), hentry]
  · have hentry : Fin.ofNat 4096 ((0x1004 + 8 * i.val - 0x1000) / 8) = i := Fin.ext (by simp; omega)
    rw [classify_circuit (by omega) (by omega), if_neg (by omega), hentry]
  · have hslot : Fin.ofNat 24 ((0x10000 + 4096 * n.val + 4 * k.val - 0x10000) / 4096) = n := Fin.ext (by simp; omega)
    have hword : (0x10000 + 4096 * n.val + 4 * k.val - 0x10000) % 4096 / 4 = k.val := by omega
    rw [classify_window (by omega) (by omega), hslot, hword]

/-- Settles O60: each word is put together from its fields, each read back at its place. -/
theorem wordsHoldTheirFields : Obligations.WordsHoldTheirFields := by
  refine ⟨fun s => ?_, fun r => ?_, fun d e => ?_, entryFaultedValue_toNat, barrierOpenValue_toNat,
    windowFaultValue_toNat, by decide⟩
  · refine ⟨s.path.captured.cw0_fields, s.path.captured.cw1_fields, s.path.captured.cw2_fields,
      s.path.captured.cw3_fields, tailWord_fields s.journal.tail, rfl,
      sw1Word_fields .., sw2Word_fields .., sw3Word_fields .., sw4Word_fields .., sw5Word_fields .., rfl,
      fun n => ?_, fun n => ?_, fun n => ?_, fun n => (s.slot n).ss2_fields, fun n => ?_,
      fun i => ⟨(s.entry i).requestWord_fields, (s.entry i).stateWord_fields⟩⟩
    · obtain ⟨htype, hlevel, hrate, hmargin, hunused⟩ := (s.sl0 n).word_fields
      exact ⟨htype, hlevel, hrate, hmargin, hunused, rfl⟩
    · obtain ⟨hstate, hmode, hattempt, -, hgood, hfailure, hunused⟩ := (s.slot n).ss0_fields
      obtain ⟨hlane, hnone⟩ := s.readShadow_lane n
      exact ⟨hstate, hmode, hattempt, hlane, hnone, hgood, hfailure, hunused⟩
    · obtain ⟨hedge, htap, hspread, hdrift, hvalid, hrate, hunused⟩ := (s.slot n).ss1_fields
      exact ⟨hedge, htap, hspread, fun hlow hhigh => (congrArg BitVec.toInt hdrift).trans (driftCode_toInt hlow hhigh),
        hvalid, hrate, hunused⟩
    · obtain ⟨-, hwindow, hunused⟩ := (s.link n).ss3_fields (s.linked n)
      obtain ⟨hlinked, haway⟩ := s.readShadow_length n
      exact ⟨hlinked, haway, hwindow, hunused⟩
  · obtain ⟨hkind, haux, hepisode⟩ := r.word_fields
    obtain ⟨hslot, hclass, hentry⟩ := r.word_none
    exact ⟨hkind, haux, hepisode, rfl, rfl, fun n => Record.word_slot, hslot, fun c => Record.word_class, hclass,
      fun i => Record.word_entry, hentry⟩
  · obtain ⟨hedge, hdrift, hunused⟩ := driftValue_fields d e
    exact ⟨hedge, hunused, fun hlow hhigh => (congrArg BitVec.toInt hdrift).trans (driftCode_toInt hlow hhigh)⟩

end Sys2Proof.Machine
end

section
/-! The state right after power-on reset: what its words read, and that it meets every relation. -/

namespace Sys2Proof.Machine

theorem State.card_reset (n : SlotNo) : State.reset.card n = .initial := Vector.getElem_replicate ..

theorem State.sl0_reset (n : SlotNo) : State.reset.sl0 n = .initial := Vector.getElem_replicate ..

theorem State.entry_reset (i : EntryNo) : State.reset.entry i = .initial := rfl

theorem State.readSlotStatus_reset (n : SlotNo) (k : Fin 4) :
    State.reset.readShadow (.ss n k) = if k = 0 then 0x00000700#32 else 0#32 := by
  have hslot := State.slot_reset n
  have hlink := State.link_reset n
  have haway : State.reset.linked n = false := by rw [State.linked, hslot]; rfl
  have hwords : State.reset.readSlotStatus n 0 = SlotContext.initial.ss0 ∧
      State.reset.readSlotStatus n 1 = SlotContext.initial.ss1 ∧
      State.reset.readSlotStatus n 2 = SlotContext.initial.ss2 ∧
      State.reset.readSlotStatus n 3 = LinkUnit.initial.ss3 false :=
    ⟨by rw [← hslot]; rfl, by rw [← hslot]; rfl, by rw [← hslot]; rfl, by rw [← hlink, ← haway]; rfl⟩
  obtain ⟨h0, h1, h2, h3⟩ := hwords
  fin_cases k
  · exact h0
  · exact h1
  · exact h2
  · exact h3

theorem SupplyOk.reset : SupplyOk State.reset where
  low_iff_sag := by decide
  settle_timer := by decide
  rail_timed := fun _ h => absurd rfl h
  cards_timed := fun _ n => by
    rw [State.card_reset]
    exact fun h => absurd rfl h
  micro_lt := by decide
  elapsed := by decide

theorem SlotsOk.reset : SlotsOk State.reset where
  each n := by
    rw [State.slot_reset]
    exact SlotContext.ok_initial
  level n := by rw [State.slot_reset, State.card_reset]; rfl
  output n := by rw [State.slot_reset]; rfl
  listens n := by rw [State.slot_reset, State.link_reset]; rfl

theorem SagsOk.reset : SagsOk State.reset where
  away h := absurd h (by decide)

theorem BarriersOk.reset : BarriersOk State.reset where
  lowest := by decide
  normal := by decide
  timer := by decide

theorem JournalOk.reset : JournalOk State.reset where
  room := by decide
  positions _ _ h := by cases h
  word := by decide
  attention := by decide
  serving _ _ h := by cases h

theorem CapturedOk.reset : CapturedOk State.reset where
  settle := by decide
  boot := by decide

theorem PortsOk.reset : PortsOk State.reset where
  served := ⟨fun h => (by cases h), fun ⟨_, h⟩ => (by cases h)⟩

theorem StoreOk.reset : StoreOk State.reset where
  canonical := by decide

theorem State.reset_ok : State.reset.Ok where
  supply := .reset
  slots := .reset
  lanes := .reset
  links := .reset
  sags := .reset
  windows := .reset
  counts := .reset
  ages := .reset
  barriers := .reset
  journal := .reset
  captured := .reset
  ports := .reset
  store := .reset

/-- Settles O15: each word evaluated at the power-on values, each relation from its own lemma. -/
theorem stateAfterReset : Obligations.StateAfterReset := by
  refine ⟨⟨by decide, by decide, fun n => ⟨?_, rfl⟩, State.readSlotStatus_reset, fun i => ?_⟩, State.reset_ok⟩
  case refine_2 =>
    have hwords : Entry.initial.requestWord = 0#32 ∧ Entry.initial.stateWord = 0#32 := by decide
    rw [← State.entry_reset i] at hwords
    exact hwords
  have hword : State.reset.readShadow (.sl0 n) = (State.reset.sl0 n).word := rfl
  rw [hword, State.sl0_reset]
  rfl

end Sys2Proof.Machine
end

section
/-! The Restore Engine: which entry is issued (R111) and how (R97), and when a barrier opens (R116 to R121). -/

namespace Sys2Proof.Machine

/-! ## The issue winner -/

/-- The first element of a list that qualifies is the one nearest its head. -/
theorem find?_of_idxOf {α : Type} [DecidableEq α] {l : List α} {p : α → Bool} {a : α} (ha : a ∈ l) (hp : p a = true)
    (hfirst : ∀ b ∈ l, p b = true → l.idxOf a ≤ l.idxOf b) : l.find? p = some a := by
  induction l with
  | nil => cases ha
  | cons c l ih =>
    by_cases hc : c = a
    · rw [hc, List.find?_cons_of_pos hp]
    · have hpos : (c :: l).idxOf a = (l.idxOf a).succ := List.idxOf_cons_ne l hc
      have hpc : ¬p c = true := fun h => by
        have := hfirst c (List.mem_cons_self ..) h
        rw [List.idxOf_cons_self, hpos] at this
        omega
      rw [List.find?_cons_of_neg hpc]
      refine ih ((List.mem_cons.mp ha).resolve_left (Ne.symm hc)) fun b hb h => ?_
      have hbc : c ≠ b := fun e => hpc (e ▸ h)
      have := hfirst b (List.mem_cons_of_mem _ hb) h
      rw [hpos, List.idxOf_cons_ne l hbc] at this
      omega

section
variable {s : State}

theorem State.eligible_iff {e : Entry} : s.eligible e = true ↔ e.state = .waiting ∧ s.bothLinked e = true ∧
    e.fields.cls ≤ s.path.captured.restoreFloor ∧ e.fields.cls.toNat < s.restore.lowestClosed := by
  simp [State.eligible, State.withinFloor, and_assoc]

/-- The eligible entry of the lowest class, the oldest among equals, wins. -/
theorem State.issueWinner_of_best {i : EntryNo} (hmem : i ∈ s.circuits.ageList) (hi : s.eligible (s.entry i) = true)
    (hbest : ∀ j ∈ s.circuits.ageList, s.eligible (s.entry j) = true → (s.entry i).fields.cls < (s.entry j).fields.cls ∨
      ((s.entry i).fields.cls = (s.entry j).fields.cls ∧
        s.circuits.ageList.idxOf i ≤ s.circuits.ageList.idxOf j)) : s.issueWinner = some i := by
  have hclass : (s.entry i).fields.cls ∈ [0#2, 1#2, 2#2, 3#2] := by
    generalize (s.entry i).fields.cls = v
    revert v
    decide
  refine findSome?_of_least (by decide) hclass (find?_of_idxOf hmem (by simp [hi]) fun j hj h => ?_) fun v hv => ?_
  · simp only [Bool.and_eq_true, beq_iff_eq] at h
    rcases hbest j hj h.1 with hlt | ⟨-, hle⟩
    · exact absurd hlt (by rw [h.2]; exact BitVec.lt_irrefl _)
    · exact hle
  · refine List.find?_eq_none.mpr fun j hj h => ?_
    simp only [Bool.and_eq_true, beq_iff_eq] at h
    rcases hbest j hj h.1 with hlt | ⟨heq, -⟩
    · exact BitVec.lt_asymm hv (h.2 ▸ hlt)
    · exact absurd hv (by rw [heq, h.2]; exact BitVec.lt_irrefl _)

theorem State.issueWinner_none (h : ∀ i ∈ s.circuits.ageList, s.eligible (s.entry i) = false) :
    s.issueWinner = none :=
  List.findSome?_eq_none_iff.mpr fun v _ => List.find?_eq_none.mpr fun i hi hel => by
    simp [h i hi] at hel

/-! ## The entry issued (R97) -/

variable {i : EntryNo}

theorem State.issueEntry_unmarked (ha : (s.entry i).markA = .none) (hb : (s.entry i).markB = .none) :
    s.issueEntry i = (s.putEntry i (s.entry i).toRestoring).appendBoth i .connect := by
  have hentry : (s.putEntry i (s.entry i).toRestoring).entry i = (s.entry i).toRestoring := by simp
  have hslots : (s.entry i).toRestoring.oneSlot = (s.entry i).oneSlot := rfl
  by_cases hone : (s.entry i).oneSlot = true
  · rw [State.appendBoth_oneSlot (by rw [hentry, hslots, hone])]
    simp [State.issueEntry, State.appendConnect, hone, ha]
  · have hone := Bool.eq_false_iff.mpr hone
    rw [State.appendBoth_apart (by rw [hentry, hslots, hone])]
    simp [State.issueEntry, State.appendConnect, hone, ha, hb]

theorem State.issueEntry_markedB (hone : (s.entry i).oneSlot = false) (ha : (s.entry i).markA = .none)
    (hb : (s.entry i).markB ≠ .none) :
    s.issueEntry i = (s.putEntry i (s.entry i).toRestoring).appendOrder i .connect (.one .a) := by
  simp [State.issueEntry, State.appendConnect, hone, ha, hb]

theorem State.issueEntry_markedA (hone : (s.entry i).oneSlot = false) (ha : (s.entry i).markA ≠ .none)
    (hb : (s.entry i).markB = .none) :
    s.issueEntry i = (s.putEntry i (s.entry i).toRestoring).appendOrder i .connect (.one .b) := by
  simp [State.issueEntry, State.appendConnect, hone, ha, hb]

theorem State.issueEntry_marked (ha : (s.entry i).markA ≠ .none) (hb : (s.entry i).markB ≠ .none) :
    s.issueEntry i = s.putEntry i (s.entry i).toRestoring := by
  simp [State.issueEntry, State.appendConnect, ha, hb]

theorem exec_issue (hp : s.por = false) (hw : s.issueWinner = some i) (hm : s.mayIssue = true) {t : State}
    (ht : s.issueEntry i = t) : exec .issue s = .next (s.judged t) := by
  change execIssue s = _
  simp only [execIssue, hw]
  exact State.event_eq hp hm ht

theorem exec_issue_none (h : s.issueWinner = none ∨ s.mayIssue = false) : exec .issue s = .next s := by
  change execIssue s = _
  cases hw : s.issueWinner with
  | none =>
    simp only [execIssue, hw]
    exact State.event_of_not rfl
  | some i =>
    simp only [execIssue, hw]
    exact State.event_of_not (h.resolve_left (by simp [hw]))

end

/-- Settles O50: the winner by class and age, then the entry by its marks. -/
theorem issueTakesTheBestEligibleEntry : Obligations.IssueTakesTheBestEligibleEntry := by
  intro s hp eligible
  have hiff (i : EntryNo) : eligible i ↔ i ∈ s.circuits.ageList ∧ s.eligible (s.entry i) = true :=
    and_congr_right fun _ => State.eligible_iff.symm
  refine ⟨fun i hi hphase hroom hbest => ?_, fun h => exec_issue_none ?_⟩
  · obtain ⟨hmem, hel⟩ := (hiff i).mp hi
    have hw : s.issueWinner = some i :=
      State.issueWinner_of_best hmem hel fun j hj h => hbest j ((hiff j).mpr ⟨hj, h⟩)
    have hm := State.mayIssue_iff.mpr ⟨hphase, hroom⟩
    exact ⟨fun ha hb => exec_issue hp hw hm (State.issueEntry_unmarked ha hb),
      fun hone ha hb => exec_issue hp hw hm (State.issueEntry_markedB hone ha hb),
      fun hone ha hb => exec_issue hp hw hm (State.issueEntry_markedA hone ha hb),
      fun ha hb => exec_issue hp hw hm (State.issueEntry_marked ha hb)⟩
  · rcases h with h | h
    · exact .inl (State.issueWinner_none fun i hi => Bool.eq_false_iff.mpr fun hel => h i ((hiff i).mpr ⟨hi, hel⟩))
    · refine .inr (Bool.eq_false_iff.mpr fun hm => ?_)
      obtain ⟨hphase, hroom⟩ := State.mayIssue_iff.mp hm
      exact h.elim hphase (Nat.not_le.mpr hroom)

/-! ## The class barriers -/

section
variable {s : State}

theorem State.endpointGone_iff {p : Endpoint} : s.endpointGone p = true ↔
    s.endpointState p ∈ [some SlotState.empty, some .failed, some .mismatch, some .offline] := by
  unfold State.endpointGone
  cases s.endpointState p with
  | none => simp
  | some st => cases st <;> simp [SlotState.gone]

theorem State.holdsBarrier_iff {c : Nat} {e : Entry} : s.holdsBarrier c e = true ↔ e.fields.cls.toNat < c ∧
    (e.state = .restoring ∨ (e.state = .waiting ∧ e.fields.cls ≤ s.path.captured.restoreFloor ∧
      s.endpointGone e.fields.a = false ∧ s.endpointGone e.fields.b = false)) := by
  simp [State.holdsBarrier, State.withinFloor, and_assoc]

theorem State.drainedNow_iff : s.drainedNow = true ↔ s.restore.phase = .recovering ∧ s.restore.lowestClosed < 4 ∧
    ∀ p ∈ s.circuits.entries, s.holdsBarrier s.restore.lowestClosed p.2 = false := by
  simp [State.drainedNow, and_assoc]

/-- An opening, as the record and the engine show it. -/
theorem State.openBarrier_eq (s : State) (cause : BitVec 8) : s.openBarrier cause =
    State.raise { s with restore := { s.restore with
        lowestClosed := s.restore.lowestClosed + 1,
        timer := if s.restore.lowestClosed + 1 ≤ 3 then some (s.supply.clock + s.path.captured.barrierTime.setWidth 32)
          else none } }
      ⟨.barrierOpen, none, cause, some (BitVec.ofNat 2 s.restore.lowestClosed), none, s.supply.episode, s.supply.clock,
        0#16 ++ cause ++ BitVec.ofNat 8 s.restore.lowestClosed⟩ := by
  simp only [State.openBarrier, State.barrierTimer, startTimer_field]
  rfl

end

/-- Settles O51: an opening stands exactly by the conditions of its row, and each notice writes the engine. -/
theorem barriersFollowNoticesAndOpenings : Obligations.BarriersFollowNoticesAndOpenings := by
  refine ⟨fun s hp hphase hlow => ?_, fun s h => ?_, fun s hp => ?_⟩
  · intro c opens lost holds
    have hholds (e : Entry) : holds e ↔ s.holdsBarrier c e = true := by
      simp only [holds, lost, ← State.endpointGone_iff, State.holdsBarrier_iff, Bool.not_eq_true]
    refine ⟨fun hnone => ?_, fun hsome => ?_, fun e ht hdue => ?_, fun ht => ?_⟩
    · exact State.event_eq hp (State.drainedNow_iff.mpr ⟨hphase, hlow, fun p hmem =>
        Bool.eq_false_iff.mpr fun h => hnone p hmem ((hholds p.2).mpr h)⟩) (s.openBarrier_eq 1#8)
    · obtain ⟨p, hmem, h⟩ := hsome
      refine State.event_of_not (Bool.eq_false_iff.mpr fun hd => ?_)
      obtain ⟨-, -, hall⟩ := State.drainedNow_iff.mp hd
      exact absurd ((hholds p.2).mp h) (by rw [hall p hmem]; decide)
    · have htimer : timerDue s.clock s.restore.timer = true := by rw [ht]; exact hdue
      exact State.event_eq hp (State.barrierDue_iff.mpr ⟨hphase, hlow, htimer⟩) (s.openBarrier_eq 2#8)
    · refine State.event_of_not (Bool.eq_false_iff.mpr fun hd => ?_)
      obtain ⟨-, -, htimer⟩ := State.barrierDue_iff.mp hd
      rw [ht] at htimer
      cases htimer
  · have hout : ¬(s.restore.phase = .recovering ∧ s.restore.lowestClosed < 4) := fun ⟨hphase, hlow⟩ =>
      h.elim (absurd hphase) (Nat.not_le.mpr hlow)
    constructor
    · refine State.event_of_not (Bool.eq_false_iff.mpr fun hd => ?_)
      obtain ⟨hphase, hlow, -⟩ := State.drainedNow_iff.mp hd
      exact hout ⟨hphase, hlow⟩
    · refine State.event_of_not (Bool.eq_false_iff.mpr fun hd => ?_)
      obtain ⟨hphase, hlow, -⟩ := State.barrierDue_iff.mp hd
      exact hout ⟨hphase, hlow⟩
  · refine ⟨fun h => ?_, fun cls h => ?_, fun h => ?_⟩
    · exact State.event_eq hp (beq_iff_eq.mpr h) rfl
    · change execRecoverNoticeRestore s = _
      have hnotice : s.restoreNotice = some (.recover cls) := h
      simp only [execRecoverNoticeRestore, hnotice]
      refine State.event_eq hp rfl ?_
      by_cases hz : s.path.captured.barrierTime = 0#16
      · simp only [State.recoverRestore, hz, if_true]
        rfl
      · simp only [State.recoverRestore, hz, if_false, State.barrierTimer, startTimer_field]
        rfl
    · exact State.event_eq hp (beq_iff_eq.mpr h) rfl

end Sys2Proof.Machine
end

section
/-! The store port: journal words and the attention line (R162, R166, R167), plain accesses and the choice between the
two (R129, R139). -/

namespace Sys2Proof.Machine

/-! ## A word in the store -/

/-- Where the bytes of a written word lie in the store, and that no other byte moves. -/
structure Memory.Holds (m m' : List Host.Cell) (a : Nat) (w : Word) (enables : ByteEnables) : Prop where
  outside : ∀ x, x < a ∨ a + 4 ≤ x → Memory.readByte m' x = Memory.readByte m x
  inside : ∀ k, k < 4 → Memory.readByte m' (a + k) =
    if enables.getLsbD k = true then some (w.extractLsb' (8 * k) 8) else Memory.readByte m (a + k)

theorem Memory.writeWord_holds (m : List Host.Cell) (a : Nat) (w : Word) (enables : ByteEnables) :
    Memory.Holds m (Memory.writeWord m a w enables) a w enables where
  outside x hx := Memory.readByte_writeWord_of_outside m a x w enables hx
  inside k hk := by
    split
    · rename_i he
      exact Memory.readByte_writeWord_of_enabled m a k w enables hk he
    · rename_i he
      unfold Memory.writeWord
      simp only [List.foldl, Memory.readByte_writeLane]
      rcases (by omega : k = 0 ∨ k = 1 ∨ k = 2 ∨ k = 3) with rfl | rfl | rfl | rfl <;> simp_all

/-- Byte k of a word read. -/
theorem Memory.readWord_byte (m : List Host.Cell) (a : Nat) (returned : Word) {k : Nat} (hk : k < 4) :
    (Memory.readWord m a returned).extractLsb' (8 * k) 8 =
      (Memory.readByte m (a + k)).getD (returned.extractLsb' (8 * k) 8) := by
  obtain rfl | rfl | rfl | rfl : k = 0 ∨ k = 1 ∨ k = 2 ∨ k = 3 := by omega
  · exact field_low
  · exact field_above field_low
  · exact field_above (field_above field_low)
  · exact field_above (field_above (field_above BitVec.extractLsb'_eq_self))

/-! ## A journal word stored -/

section
variable {s : State} {a : WordAddr} {d : Word}

theorem exec_journalWordDone {live : Bool} (hp : s.por = false) (hs : s.path.store = .journal a d live) :
    exec .journalWordDone s = .next (s.judged (s.storeJournal a d live)) := by
  change execJournalWordDone s = _
  simp only [execJournalWordDone, hs]
  exact State.event_of hp rfl

/-- J0 to J2 are each followed by the next word. -/
theorem Journal.wordDone_next {j : Journal} {k : Fin 4} (h : j.word = some k) (hk : k < 3) :
    j.wordDone = { j with word := some (k + 1) } := by
  obtain rfl | rfl | rfl : k = 0 ∨ k = 1 ∨ k = 2 := by omega
  all_goals
    simp only [Journal.wordDone, h]
    rfl

/-- J3 ends the record. -/
theorem Journal.wordDone_last {j : Journal} (h : j.word = some 3) : j.wordDone = { j with
    head := j.head + 1#8, records := j.records.tail, word := if j.records.tail = [] then none else some 0 } := by
  simp only [Journal.wordDone, h, List.isEmpty_iff]

/-- The store and the journal after a word write has completed. -/
theorem State.storeJournal_journal (s : State) (a : WordAddr) (d : Word) (live : Bool) :
    (s.storeJournal a d live).journal =
    if live then { s.journal.wordDone with
      attention := s.path.captured.attentionEnable && s.journal.wordDone.head != s.journal.wordDone.tail }
    else s.journal := by
  cases live <;> rfl

theorem State.storeJournal_frame (s : State) (a : WordAddr) (d : Word) (live : Bool) : s.storeJournal a d live =
    { s with
      memory := Memory.writeWord s.memory (4 * a.toNat) d 15#4, journal := (s.storeJournal a d live).journal,
      path := { s.path with store := .idle } } := by
  cases live <;> rfl

end

/-- Settles O53: the word in the store, then the journal by the word in progress, and the attention line. -/
theorem journalWordsAndAttention : Obligations.JournalWordsAndAttention := by
  refine ⟨fun a d live s hp hs => ?_, fun enable s h => ?_⟩
  · obtain ⟨houtside, hinside⟩ := Memory.writeWord_holds s.memory (4 * a.toNat) d 15#4
    have hjournal := s.storeJournal_journal a d live
    refine ⟨s.storeJournal a d live, exec_journalWordDone hp hs, ?_⟩
    rw [s.storeJournal_frame a d live]
    refine ⟨houtside, fun k hk => (hinside k hk).trans (if_pos ?_), rfl, fun hl => ?_, fun k hl hw hk => ?_,
      fun hl hw => ?_⟩
    · obtain rfl | rfl | rfl | rfl : k = 0 ∨ k = 1 ∨ k = 2 ∨ k = 3 := by omega
      all_goals decide
    · exact hjournal.trans (by rw [hl]; rfl)
    · exact hjournal.trans (by rw [hl, if_pos rfl, Journal.wordDone_next hw hk])
    · exact hjournal.trans (by rw [hl, if_pos rfl, Journal.wordDone_last hw])
  · exact State.cycle_eq h rfl

/-! ## Plain accesses -/

theorem ringWordAddr_toNat (area : BitVec 6) (p : BitVec 8) (k : Fin 4) :
    4 * (ringWordAddr area p k).toNat = 262144 * area.toNat + 0x9000 + 16 * p.toNat + 4 * k.val := by
  have harea := area.isLt
  have hp := p.isLt
  have hbase : ringAddress area p k = 262144 * area.toNat + 0x9000 + 16 * p.toNat + 4 * k.val := by
    rw [ringAddress, areaBase, Nat.mul_comm area.toNat]
    rfl
  rw [ringWordAddr, hbase, BitVec.toNat_ofNat]
  omega

section
variable {s : State}

theorem State.journalWrite_some {p : PendingRecord} {rest : List PendingRecord} {k : Fin 4}
    (hr : s.journal.records = p :: rest) (hw : s.journal.word = some k) :
    s.journalWrite = some (ringWordAddr s.path.area p.position k, p.record.word k) := by
  simp only [State.journalWrite, hr, hw]

theorem State.journalWrite_none (hw : s.journal.word = none) : s.journalWrite = none := by
  unfold State.journalWrite
  rw [hw]
  cases s.journal.records <;> rfl

theorem State.arbitrate_plain {c : PlainCycle} (hc : s.path.ctrl = .plainWaiting c) :
    s.arbitrate = s.serveController c := by
  simp only [State.arbitrate, hc]

theorem State.arbitrate_journal {a : WordAddr} {d : Word} (hc : ∀ c, s.path.ctrl ≠ .plainWaiting c)
    (hw : s.journalWrite = some (a, d)) : s.arbitrate = s.serveJournal a d := by
  cases h : s.path.ctrl with
  | plainWaiting c => exact absurd h (hc c)
  | _ => simp only [State.arbitrate, h, hw]

theorem State.arbitrate_none (hc : ∀ c, s.path.ctrl ≠ .plainWaiting c) (hw : s.journalWrite = none) :
    s.arbitrate = s := by
  cases h : s.path.ctrl with
  | plainWaiting c => exact absurd h (hc c)
  | _ => simp only [State.arbitrate, h, hw]

theorem exec_plainAccessDone {c : PlainCycle} {claimed : Bool} (hp : s.por = false)
    (hs : s.path.store = .controller c claimed) (word : Word) :
    exec (.plainAccessDone word) s = .next (s.judged (s.completePlain c claimed word)) := by
  change execPlainAccessDone word s = _
  simp only [execPlainAccessDone, hs]
  exact State.event_of hp rfl

end

/-- Settles O55: an access opened, served by the free port before a journal word, and answered by the store. -/
theorem plainAccessesReachTheStore : Obligations.PlainAccessesReachTheStore := by
  refine ⟨ringWordAddr_toNat, fun addr access enables s h hplain => ?_, fun s hp hs => ⟨fun c hc => ?_,
    fun p rest k hc hr hw => ?_, fun hc hw => ?_⟩, fun s hs => ?_, fun addr data word enables claimed s hp hs => ?_,
    fun addr word enables claimed s hp hs => ?_⟩
  · obtain ⟨hp, -⟩ := id h
    exact State.event_eq hp (by rw [State.takesCycle_iff.mpr h, hplain]; rfl) rfl
  · exact State.event_eq hp (beq_iff_eq.mpr hs) (State.arbitrate_plain hc)
  · exact State.event_eq hp (beq_iff_eq.mpr hs) (State.arbitrate_journal hc (State.journalWrite_some hr hw))
  · exact State.event_eq hp (beq_iff_eq.mpr hs) (State.arbitrate_none hc (State.journalWrite_none hw))
  · exact State.event_of_not (beq_false_of_ne hs)
  · obtain ⟨houtside, hinside⟩ := Memory.writeWord_holds s.memory (4 * addr.toNat) data enables
    refine ⟨_, exec_plainAccessDone hp hs word, ?_⟩
    cases claimed with
    | false => exact ⟨houtside, hinside, rfl⟩
    | true => exact ⟨houtside, hinside, rfl⟩
  · refine ⟨_, exec_plainAccessDone hp hs word, ?_⟩
    cases claimed with
    | false => exact ⟨rfl, fun _ => rfl, nofun⟩
    | true => exact ⟨rfl, nofun, fun _ => ⟨_, rfl, fun k hk => Memory.readWord_byte _ _ _ hk⟩⟩

end Sys2Proof.Machine
end

section
/-! Window accesses: offered, refused at once or waiting (R134, R136, R137), and what the result of a register exchange
does to the cycle (R83, R135, R138). -/

namespace Sys2Proof.Machine

/-! ## A window access at the controller port -/

section
variable {s : State} {n : SlotNo} {op : RegisterOp} {index : BitVec 10}

theorem State.offerWindow_linked (h : (s.slot n).state = .linked) :
    s.offerWindow n op index = s.takeWindow n op index :=
  if_pos (State.linked_iff.mpr h)

theorem State.offerWindow_away (h : (s.slot n).state ≠ .linked) :
    s.offerWindow n op index = s.answered (failedAnswer op) := if_neg (mt State.linked_iff.mp h)

theorem State.accessWindow_clear (h : s.path.marker = false) : s.accessWindow n op index = s.offerWindow n op index :=
  if_neg (by rw [h]; decide)

theorem State.accessWindow_set (h : s.path.marker = true) : s.accessWindow n op index = s.deferWindow n op index :=
  if_pos h

theorem exec_windowRead (h : s.PortFree) :
    exec (.windowRead n index) s = .next (s.judged (s.accessWindow n .read index)) :=
  State.event_of h.1 (State.takesCycle_iff.mpr h)

theorem exec_windowWrite {data : Word} {mask : ByteEnables} (h : s.PortFree) :
    exec (.windowWrite n index data mask) s = .next (s.judged (s.accessWindow n (.write data mask) index)) :=
  State.event_of h.1 (State.takesCycle_iff.mpr h)

theorem execDeferredWindowOffer_eq (h : s.path.ctrl = .windowDeferred n op index) :
    exec .deferredWindowOffer s = s.event (!s.path.marker) (s.offerWindow n op index) := by
  change execDeferredWindowOffer s = _
  simp only [execDeferredWindowOffer, h]

theorem exec_deferredWindowOffer (hp : s.por = false) (h : s.path.ctrl = .windowDeferred n op index)
    (hm : s.path.marker = false) :
    exec .deferredWindowOffer s = .next (s.judged (s.offerWindow n op index)) :=
  (execDeferredWindowOffer_eq h).trans (State.event_of hp (by rw [hm]; rfl))

theorem exec_deferredWindowOffer_waits (h : s.path.ctrl = .windowDeferred n op index) (hm : s.path.marker = true) :
    exec .deferredWindowOffer s = .next s :=
  (execDeferredWindowOffer_eq h).trans (State.event_of_not (by rw [hm]; rfl))

end

/-- Settles O56: an access of the port by the marker, a deferred one by the slot when the marker has cleared. -/
theorem windowAccessesAreOfferedOrWait : Obligations.WindowAccessesAreOfferedOrWait := by
  intro n index op c s hc taken
  have hoffers (hm : s.path.marker = false) : exec c s = .next (s.judged (s.offerWindow n op index)) := by
    rcases hc with ⟨rfl, rfl, h⟩ | ⟨data, mask, rfl, rfl, h⟩ | ⟨rfl, hctrl, hp⟩
    · rw [exec_windowRead h, State.accessWindow_clear hm]
    · rw [exec_windowWrite h, State.accessWindow_clear hm]
    · exact exec_deferredWindowOffer hp hctrl hm
  refine ⟨fun hm hl => ?_, fun hm hl => ?_, fun hm hd => ?_, fun hm hd => ?_⟩
  · rw [hoffers hm, State.offerWindow_linked hl]
    rfl
  · rw [hoffers hm, State.offerWindow_away hl]
    cases op <;> rfl
  · rcases hc with ⟨rfl, -⟩ | ⟨data, mask, rfl, -⟩ | ⟨-, hctrl, -⟩
    · cases hd
    · cases hd
    · rw [hd]
      exact exec_deferredWindowOffer_waits hctrl hm
  · rcases hc with ⟨rfl, rfl, h⟩ | ⟨data, mask, rfl, rfl, h⟩ | ⟨rfl, -⟩
    · rw [exec_windowRead h, State.accessWindow_set hm]
      rfl
    · rw [exec_windowWrite h, State.accessWindow_set hm]
      rfl
    · exact absurd rfl hd

/-! ## The result of a register exchange -/

section
variable {s : State} {n : SlotNo} {x : Exchange} {w : WindowRequest}

theorem State.windowReply_of {c : FrameContent} (hx : s.InFlight n x) (hwork : x.work = .register w.op w.index)
    (hw : (s.link n).window = some w) (hc : completes (.register w.op w.index) c = true) :
    s.windowReply n x.tag c = some w := by
  have hx : (s.link n).exchange = some x := hx
  simp [State.windowReply, LinkUnit.takesReply, hx, hwork, hw, hc]

theorem State.windowTimeout_of (hx : s.InFlight n x) (hwork : x.work = .register w.op w.index)
    (hw : (s.link n).window = some w) (ht : s.supply.microReached x.expiry = true) : s.windowTimeout n = some w := by
  have hx : (s.link n).exchange = some x := hx
  simp [State.windowTimeout, State.exchangeExpired, hx, hwork, hw, ht]

/-- The link freed of its exchange and its window request. -/
def State.freeWindow (s : State) (n : SlotNo) : State :=
  s.setLink n { s.link n with exchange := none, window := none }

/-- The cycle ended by an answer, for a claimed request; the marker cleared for any. -/
def State.endCycle (s : State) (w : WindowRequest) (a : CycleAnswer) : State :=
  { s with path := if w.claimed = true then { s.path with marker := false, ctrl := .idle, answer := a }
    else { s.path with marker := false } }

theorem State.endWindow_eq (s : State) (n : SlotNo) (w : WindowRequest) (a : CycleAnswer) :
    s.endWindow n w a = (s.freeWindow n).endCycle w a := by
  cases hc : w.claimed <;> simp only [State.endWindow, State.endCycle, hc] <;> rfl

/-- WINDOW_FAULT for a claimed request. -/
def State.faultWindow (s : State) (n : SlotNo) (w : WindowRequest) (reason : BitVec 8) (t : State) : State :=
  if w.claimed = true then t.raise ⟨.windowFault, some n, reason, none, none, s.supply.episode, s.supply.clock,
    0#4 ++ w.index ++ 0#2 ++ 0#8 ++ reason⟩ else t

theorem State.failWindow_eq (s : State) (n : SlotNo) (w : WindowRequest) (reason : BitVec 8) :
    s.failWindow n w reason = (s.faultWindow n w reason (s.freeWindow n)).endCycle w (failedAnswer w.op) := by
  rw [State.failWindow, State.endWindow_eq]
  refine congrArg (State.endCycle · w _) ?_
  cases hc : w.claimed <;> simp only [State.raiseWindowFault, State.faultWindow, hc] <;> rfl

end

/-- Settles O57: the request the result is of, then the end of its cycle. -/
theorem registerResultsEndTheWindowCycle : Obligations.RegisterResultsEndTheWindowCycle := by
  intro n s x w hp hx hw hwork freed ends failed faulted
  have hfailed : failedAnswer w.op = failed := by cases hop : w.op <;> simp only [failed, hop] <;> rfl
  refine ⟨fun data hop => ?_, fun d m hop => ?_, fun reason => ?_, fun ht => ?_⟩
  · change execRegisterDataReply n x.tag data s = _
    rw [execRegisterDataReply, State.windowReply_of hx hwork hw (by rw [hop]; rfl)]
    exact State.event_eq hp rfl (s.endWindow_eq n w _)
  · change execRegisterWriteDone n x.tag s = _
    rw [execRegisterWriteDone, State.windowReply_of hx hwork hw (by rw [hop]; rfl)]
    exact State.event_eq hp rfl (s.endWindow_eq n w _)
  · change execRegisterRefusal n x.tag reason s = _
    rw [execRegisterRefusal, State.windowReply_of hx hwork hw (by cases w.op <;> rfl)]
    exact State.event_eq hp rfl ((s.failWindow_eq n w _).trans (by rw [hfailed]; rfl))
  · change execRegisterTimeout n s = _
    rw [execRegisterTimeout, State.windowTimeout_of hx hwork hw ht]
    exact State.event_eq hp rfl ((s.failWindow_eq n w _).trans (by rw [hfailed]; rfl))

end Sys2Proof.Machine
end

section
/-! Writes of settable words: the byte merge, the captured fields (R131, R143), and the requests that a write hands on
(R91, R132, R133). -/

namespace Sys2Proof.Machine

/-! ## The byte merge -/

theorem extractLsb'_not_of_le {w start len : Nat} {x : BitVec w} (h : start + len ≤ w) :
    (~~~x).extractLsb' start len = ~~~x.extractLsb' start len := by
  ext i hi
  simp
  omega

theorem enableMask_byte (enables : ByteEnables) (k : Fin 4) :
    (enableMask enables).extractLsb' (8 * k.val) 8 = byteMask enables k.val := by
  obtain rfl | rfl | rfl | rfl : k = 0 ∨ k = 1 ∨ k = 2 ∨ k = 3 := by omega
  · exact field_low
  · exact field_above field_low
  · exact field_above (field_above field_low)
  · exact field_above (field_above (field_above BitVec.extractLsb'_eq_self))

/-- R131 step 1, byte by byte. -/
theorem mergeBytes_byte (w data : Word) (enables : ByteEnables) (k : Fin 4) :
    (mergeBytes w data enables).extractLsb' (8 * k.val) 8 =
      if enables.getLsbD k.val = true then data.extractLsb' (8 * k.val) 8 else w.extractLsb' (8 * k.val) 8 := by
  rw [mergeBytes, BitVec.extractLsb'_or, BitVec.extractLsb'_and, BitVec.extractLsb'_and,
    extractLsb'_not_of_le (by omega), enableMask_byte, byteMask]
  split
  · exact (congrArg₂ _ BitVec.and_allOnes BitVec.and_zero).trans BitVec.or_zero
  · exact (congrArg₂ _ BitVec.and_zero BitVec.and_allOnes).trans BitVec.zero_or

/-- The attention enable of a merged CW0: bit 0 of byte 1. -/
theorem mergeBytes_attention (c : Captured) (data : Word) (enables : ByteEnables) :
    (mergeBytes c.cw0 data enables).getLsbD 8 =
      if enables.getLsbD 1 = true then data.getLsbD 8 else c.attentionEnable := by
  have hbit (w : Word) : w.getLsbD 8 = (w.extractLsb' 8 8).getLsbD 0 := by simp
  have hcw0 : c.cw0.getLsbD 8 = c.attentionEnable := by
    have hfield := congrArg (BitVec.getLsbD · 0) c.cw0_fields.1
    simpa using hfield
  have hbyte : (mergeBytes c.cw0 data enables).extractLsb' 8 8 =
      if enables.getLsbD 1 = true then data.extractLsb' 8 8 else c.cw0.extractLsb' 8 8 := mergeBytes_byte _ _ _ 1
  rw [hbit, hbyte]
  split
  · exact (hbit data).symm
  · exact (hbit c.cw0).symm.trans hcw0

/-! ## A request handed on -/

section
variable {s u : State}

/-- A judgement reads of the state before the command no more than its shelf, slot states, entries and floor. -/
theorem State.judged_congr (hsupply : u.supply = s.supply) (hslots : u.slots = s.slots)
    (hcircuits : u.circuits = s.circuits)
    (hfloor : u.path.captured.restoreFloor = s.path.captured.restoreFloor) (t : State) : u.judged t = s.judged t := by
  simp only [State.judged, State.judgeFloor, State.judgeRecovery, State.inputsChanged, State.floorChanged, hsupply,
    hslots, hcircuits, hfloor]

theorem State.slotRequest_none {n : SlotNo} {code : Byte} (h : code = 0#8 ∨ 5#8 ≤ code) : s.slotRequest n code = s := by
  have hne (c : Byte) (hpos : 0#8 < c) (hlt : c < 5#8) : code ≠ c := by
    rintro rfl
    rcases h with h | h
    · exact BitVec.lt_irrefl _ (h ▸ hpos)
    · exact BitVec.not_le.mpr hlt h
  rw [State.slotRequest, if_neg (hne 1#8 (by decide) (by decide)), if_neg (hne 2#8 (by decide) (by decide)),
    if_neg (hne 3#8 (by decide) (by decide)), if_neg (hne 4#8 (by decide) (by decide))]

theorem State.shelfRequest_none {code : Byte} (h : code = 0#8 ∨ 3#8 ≤ code) : s.shelfRequest code = s := by
  have hne (c : Byte) (hpos : 0#8 < c) (hlt : c < 3#8) : code ≠ c := by
    rintro rfl
    rcases h with h | h
    · exact BitVec.lt_irrefl _ (h ▸ hpos)
    · exact BitVec.not_le.mpr hlt h
  rw [State.shelfRequest, if_neg (hne 1#8 (by decide) (by decide)), if_neg (hne 2#8 (by decide) (by decide))]

variable {data : Word} {enables : ByteEnables}

/-- The state in which the request of a CW0 write is handed on: the attention enable captured, its output following. -/
def State.cw0Captured (s : State) (data : Word) (enables : ByteEnables) : State :=
  s.enableAttention (if enables.getLsbD 1 = true then data.getLsbD 8 else s.path.captured.attentionEnable)

theorem State.writeCw0_eq (s : State) (data : Word) (enables : ByteEnables) : s.writeCw0 data enables =
    if enables.getLsbD 0 = true then (s.cw0Captured data enables).shelfRequest (data.setWidth 8)
    else s.cw0Captured data enables := by
  unfold State.writeCw0
  rw [mergeBytes_attention]
  rfl

theorem State.writeCw0_none (h : enables.getLsbD 0 = false ∨ data.setWidth 8 = 0#8 ∨ 3#8 ≤ data.setWidth 8) :
    s.writeCw0 data enables = s.cw0Captured data enables := by
  rw [State.writeCw0_eq]
  split
  · rename_i he
    exact State.shelfRequest_none (h.resolve_left (by rw [he]; decide))
  · rfl

/-- The enable as it is already, with the output as it already follows. -/
theorem State.cw0Captured_same (hj : JournalOk s) (hp : s.por = false) (he : enables.getLsbD 1 = false) :
    s.cw0Captured data enables = s := by
  have hat : (s.path.captured.attentionEnable && s.journal.head != s.journal.tail) = s.journal.attention := by
    rw [hj.attention, hp]
    rfl
  unfold State.cw0Captured
  rw [if_neg (by rw [he]; decide)]
  unfold State.enableAttention State.capture State.driveAttention
  dsimp only
  rw [hat]

theorem State.cw0Captured_portFree (h : s.PortFree) : (s.cw0Captured data enables).PortFree := h

/-- The shelf request of a CW0 write has the effect of its own row, taken once the enable is captured. -/
theorem exec_cw0_request {c : Instr} {f : State → State} (h : s.PortFree)
    (hc : exec c (s.cw0Captured data enables) = (s.cw0Captured data enables).cycle (f (s.cw0Captured data enables)))
    (hw : s.writeCw0 data enables = f (s.cw0Captured data enables)) :
    exec (.settableWordWrite (.cw 0) data enables) s = exec c (s.cw0Captured data enables) := by
  have hwrite : exec (.settableWordWrite (.cw 0) data enables) s = s.cycle (s.writeCw0 data enables) := rfl
  rw [hc, hwrite, hw, State.cycle_of h, State.cycle_of (State.cw0Captured_portFree h)]
  exact congrArg Host.Outcome.next (State.judged_congr rfl rfl rfl rfl _).symm

theorem exec_sl1 {n : SlotNo} (he : enables.getLsbD 0 = true) :
    exec (.settableWordWrite (.sl1 n) data enables) s = s.cycle (s.slotRequest n (data.setWidth 8)) :=
  congrArg s.cycle (if_pos he)

end

/-- Settles O58: each word by the fields it captures, each request by the row it is handed on to. -/
theorem settableWordsMergeAndClamp : Obligations.SettableWordsMergeAndClamp := by
  intro data enables s h
  obtain ⟨hp, -⟩ := id h
  refine ⟨fun w k => mergeBytes_byte w data enables k, State.cycle_eq h rfl, State.cycle_eq h rfl, State.cycle_eq h rfl,
    State.cycle_eq h rfl, fun n => State.cycle_eq h rfl, fun k => State.cycle_eq h rfl, fun n k => State.cycle_eq h rfl,
    fun i => State.cycle_eq h rfl, fun n hn => State.cycle_eq h ?_, fun hn => State.cycle_eq h ?_,
    fun hj h1 h0 => State.cycle_eq h ?_, ⟨fun h0 => State.cycle_eq h ?_, fun h0 hc => ?_, fun h0 hc => ?_⟩,
      fun h0 => ?_,
    fun n => ?_, fun i => ⟨fun hc => ?_, fun hc => ?_, fun hc => ?_, fun hc => ?_⟩⟩
  · refine congrArg (State.answered · .written) (?_ : s.writeShadow (.sl1 n) data enables = s)
    unfold State.writeShadow
    dsimp only
    split
    · rename_i he
      exact State.slotRequest_none (hn.resolve_left (by rw [show enables.getLsbD 0 = true from he]; decide))
    · rfl
  · refine congrArg (State.answered · .written) (if_neg ?_)
    rw [byteEnabled, hn]
    decide
  · exact congrArg (State.answered · .written) ((State.writeCw0_none h0).trans (State.cw0Captured_same hj hp h1))
  · exact congrArg (State.answered · .written) (State.writeCw0_none h0)
  · exact exec_cw0_request (f := State.takeRelinkAll) h rfl (by rw [State.writeCw0_eq, if_pos h0, hc]; rfl)
  · exact exec_cw0_request (f := State.takeReleaseAll) h rfl (by rw [State.writeCw0_eq, if_pos h0, hc]; rfl)
  · exact congrArg s.cycle (if_pos h0)
  · intro write h0
    have hwrite := exec_sl1 (s := s) (n := n) (data := data) h0
    exact ⟨fun hc => hwrite.trans (by rw [hc]; rfl), fun hc => hwrite.trans (by rw [hc]; rfl),
      fun hc => hwrite.trans (by rw [hc]; rfl), fun hc => hwrite.trans (by rw [hc]; rfl)⟩
  all_goals
    refine congrArg s.cycle ?_
    change s.writeCircuit i data enables = _
    rw [State.writeCircuit, hc]
    rfl

end Sys2Proof.Machine
end

section
/-! Walks along the age list: an operation on one entry leaves what an operation on another reads, so each entry of a
walk is treated as if it were the only one. RELEASE_ALL (R96) is the first such walk. -/

namespace Sys2Proof.Machine

/-! ## What an operation on one entry reads -/

/-- The orders of an entry on the list of a Link Unit. -/
def LinkUnit.ordersOf (l : LinkUnit) (i : EntryNo) : List Order := l.orders.filter fun o => o.entry == i

/-- A withdrawal is answered by the orders of its entry alone. -/
theorem LinkUnit.withdrawAnswer_congr {l m : LinkUnit} {i : EntryNo} (h : m.ordersOf i = l.ordersOf i) (d : Ends) :
    m.withdrawAnswer i d = l.withdrawAnswer i d := by
  have hfind (k : LinkUnit) : k.orders.find? (fun o => o.isFor i d) = (k.ordersOf i).find? fun o => o.isFor i d := by
    rw [LinkUnit.ordersOf, List.find?_filter]
    refine congrArg (List.find? · k.orders) (funext fun o => ?_)
    rw [Bool.eq_iff_iff]
    simp [Order.isFor]
  rw [LinkUnit.withdrawAnswer, LinkUnit.withdrawAnswer, hfind, hfind, h]

/-- Two states that agree on what an operation on entry i reads: the entry, its orders, and the slots. -/
structure State.Agrees (i : EntryNo) (s t : State) : Prop where
  entry : t.entry i = s.entry i
  orders : ∀ n, (t.link n).ordersOf i = (s.link n).ordersOf i
  slots : t.slots = s.slots

/-- An operation on entry i leaves what an operation on any other entry reads. -/
structure State.LocalTo (i : EntryNo) (s t : State) : Prop where
  agrees : ∀ j, i ≠ j → s.Agrees j t

namespace State.Agrees

variable {i : EntryNo} {s t u : State}

theorem refl (i : EntryNo) (s : State) : s.Agrees i s := ⟨rfl, fun _ => rfl, rfl⟩

theorem trans (h : s.Agrees i t) (k : t.Agrees i u) : s.Agrees i u :=
  ⟨k.entry.trans h.entry, fun n => (k.orders n).trans (h.orders n), k.slots.trans h.slots⟩

theorem slot (h : s.Agrees i t) (n : SlotNo) : t.slot n = s.slot n := State.slot_congr h.slots n

theorem endpointLinked (h : s.Agrees i t) (p : Endpoint) : t.endpointLinked p = s.endpointLinked p := by
  simp only [State.endpointLinked, State.endpointState, h.slot]

theorem withdrawAnswer (h : s.Agrees i t) (d : Ends) : t.withdrawAnswer i d = s.withdrawAnswer i d := by
  rw [State.withdrawAnswer, State.withdrawAnswer, h.entry]
  split
  · exact LinkUnit.withdrawAnswer_congr (h.orders _) d
  · rfl

end State.Agrees

namespace State.LocalTo

variable {i : EntryNo} {s t u : State}

theorem refl (i : EntryNo) (s : State) : s.LocalTo i s := ⟨fun j _ => .refl j s⟩

theorem trans (h : s.LocalTo i t) (k : t.LocalTo i u) : s.LocalTo i u :=
  ⟨fun j hj => (h.agrees j hj).trans (k.agrees j hj)⟩

theorem putEntry (i : EntryNo) (s : State) (e : Entry) : s.LocalTo i (s.putEntry i e) :=
  ⟨fun j hj => ⟨by rw [State.entry_putEntry, if_neg hj], fun _ => rfl, rfl⟩⟩

theorem becomeIdle (i : EntryNo) (s : State) : s.LocalTo i (s.becomeIdle i) :=
  ⟨fun j hj => ⟨by rw [State.entry_becomeIdle, if_neg hj], fun _ => rfl, rfl⟩⟩

/-- A Link Unit written with the orders of every other entry kept. -/
theorem setLink {n : SlotNo} {l : LinkUnit} (h : ∀ j, i ≠ j → l.ordersOf j = (s.link n).ordersOf j) :
    s.LocalTo i (s.setLink n l) := by
  refine ⟨fun j hj => ⟨rfl, fun m => ?_, rfl⟩⟩
  rw [State.link_setLink]
  split
  · subst_vars
    exact h j hj
  · rfl

theorem addOrder (n : SlotNo) {o : Order} (ho : o.entry = i) : s.LocalTo i (s.addOrder n o) :=
  setLink fun j hj => by
    subst ho
    simp [LinkUnit.ordersOf, hj]

theorem withdraw (n : SlotNo) (d : Ends) : s.LocalTo i (s.setLink n ((s.link n).withdraw i d)) :=
  setLink fun j hj => by
    have herase (l : List Order) :
        (l.eraseP fun o => o.isFor i d).filter (fun o => o.entry == j) = l.filter fun o => o.entry == j := by
      induction l with
      | nil => rfl
      | cons o l ih =>
        by_cases ho : o.isFor i d = true
        · have hne : (o.entry == j) = false := by rw [(Order.isFor_iff.mp ho).1]; exact beq_false_of_ne hj
          rw [List.eraseP_cons_of_pos (p := fun o : Order => o.isFor i d) ho,
            List.filter_cons_of_neg (p := fun o : Order => o.entry == j) (by simp [hne])]
        · rw [List.eraseP_cons_of_neg (p := fun o : Order => o.isFor i d) ho, List.filter_cons, List.filter_cons, ih]
    unfold LinkUnit.ordersOf LinkUnit.withdraw
    dsimp only
    split
    · exact herase _
    · rfl

theorem settleReleasing (i : EntryNo) (s : State) : s.LocalTo i (s.settleReleasing i) := by
  unfold State.settleReleasing
  split
  · exact becomeIdle i s
  · exact refl i s

theorem handBack (n : SlotNo) {o : Order} (ho : o.entry = i) : s.LocalTo i (s.handBack n o) := by
  subst ho
  unfold State.handBack
  split
  · split
    · unfold State.connectDropped
      split
      · exact putEntry ..
      · exact refl ..
    · unfold State.releaseEnded
      split
      · exact (putEntry ..).trans (settleReleasing ..)
      · exact refl ..
  · exact refl ..

theorem appendOrder (s : State) (i : EntryNo) (k : OrderKind) (d : Ends) : s.LocalTo i (s.appendOrder i k d) := by
  unfold State.appendOrder State.appendTo
  split
  · split
    · exact addOrder _ rfl
    · exact handBack _ rfl
  · exact refl ..

theorem appendBoth (s : State) (i : EntryNo) (k : OrderKind) : s.LocalTo i (s.appendBoth i k) := by
  unfold State.appendBoth
  split
  · exact appendOrder ..
  · exact (appendOrder ..).trans (appendOrder ..)

theorem withdrawConnect (s : State) (i : EntryNo) (d : Ends) (m : Mark) : s.LocalTo i (s.withdrawConnect i d m) := by
  refine trans ?_ (putEntry ..)
  unfold State.withdrawOrder
  split
  · exact withdraw ..
  · exact refl ..

theorem undoJoin (s : State) (i : EntryNo) (x : Side) : s.LocalTo i (s.undoJoin i x) :=
  (putEntry ..).trans (appendOrder ..)

theorem applyRelease (s : State) (i : EntryNo) : s.LocalTo i (s.applyRelease i) := by
  unfold State.applyRelease
  dsimp only
  split
  case h_1 => exact refl ..
  case h_2 =>
    split
    · exact becomeIdle ..
    · exact putEntry ..
  case h_4 => exact (putEntry ..).trans (appendBoth ..)
  case h_6 =>
    split
    · exact becomeIdle ..
    · exact putEntry ..
  all_goals exact putEntry ..

theorem releaseOne (s : State) (i : EntryNo) : s.LocalTo i (s.releaseOne i) := (putEntry ..).trans (applyRelease ..)

end State.LocalTo

/-! ## The walk -/

section
variable {f : State → EntryNo → State} (hf : ∀ (s : State) i, s.LocalTo i (f s i))
include hf

theorem foldl_agrees {l : List EntryNo} {i : EntryNo} (hi : i ∉ l) (s : State) : s.Agrees i (l.foldl f s) := by
  induction l generalizing s with
  | nil => exact .refl i s
  | cons j l ih =>
    obtain ⟨hj, hi⟩ := not_or.mp (mt List.mem_cons.mpr hi)
    exact ((hf s j).agrees i (Ne.symm hj)).trans (ih hi _)

/-- An entry of the list ends as its own step leaves it, taken from a state that agrees on it. -/
theorem foldl_entry {l : List EntryNo} (hl : l.Nodup) {i : EntryNo} (hi : i ∈ l) (s : State) :
    ∃ u, s.Agrees i u ∧ (l.foldl f s).entry i = (f u i).entry i := by
  induction l generalizing s with
  | nil => cases hi
  | cons j l ih =>
    obtain ⟨hj, hl⟩ := List.nodup_cons.mp hl
    rcases List.mem_cons.mp hi with rfl | hi
    · exact ⟨s, .refl i s, (foldl_agrees hf hj _).entry⟩
    · have hne : j ≠ i := fun e => hj (e ▸ hi)
      obtain ⟨u, hu, he⟩ := ih hl hi (f s j)
      exact ⟨u, ((hf s j).agrees i hne).trans hu, he⟩

/-- A Link Unit collects what each step does to it. -/
theorem foldl_link {l : List EntryNo} (hl : l.Nodup) {m : SlotNo} {h : LinkUnit → EntryNo → LinkUnit} (s : State)
    (hstep : ∀ u, ∀ i ∈ l, s.Agrees i u → (f u i).link m = h (u.link m) i) :
    (l.foldl f s).link m = l.foldl h (s.link m) := by
  have main : ∀ v, (∀ i ∈ l, s.Agrees i v) → (l.foldl f v).link m = l.foldl h (v.link m) := by
    induction l with
    | nil => exact fun _ _ => rfl
    | cons j l ih =>
      obtain ⟨hj, hl⟩ := List.nodup_cons.mp hl
      intro v hv
      rw [List.foldl_cons, List.foldl_cons, ← hstep v j (List.mem_cons_self ..) (hv j (List.mem_cons_self ..))]
      refine ih hl (fun u i hi => hstep u i (List.mem_cons_of_mem _ hi)) _ fun i hi => ?_
      exact (hv i (List.mem_cons_of_mem _ hi)).trans ((hf v j).agrees i fun e => hj (e ▸ hi))
  exact main s fun i _ => .refl i s

end

end Sys2Proof.Machine
end

section
/-! RELEASE_ALL (R96): every entry outside IDLE released by its state, the release orders in the order of the age
list. -/

namespace Sys2Proof.Machine

/-! ## Release orders appended for one side -/

section
variable {s : State} {i : EntryNo} {e : Entry} {n : SlotNo}

/-- An order names its entry on the slot of its endpoints. -/
theorem Entry.order_namesOn {d : Ends} (i : EntryNo) (k : OrderKind) (hn : (e.endpoint d.lead).slot.toNat = n.val)
    (hone : d = .both → e.oneSlot = true) : (e.order i k d).NamesOn n e := by
  cases d with
  | one x => exact ⟨hn, rfl⟩
  | both =>
    have hab : e.fields.a.slot = e.fields.b.slot := by simpa [Entry.oneSlot] using hone rfl
    exact ⟨hn, rfl, hab ▸ hn, rfl⟩

theorem State.endpointLinked_iff {p : Endpoint} (hn : p.slot.toNat = n.val) :
    s.endpointLinked p = true ↔ (s.slot n).state = .linked := by
  simp [State.endpointLinked, State.endpointState, slotOf_eq.mpr hn]

/-- The fields of an entry are kept by a release that ends. -/
theorem State.releaseEnded_fields (s : State) (i : EntryNo) (d : Ends) (j : EntryNo) :
    ((s.releaseEnded i d).entry j).fields = (s.entry j).fields := by
  have hsettle (t : State) : ((t.settleReleasing i).entry j).fields = (t.entry j).fields := by
    unfold State.settleReleasing
    split
    · rw [State.entry_becomeIdle]
      split
      · subst_vars
        rfl
      · rfl
    · rfl
  unfold State.releaseEnded
  split
  · rw [hsettle, State.entry_putEntry]
    split
    · subst_vars
      cases d <;> simp [Ends.sides]
    · rfl
  · rfl

theorem State.appendRelease_fields (s : State) (i : EntryNo) (d : Ends) (j : EntryNo) :
    ((s.appendOrder i .release d).entry j).fields = (s.entry j).fields := by
  unfold State.appendOrder State.appendTo
  split
  · split
    · rfl
    · unfold State.handBack
      split
      · exact s.releaseEnded_fields i d j
      · rfl
  · rfl

end

/-- The list of a Link Unit with orders at its tail. -/
def LinkUnit.append (l : LinkUnit) (os : List Order) : LinkUnit := { l with orders := l.orders ++ os }

theorem LinkUnit.append_nil (l : LinkUnit) : l.append [] = l := by simp [LinkUnit.append]

theorem LinkUnit.append_append (l : LinkUnit) (os ps : List Order) : (l.append os).append ps = l.append (os ++ ps) := by
  simp [LinkUnit.append]

theorem LinkUnit.foldl_append {α : Type} (l : LinkUnit) (f : α → List Order) (is : List α) :
    is.foldl (fun l i => l.append (f i)) l = l.append (is.flatMap f) := by
  induction is generalizing l with
  | nil => exact l.append_nil.symm
  | cons i is ih => rw [List.foldl_cons, ih, LinkUnit.append_append, List.flatMap_cons]

section
variable {s : State} {i : EntryNo}

/-- An order joins the list of the slot of its endpoint, where that is LINKED, and no other. -/
theorem State.link_appendOrder (s : State) (i : EntryNo) (k : OrderKind) (d : Ends) (m : SlotNo) :
    (s.appendOrder i k d).link m = (s.link m).append
      (if ((s.entry i).endpoint d.lead).slot.toNat = m.val ∧ (s.slot m).state = .linked then
        [(s.entry i).order i k d] else []) := by
  unfold State.appendOrder State.appendTo
  split
  · rename_i n hn
    have hn := slotOf_eq.mp hn
    by_cases hm : n = m
    · subst hm
      by_cases hl : (s.slot n).state = .linked
      · rw [if_pos (State.linked_iff.mpr hl), if_pos ⟨hn, hl⟩, State.link_setLink, if_pos rfl]
        rfl
      · have hnot : ¬(((s.entry i).endpoint d.lead).slot.toNat = n.val ∧ (s.slot n).state = .linked) := fun h => hl h.2
        rw [if_neg (mt State.linked_iff.mp hl), if_neg hnot, LinkUnit.append_nil]
        simp
    · have hnot : ¬(((s.entry i).endpoint d.lead).slot.toNat = m.val ∧ (s.slot m).state = .linked) := fun h =>
        hm (Fin.ext (hn.symm.trans h.1))
      rw [if_neg hnot, LinkUnit.append_nil]
      split
      · rw [State.link_setLink, if_neg hm]
      · simp
  · rename_i hn
    have hnot : ¬(((s.entry i).endpoint d.lead).slot.toNat = m.val ∧ (s.slot m).state = .linked) := fun h => by
      have := slotOf_eq_none.mp hn
      have := m.isLt
      omega
    rw [if_neg hnot, LinkUnit.append_nil]

/-! ## One entry of the walk -/

/-- The release orders of some fields for the list of slot m (R76). -/
def releaseOrdersOf (f : RequestFields) (i : EntryNo) (m : SlotNo) : List Order :=
  if f.a.slot = f.b.slot then
    (if f.a.slot.toNat = m.val then [⟨.release, i, .both, f.a.port, some f.b.port, none, none, false⟩] else [])
  else
    (if f.a.slot.toNat = m.val then [⟨.release, i, .one .a, f.a.port, none, none, none, false⟩] else []) ++
      (if f.b.slot.toNat = m.val then [⟨.release, i, .one .b, f.b.port, none, none, none, false⟩] else [])

theorem State.link_appendBoth_release (s : State) (i : EntryNo) (m : SlotNo) : (s.appendBoth i .release).link m =
    (s.link m).append (if (s.slot m).state = .linked then releaseOrdersOf (s.entry i).fields i m else []) := by
  by_cases hone : (s.entry i).oneSlot = true
  · have hab : (s.entry i).fields.a.slot = (s.entry i).fields.b.slot := by simpa [Entry.oneSlot] using hone
    rw [State.appendBoth_oneSlot hone, State.link_appendOrder, releaseOrdersOf, if_pos hab]
    by_cases hl : (s.slot m).state = .linked
    · simp only [hl, and_true, if_true]
      rfl
    · simp [hl]
  · have hab : (s.entry i).fields.a.slot ≠ (s.entry i).fields.b.slot := by simpa [Entry.oneSlot] using hone
    have hfields := s.appendRelease_fields i (.one .a) i
    have hslot : (s.appendOrder i .release (.one .a)).slot m = s.slot m := by simp
    obtain ⟨-, horder, -⟩ := ((s.appendOrder i .release (.one .a)).entry i).order_eq i .release
    rw [State.appendBoth_apart (Bool.eq_false_iff.mpr hone), State.link_appendOrder, State.link_appendOrder,
      LinkUnit.append_append, releaseOrdersOf, if_neg hab, horder, hslot]
    by_cases hl : (s.slot m).state = .linked
    · simp only [hl, and_true, if_true, Entry.endpoint, Ends.lead, hfields]
      rfl
    · simp [hl]

/-- The release orders that the walk appends to the list of slot m for one entry (R96). -/
def State.releaseOrders (s : State) (m : SlotNo) (i : EntryNo) : List Order :=
  if (s.entry i).state ≠ .live ∨ (s.slot m).state ≠ .linked then [] else releaseOrdersOf (s.entry i).fields i m

theorem State.Agrees.releaseOrders {t : State} (h : s.Agrees i t) (m : SlotNo) :
    t.releaseOrders m i = s.releaseOrders m i := by
  rw [State.releaseOrders, State.releaseOrders, h.entry, h.slot]

/-- The request code captured is seen in the entry alone. -/
theorem State.entry_captureCode (s : State) (i : EntryNo) (c : RequestCode) :
    (s.captureCode i c).entry i = { s.entry i with code := c } := by
  rw [State.captureCode, State.entry_putEntry, if_pos rfl]

theorem State.link_releaseOne (s : State) (i : EntryNo) (m : SlotNo) :
    (s.releaseOne i).link m = (s.link m).append (s.releaseOrders m i) := by
  have hself := s.entry_captureCode i .release
  have hstate : ((s.captureCode i .release).entry i).state = (s.entry i).state := by rw [hself]
  unfold State.releaseOrders
  by_cases hlive : (s.entry i).state = .live
  · have hfields : ((s.captureCode i .release).entry i).fields = (s.entry i).fields := by rw [hself]
    rw [State.releaseOne, State.applyRelease_live (hstate.trans hlive)]
    refine (State.link_appendBoth_release _ i m).trans (congrArg (LinkUnit.append (s.link m)) ?_)
    rw [State.entry_putEntry, if_pos rfl]
    dsimp only
    rw [hfields]
    by_cases hl : (s.slot m).state = .linked
    · have hnot : ¬((s.entry i).state ≠ .live ∨ (s.slot m).state ≠ .linked) := fun h => h.elim (· hlive) (· hl)
      exact (if_pos hl).trans (if_neg hnot).symm
    · exact (if_neg hl).trans (if_pos (.inr hl)).symm
  · rw [if_pos (.inl hlive), LinkUnit.append_nil, State.releaseOne, State.applyRelease]
    dsimp only
    split
    case h_4 h => exact absurd (hstate.symm.trans h) hlive
    case h_2 => split <;> rfl
    case h_6 => split <;> rfl
    all_goals rfl

end

/-! ## The entry itself -/

section
variable {s : State} {i : EntryNo} {n : SlotNo} {x : Side}

/-- A release order that joins a list leaves its entry alone. -/
theorem State.entry_appendRelease_linked {d : Ends} (hn : ((s.entry i).endpoint d.lead).slot.toNat = n.val)
    (hl : (s.slot n).state = .linked) (j : EntryNo) : (s.appendOrder i .release d).entry j = s.entry j := by
  rw [State.appendOrder_linked hn hl]
  rfl

/-- One that is handed back is done at once (R77, R101). -/
theorem State.appendRelease_away {d : Ends} (hn : ((s.entry i).endpoint d.lead).slot.toNat = n.val)
    (hl : (s.slot n).state ≠ .linked) (hone : d = .both → (s.entry i).oneSlot = true) :
    s.appendOrder i .release d = s.releaseEnded i d := by
  rw [State.appendOrder_away hn hl]
  exact State.handBack_release (Entry.order_namesOn i .release hn hone) rfl

theorem State.entry_appendRelease_more (hn : ((s.entry i).endpoint x).slot.toNat = n.val)
    (hl : (s.slot n).state ≠ .linked) (hm : (s.entry i).mark x = .release) (ho : (s.entry i).mark x.other ≠ .none) :
    (s.appendOrder i .release (.one x)).entry i = ((s.entry i).setMark x .none).setDone x false := by
  rw [State.appendRelease_away (d := .one x) hn hl nofun, State.releaseEnded_one hm,
    State.settleReleasing_more (.inr (mt (Entry.noMarks_freed ..).mp ho)), State.entry_putEntry, if_pos rfl]

theorem State.entry_appendRelease_last (hn : ((s.entry i).endpoint x).slot.toNat = n.val)
    (hl : (s.slot n).state ≠ .linked) (hm : (s.entry i).mark x = .release) (ho : (s.entry i).mark x.other = .none)
    (hs : (s.entry i).state = .releasing) :
    (s.appendOrder i .release (.one x)).entry i = (s.entry i).toIdle := by
  rw [State.appendRelease_away (d := .one x) hn hl nofun, State.releaseEnded_one hm,
    State.settleReleasing_last (by cases x <;> exact hs) ((Entry.noMarks_freed ..).mpr ho), State.entry_becomeIdle,
    if_pos rfl, State.entry_putEntry, if_pos rfl]
  cases x <;> rfl

theorem State.entry_appendRelease_both (hn : (s.entry i).fields.a.slot.toNat = n.val)
    (hl : (s.slot n).state ≠ .linked) (hone : (s.entry i).oneSlot = true) (ha : (s.entry i).markA = .release)
    (hb : (s.entry i).markB = .release) (hs : (s.entry i).state = .releasing) :
    (s.appendOrder i .release .both).entry i = (s.entry i).toIdle := by
  rw [State.appendRelease_away (d := .both) hn hl fun _ => hone, State.releaseEnded_both ha hb,
    State.settleReleasing_last (by exact hs) rfl, State.entry_becomeIdle, if_pos rfl, State.entry_putEntry, if_pos rfl]
  rfl

/-- What is left of a RELEASING entry by the endpoints on LINKED slots. -/
def Entry.kept (e : Entry) (a b : Bool) : Entry :=
  { e with
    markA := if a = true then .release else .none, markB := if b = true then .release else .none,
    doneA := a && e.doneA, doneB := b && e.doneB }

section
variable {e : Entry} (ha : e.markA = .release) (hb : e.markB = .release)
include ha hb

theorem Entry.kept_both : e.kept true true = e := by
  cases e
  cases ha
  cases hb
  rfl

theorem Entry.kept_a : e.kept true false = (e.setMark .b .none).setDone .b false := by
  cases e
  cases ha
  cases hb
  rfl

theorem Entry.kept_b : e.kept false true = (e.setMark .a .none).setDone .a false := by
  cases e
  cases ha
  cases hb
  rfl

end

/-- A RELEASING entry whose release orders have been appended for both endpoints: each endpoint off a LINKED slot is
free at once, and an entry with no other is IDLE. -/
theorem State.entry_appendBoth_release (s : State) (i : EntryNo) (hbad : RequestFieldsBad (s.entry i).fields = false)
    (hs : (s.entry i).state = .releasing) (ha : (s.entry i).markA = .release) (hb : (s.entry i).markB = .release) :
    (s.appendBoth i .release).entry i =
      if s.endpointLinked (s.entry i).fields.a = false ∧ s.endpointLinked (s.entry i).fields.b = false then
        (s.entry i).toIdle
      else (s.entry i).kept (s.endpointLinked (s.entry i).fields.a) (s.endpointLinked (s.entry i).fields.b) := by
  obtain ⟨na, nb, hna, hnb⟩ : ∃ na nb : SlotNo,
      (s.entry i).fields.a.slot.toNat = na.val ∧ (s.entry i).fields.b.slot.toNat = nb.val := by
    have hshelf := mt RequestFieldsBad_iff.mpr (Bool.eq_false_iff.mp hbad)
    exact ⟨⟨(s.entry i).fields.a.slot.toNat, by omega⟩, ⟨(s.entry i).fields.b.slot.toNat, by omega⟩, rfl, rfl⟩
  have hla := State.endpointLinked_iff (s := s) hna
  have hlb := State.endpointLinked_iff (s := s) hnb
  by_cases hone : (s.entry i).oneSlot = true
  · have hab : na = nb := (Entry.oneSlot_iff hna hnb).mp hone
    rw [State.appendBoth_oneSlot hone]
    by_cases hl : (s.slot na).state = .linked
    · rw [State.entry_appendRelease_linked (d := .both) hna hl, hla.mpr hl, hlb.mpr (hab ▸ hl), if_neg nofun,
        Entry.kept_both ha hb]
    · rw [State.entry_appendRelease_both hna hl hone ha hb hs, Bool.eq_false_iff.mpr (mt hla.mp hl),
        Bool.eq_false_iff.mpr (mt hlb.mp (hab ▸ hl)), if_pos ⟨rfl, rfl⟩]
  · rw [State.appendBoth_apart (Bool.eq_false_iff.mpr hone)]
    have hslot : ((s.appendOrder i .release (.one .a)).slot nb) = s.slot nb := by simp
    have hfields := s.appendRelease_fields i (.one .a) i
    have hnb' : (((s.appendOrder i .release (.one .a)).entry i).endpoint .b).slot.toNat = nb.val := by
      rw [Entry.endpoint, hfields]
      exact hnb
    by_cases hl : (s.slot na).state = .linked
    · have hfirst := State.entry_appendRelease_linked (d := .one .a) hna hl i
      rw [hla.mpr hl, if_neg nofun]
      by_cases hr : (s.slot nb).state = .linked
      · rw [State.entry_appendRelease_linked (d := .one .b) hnb' (hslot ▸ hr), hfirst, hlb.mpr hr,
          Entry.kept_both ha hb]
      · rw [State.entry_appendRelease_more (x := .b) hnb' (hslot ▸ hr) (hfirst ▸ hb)
          (by rw [hfirst]; exact fun h => Mark.noConfusion (ha.symm.trans h)), hfirst,
          Bool.eq_false_iff.mpr (mt hlb.mp hr), Entry.kept_a ha hb]
    · have hfirst := State.entry_appendRelease_more (x := .a) hna hl ha fun h => Mark.noConfusion (hb.symm.trans h)
      rw [Bool.eq_false_iff.mpr (mt hla.mp hl)]
      by_cases hr : (s.slot nb).state = .linked
      · rw [State.entry_appendRelease_linked (d := .one .b) hnb' (hslot ▸ hr), hfirst, hlb.mpr hr, if_neg nofun,
          Entry.kept_b ha hb]
      · rw [State.entry_appendRelease_last (x := .b) hnb' (hslot ▸ hr) (by rw [hfirst]; exact hb)
          (by rw [hfirst]; rfl) (by rw [hfirst]; exact hs), hfirst, Bool.eq_false_iff.mpr (mt hlb.mp hr),
          if_pos ⟨rfl, rfl⟩]
        rfl

theorem State.entry_releaseBoth {e : Entry} (s : State) (i : EntryNo) (hbad : RequestFieldsBad e.fields = false) :
    (s.releaseBoth i e).entry i =
      if s.endpointLinked e.fields.a = false ∧ s.endpointLinked e.fields.b = false then e.toIdle
      else Entry.kept { e with
        state := .releasing, outcome := .accepted, releaseAfter := false, markA := .release, markB := .release }
        (s.endpointLinked e.fields.a) (s.endpointLinked e.fields.b) := by
  have hself (E : Entry) : (s.putEntry i E).entry i = E := by rw [State.entry_putEntry, if_pos rfl]
  rw [State.releaseBoth, State.entry_appendBoth_release _ i (by rw [hself]; exact hbad) (by rw [hself])
    (by rw [hself]) (by rw [hself]), hself]
  rfl

end

/-- A Restore Engine in which a walk has moved no more than the number of RESTORING entries. -/
theorem RestoreEngine.eq_of_kept {a b : RestoreEngine} (hphase : a.phase = b.phase)
    (hlowest : a.lowestClosed = b.lowestClosed) (htimer : a.timer = b.timer) :
    a = { b with restoring := a.restoring } := by
  cases a
  cases b
  simp_all

/-- Settles O44: each entry of the walk as if it were the only one, and each list by what the entries append to it. -/
theorem releaseAllReleasesEveryEntry : Obligations.ReleaseAllReleasesEveryEntry := by
  intro s h hages r
  have hr : AgeListOk r :=
    State.reachAll_keeps (fun s n _ hs => AgeListOk.keptByTable.keptByMoves.parkSlot n hs) hages
  refine ⟨(r.releaseWalk).answered .written, State.cycle_of h, fun i => ?_, fun n => ?_, ?_, ?_⟩
  · intro e unmarked idle late linked mark
    by_cases hidle : (r.entry i).state = .idle
    · have hout : i ∉ r.circuits.ageList := fun hi => (hr.holds i).mp hi hidle
      have hkept : (r.releaseWalk).entry i = r.entry i := (foldl_agrees State.LocalTo.releaseOne hout r).entry
      have hstate : e.state = .idle := hidle
      simp only [hstate]
      exact ⟨fun _ => hkept, by simp, nofun, nofun, nofun, nofun, nofun, nofun⟩
    · obtain ⟨u, hu, ht⟩ := foldl_entry State.LocalTo.releaseOne hr.once ((hr.holds i).mpr hidle) r
      have hv : (u.captureCode i .release).entry i = e := by rw [State.entry_captureCode, hu.entry]
      have hto {E : Entry} (hE : ((u.captureCode i .release).applyRelease i).entry i = E) :
          (r.releaseWalk).entry i = E := ht.trans hE
      refine ⟨fun hs => absurd hs hidle, fun hs hm => hto ?_, fun hs hm => hto ?_, fun hs hm => hto ?_,
        fun hs => hto ?_, fun hs => hto ?_, fun hs hl => hto ?_, fun hs ha hb => hto ?_⟩
      · rw [State.applyRelease_unmarked (by rw [hv]; exact hs) (by rw [hv]; exact hm), State.entry_becomeIdle,
          if_pos rfl, hv]
        rfl
      · rw [State.applyRelease_waiting (by rw [hv]; exact hs) (by rw [hv]; exact hm), State.entry_putEntry, if_pos rfl,
          hv, Entry.undoLate_eq]
      · rw [State.applyRelease_faulted (by rw [hv]; exact hs) (by rw [hv]; exact hm), State.entry_putEntry, if_pos rfl,
          hv]
      · rw [State.applyRelease_restoring (by rw [hv]; exact hs), State.entry_putEntry, if_pos rfl, hv]
      · rw [State.applyRelease_releasing (by rw [hv]; exact hs), State.entry_putEntry, if_pos rfl, hv]
      all_goals
        have hlinked (p : Endpoint) : (u.captureCode i .release).endpointLinked p = r.endpointLinked p :=
          hu.endpointLinked p
        rw [State.applyRelease_live (by rw [hv]; exact hs), hv,
          State.entry_releaseBoth (e := e) _ i (hr.endpoints i hidle),
          hlinked, hlinked]
      · have hnot : ¬(r.endpointLinked e.fields.a = false ∧ r.endpointLinked e.fields.b = false) := fun ⟨ha, hb⟩ =>
          hl.elim (fun h => Bool.noConfusion (h.symm.trans ha)) fun h => Bool.noConfusion (h.symm.trans hb)
        rw [if_neg hnot]
        rfl
      · exact if_pos ⟨ha, hb⟩
  · refine Eq.trans ?_ (LinkUnit.foldl_append (r.link n) (r.releaseOrders n) r.circuits.ageList)
    exact foldl_link State.LocalTo.releaseOne hr.once r fun u i _ hu => by
      rw [State.link_releaseOne, hu.releaseOrders]
  · obtain ⟨-, -, -, -, -, -, -, -, -, -, -, -, -, -, -, hphase, hlowest, htimer, -⟩ := r.releaseWalk_leaves
    apply State.eq_of_fields
    case h8 => exact RestoreEngine.eq_of_kept hphase hlowest htimer
    all_goals simp [State.answered]
  · simp [State.answered]

end Sys2Proof.Machine
end

section
/-! The sag notice at the Circuit Table (R105): every entry parked by its state, its standing connects withdrawn. -/

namespace Sys2Proof.Machine

/-! ## A connect withdrawn: the entry, the lists -/

section
variable {s : State} {i : EntryNo}

/-- The order leaves the list of the slot of its endpoint, and no other. -/
theorem State.link_withdrawConnect (s : State) (i : EntryNo) (d : Ends) (k : Mark) (m : SlotNo) :
    (s.withdrawConnect i d k).link m = if ((s.entry i).endpoint d.lead).slot.toNat = m.val then
      (s.link m).withdraw i d else s.link m := by
  have hlink : (s.withdrawConnect i d k).link m = (s.withdrawOrder i d).link m := rfl
  rw [hlink, State.withdrawOrder]
  split
  · rename_i n hn
    have hn := slotOf_eq.mp hn
    by_cases hm : n = m
    · subst hm
      rw [if_pos hn, State.link_setLink, if_pos rfl]
    · have hnot : ¬((s.entry i).endpoint d.lead).slot.toNat = m.val := fun h => hm (Fin.ext (hn.symm.trans h))
      rw [if_neg hnot, State.link_setLink, if_neg hm]
  · rename_i hn
    have hnot : ¬((s.entry i).endpoint d.lead).slot.toNat = m.val := fun h => by
      have := slotOf_eq_none.mp hn
      have := m.isLt
      omega
    rw [if_neg hnot]

/-! ## The connects of a RESTORING entry -/

/-- The mark of an endpoint once its standing connect has been withdrawn (R105). -/
def State.sagMark (s : State) (i : EntryNo) (x : Side) : Mark :=
  if (s.entry i).mark x = .connect then
    markAfterWithdraw (s.withdrawAnswer i (if (s.entry i).oneSlot = true then .both else .one x)) .lateConnect .connect
  else (s.entry i).mark x

theorem State.Agrees.sagMark {t : State} (h : s.Agrees i t) (x : Side) : t.sagMark i x = s.sagMark i x := by
  rw [State.sagMark, State.sagMark, h.entry, h.withdrawAnswer]

theorem State.sagMark_connect {x : Side} (h : (s.entry i).mark x = .connect) : s.sagMark i x = markAfterWithdraw
    (s.withdrawAnswer i (if (s.entry i).oneSlot = true then .both else .one x)) .lateConnect .connect := if_pos h

theorem State.sagMark_other {x : Side} (h : (s.entry i).mark x ≠ .connect) : s.sagMark i x = (s.entry i).mark x :=
  if_neg h

theorem State.entry_sagWithdraw_connect {d : Ends} (h : (s.entry i).mark d.lead = .connect) :
    (s.sagWithdraw i d).entry i =
      (s.entry i).setMarks d (markAfterWithdraw (s.withdrawAnswer i d) .lateConnect .connect) := by
  rw [State.sagWithdraw, if_pos h, State.entry_withdrawConnect, if_pos rfl, h]

theorem State.sagWithdraw_other {d : Ends} (h : (s.entry i).mark d.lead ≠ .connect) : s.sagWithdraw i d = s := if_neg h

theorem State.entry_sagWithdraw_one (hone : (s.entry i).oneSlot = false) (x : Side) :
    (s.sagWithdraw i (.one x)).entry i = (s.entry i).setMark x (s.sagMark i x) := by
  by_cases h : (s.entry i).mark x = .connect
  · rw [State.entry_sagWithdraw_connect (d := .one x) h, State.sagMark_connect h, hone]
    rfl
  · rw [State.sagWithdraw_other (d := .one x) h, State.sagMark_other h, Entry.setMark_self]

theorem State.entry_sagWithdraw_both (hone : (s.entry i).oneSlot = true) (hab : (s.entry i).markA = (s.entry i).markB) :
    (s.sagWithdraw i .both).entry i = { s.entry i with markA := s.sagMark i .a, markB := s.sagMark i .b } := by
  by_cases h : (s.entry i).markA = .connect
  · rw [State.entry_sagWithdraw_connect (d := .both) h, State.sagMark_connect (x := .a) h,
      State.sagMark_connect (x := .b) (hab.symm.trans h), hone]
    rfl
  · rw [State.sagWithdraw_other (d := .both) h, State.sagMark_other (x := .a) h,
      State.sagMark_other (x := .b) fun hb => h (hab.trans hb)]
    rfl

/-- A withdrawal on one slot is no matter of another. -/
theorem State.withdrawAnswer_sagWithdraw (hone : (s.entry i).oneSlot = false) :
    (s.sagWithdraw i (.one .a)).withdrawAnswer i (.one .b) = s.withdrawAnswer i (.one .b) := by
  have hfields : ((s.sagWithdraw i (.one .a)).entry i).fields = (s.entry i).fields := by
    rw [State.entry_sagWithdraw_one hone]
    rfl
  have hab : (s.entry i).fields.a.slot ≠ (s.entry i).fields.b.slot := by simpa [Entry.oneSlot] using hone
  have hend : ((s.sagWithdraw i (.one .a)).entry i).endpoint .b = (s.entry i).fields.b :=
    congrArg RequestFields.b hfields
  rw [State.withdrawAnswer, State.withdrawAnswer]
  dsimp only [Ends.lead]
  rw [hend]
  cases hn : slotOf (s.entry i).fields.b.slot with
  | none => simp [Entry.endpoint, hn]
  | some n =>
    have hlink : (s.sagWithdraw i (.one .a)).link n = s.link n := by
      unfold State.sagWithdraw
      split
      · rw [State.link_withdrawConnect, if_neg]
        intro h
        exact hab (BitVec.eq_of_toNat_eq (Eq.trans h (slotOf_eq.mp hn).symm))
      · rfl
    simp [Entry.endpoint, hn, hlink]

/-- The standing connects of a RESTORING entry withdrawn. -/
def State.sagWithdraws (s : State) (i : EntryNo) : State := (s.entry i).orderEnds.foldl (State.sagWithdraw i) s

theorem State.sagWithdraws_one (hone : (s.entry i).oneSlot = true) : s.sagWithdraws i = s.sagWithdraw i .both := by
  rw [State.sagWithdraws, Entry.orderEnds, if_pos hone]
  rfl

theorem State.sagWithdraws_apart (hone : (s.entry i).oneSlot = false) :
    s.sagWithdraws i = (s.sagWithdraw i (.one .a)).sagWithdraw i (.one .b) := by
  rw [State.sagWithdraws, Entry.orderEnds, if_neg (by simp [hone])]
  rfl

theorem State.entry_sagWithdraws (hab : (s.entry i).oneSlot = true → (s.entry i).markA = (s.entry i).markB) :
    (s.sagWithdraws i).entry i = { s.entry i with markA := s.sagMark i .a, markB := s.sagMark i .b } := by
  by_cases hone : (s.entry i).oneSlot = true
  · rw [State.sagWithdraws_one hone, State.entry_sagWithdraw_both hone (hab hone)]
  · have hone := Bool.eq_false_iff.mpr hone
    have hfirst := State.entry_sagWithdraw_one hone .a
    have hfirstOne : ((s.sagWithdraw i (.one .a)).entry i).oneSlot = false := by rw [hfirst]; exact hone
    have hmark : ((s.sagWithdraw i (.one .a)).entry i).mark .b = (s.entry i).mark .b := by rw [hfirst]; rfl
    have hsecond : (s.sagWithdraw i (.one .a)).sagMark i .b = s.sagMark i .b := by
      rw [State.sagMark, State.sagMark, hfirstOne, hone, hmark, if_neg Bool.false_ne_true,
        State.withdrawAnswer_sagWithdraw hone]
    rw [State.sagWithdraws_apart hone, State.entry_sagWithdraw_one hfirstOne, hsecond, hfirst]
    rfl

/-! ## The lists -/

/-- One standing connect taken off the list of slot n. -/
def Entry.withdrawOn (e : Entry) (i : EntryNo) (n : SlotNo) (l : LinkUnit) (d : Ends) : LinkUnit :=
  if e.mark d.lead = .connect ∧ (e.endpoint d.lead).slot.toNat = n.val then l.withdraw i d else l

/-- What the sag notice takes off the list of slot n for one entry (R105). -/
def Entry.sagLink (e : Entry) (i : EntryNo) (n : SlotNo) (l : LinkUnit) : LinkUnit :=
  if e.state ≠ .restoring then l
  else if e.oneSlot = true then e.withdrawOn i n l .both
  else e.withdrawOn i n (e.withdrawOn i n l (.one .a)) (.one .b)

theorem State.link_sagWithdraw (s : State) (i : EntryNo) (d : Ends) (n : SlotNo) :
    (s.sagWithdraw i d).link n = (s.entry i).withdrawOn i n (s.link n) d := by
  unfold State.sagWithdraw Entry.withdrawOn
  by_cases h : (s.entry i).mark d.lead = .connect
  · rw [if_pos h, State.link_withdrawConnect]
    simp only [h, true_and]
  · rw [if_neg h, if_neg fun hc => h hc.1]

theorem State.link_sagWithdraws (hs : (s.entry i).state = .restoring) (n : SlotNo) :
    (s.sagWithdraws i).link n = (s.entry i).sagLink i n (s.link n) := by
  rw [Entry.sagLink, if_neg (not_not.mpr hs)]
  by_cases hone : (s.entry i).oneSlot = true
  · rw [State.sagWithdraws_one hone, if_pos hone, State.link_sagWithdraw]
  · have hfirst := State.entry_sagWithdraw_one (Bool.eq_false_iff.mpr hone) .a
    rw [State.sagWithdraws_apart (Bool.eq_false_iff.mpr hone), if_neg hone, State.link_sagWithdraw, hfirst,
      State.link_sagWithdraw]
    rfl

/-! ## One entry parked -/

theorem State.entry_putEntry_self (s : State) (i : EntryNo) (e : Entry) : (s.putEntry i e).entry i = e := by
  rw [State.entry_putEntry, if_pos rfl]

theorem State.entry_becomeIdle_self (s : State) (i : EntryNo) : (s.becomeIdle i).entry i = (s.entry i).toIdle := by
  rw [State.entry_becomeIdle, if_pos rfl]

theorem State.link_settleReleasing (s : State) (i : EntryNo) (n : SlotNo) :
    (s.settleReleasing i).link n = s.link n := by
  unfold State.settleReleasing
  split <;> rfl

theorem State.entry_sagResolve_waiting (h : (s.entry i).releaseAfter = false) :
    (s.sagResolve i).entry i = { s.entry i with state := .waiting, doneA := false, doneB := false } := by
  have hr : (s.entry i).clearDone.releaseAfter = false := h
  rw [State.sagResolve]
  dsimp only
  rw [hr, if_neg nofun, State.entry_putEntry_self]
  rfl

theorem State.entry_sagResolve_idle (h : (s.entry i).releaseAfter = true)
    (hm : (s.entry i).markA = .none ∧ (s.entry i).markB = .none) : (s.sagResolve i).entry i = (s.entry i).toIdle := by
  have hr : (s.entry i).clearDone.releaseAfter = true := h
  have hm : (s.entry i).clearDone.noMarks = true := Entry.noMarks_iff.mpr hm
  rw [State.sagResolve]
  dsimp only
  rw [hr, if_pos rfl, hm, if_pos rfl, State.entry_becomeIdle_self, State.entry_putEntry_self]
  rfl

theorem State.entry_sagResolve_releasing (h : (s.entry i).releaseAfter = true)
    (hm : ¬((s.entry i).markA = .none ∧ (s.entry i).markB = .none)) :
    (s.sagResolve i).entry i = { (s.entry i).undoLate with
      state := .releasing, outcome := .accepted, releaseAfter := false, doneA := false, doneB := false } := by
  have hr : (s.entry i).clearDone.releaseAfter = true := h
  have hm : ¬(s.entry i).clearDone.noMarks = true := mt Entry.noMarks_iff.mp hm
  rw [State.sagResolve]
  dsimp only
  rw [hr, if_pos rfl, if_neg hm, State.entry_putEntry_self]
  rfl

theorem State.link_sagResolve (s : State) (i : EntryNo) (n : SlotNo) : (s.sagResolve i).link n = s.link n := by
  unfold State.sagResolve
  dsimp only
  split
  · split <;> rfl
  · rfl

theorem State.sagEntry_restoring (h : (s.entry i).state = .restoring) :
    s.sagEntry i = (s.sagWithdraws i).sagResolve i := by
  simp only [State.sagEntry, h]
  rfl

theorem State.sagEntry_stays (h : (s.entry i).state = .idle ∨ (s.entry i).state = .waiting) : s.sagEntry i = s := by
  rcases h with h | h <;> simp only [State.sagEntry, h]

theorem State.sagEntry_live (h : (s.entry i).state = .live) : s.sagEntry i = s.putEntry i (s.entry i).toWaiting := by
  simp only [State.sagEntry, h]

theorem State.sagEntry_faulted (h : (s.entry i).state = .faulted) :
    s.sagEntry i = s.putEntry i (s.entry i).clearDone := by simp only [State.sagEntry, h]

theorem State.sagEntry_releasing (h : (s.entry i).state = .releasing) :
    s.sagEntry i = (s.putEntry i (s.entry i).clearDone).settleReleasing i := by simp only [State.sagEntry, h]

theorem State.link_sagEntry (s : State) (i : EntryNo) (n : SlotNo) :
    (s.sagEntry i).link n = (s.entry i).sagLink i n (s.link n) := by
  by_cases hs : (s.entry i).state = .restoring
  · rw [State.sagEntry_restoring hs, State.link_sagResolve, State.link_sagWithdraws hs]
  · rw [Entry.sagLink, if_pos hs]
    cases h : (s.entry i).state with
    | idle => rw [State.sagEntry_stays (.inl h)]
    | waiting => rw [State.sagEntry_stays (.inr h)]
    | restoring => exact absurd h hs
    | live =>
      rw [State.sagEntry_live h]
      rfl
    | releasing =>
      rw [State.sagEntry_releasing h, State.link_settleReleasing]
      rfl
    | faulted =>
      rw [State.sagEntry_faulted h]
      rfl

theorem State.LocalTo.sagWithdraw (s : State) (i : EntryNo) (d : Ends) : s.LocalTo i (s.sagWithdraw i d) := by
  unfold State.sagWithdraw
  split
  · exact .withdrawConnect ..
  · exact .refl ..

theorem State.LocalTo.sagWithdraws (s : State) (i : EntryNo) : s.LocalTo i (s.sagWithdraws i) := by
  by_cases hone : (s.entry i).oneSlot = true
  · rw [State.sagWithdraws_one hone]
    exact .sagWithdraw ..
  · rw [State.sagWithdraws_apart (Bool.eq_false_iff.mpr hone)]
    exact (sagWithdraw ..).trans (.sagWithdraw ..)

theorem State.LocalTo.sagResolve (s : State) (i : EntryNo) : s.LocalTo i (s.sagResolve i) := by
  unfold State.sagResolve
  dsimp only
  split
  · split
    · exact (putEntry ..).trans (.becomeIdle ..)
    · exact .putEntry ..
  · exact .putEntry ..

theorem State.LocalTo.sagEntry (s : State) (i : EntryNo) : s.LocalTo i (s.sagEntry i) := by
  unfold State.sagEntry
  dsimp only
  split
  case h_3 => exact (LocalTo.sagWithdraws s i).trans (.sagResolve ..)
  case h_4 => exact .putEntry ..
  case h_5 => exact (putEntry ..).trans (.settleReleasing ..)
  case h_6 => exact .putEntry ..
  all_goals exact .refl ..

end

/-! ## Orders that stay -/

/-- A Link Unit that has lost some orders, none of them of those that stay. -/
structure LinkUnit.Thins (stays : Order → Bool) (l l' : LinkUnit) : Prop where
  only : l' = { l with orders := l'.orders }
  sublist : l'.orders.Sublist l.orders
  stay : l'.orders.filter stays = l.orders.filter stays

namespace LinkUnit.Thins

variable {stays : Order → Bool} {l m k : LinkUnit}

theorem refl (l : LinkUnit) : Thins stays l l := ⟨rfl, .refl _, rfl⟩

theorem trans (h : Thins stays l m) (g : Thins stays m k) : Thins stays l k where
  only := by
    have hm := h.only
    have hk := g.only
    rw [hm] at hk
    exact hk
  sublist := g.sublist.trans h.sublist
  stay := g.stay.trans h.stay

theorem withdraw {i : EntryNo} {d : Ends} (h : ∀ o, o.isFor i d = true → o.inFlight = false → stays o = false)
    (l : LinkUnit) : Thins stays l (l.withdraw i d) where
  only := rfl
  sublist := by
    unfold LinkUnit.withdraw
    dsimp only
    split
    · exact List.eraseP_sublist
    · exact .refl _
  stay := by
    by_cases hex : ∃ o ∈ l.orders, o.isFor i d = true
    · obtain ⟨o, before, after, hno, ho, hsplit, -⟩ :=
        List.exists_of_eraseP (p := fun o : Order => o.isFor i d) hex.choose_spec.1 hex.choose_spec.2
      obtain ⟨-, hfree, hflight⟩ := LinkUnit.withdraw_found hsplit ho hno
      cases hf : o.inFlight with
      | false =>
        rw [hfree hf, hsplit, List.filter_append, List.filter_append, List.filter_cons_of_neg (by simp [h o ho hf])]
      | true => rw [hflight hf]
    · have hno : ∀ o ∈ l.orders, ¬o.isFor i d = true := fun o ho hfor => hex ⟨o, ho, hfor⟩
      rw [(LinkUnit.withdraw_absent hno).2]

theorem foldl {α : Type} {f : LinkUnit → α → LinkUnit} (hf : ∀ l i, Thins stays l (f l i)) (is : List α)
    (l : LinkUnit) : Thins stays l (is.foldl f l) := by
  induction is generalizing l with
  | nil => exact .refl l
  | cons i is ih => exact (hf l i).trans (ih _)

theorem withdrawOn {e : Entry} {i : EntryNo} {n : SlotNo} {d : Ends} (l : LinkUnit)
    (h : ∀ o, o.isFor i d = true → o.inFlight = false → e.mark d.lead = .connect → stays o = false) :
    Thins stays l (e.withdrawOn i n l d) := by
  unfold Entry.withdrawOn
  split
  · rename_i hc
    exact withdraw (fun o ho hf => h o ho hf hc.1) l
  · exact .refl l

end LinkUnit.Thins

/-- An order that the sag notice does not take off its list: in flight, of an entry not in RESTORING, or with no connect
standing. -/
def State.sagStays (s : State) (o : Order) : Bool :=
  o.inFlight || (s.entry o.entry).state != .restoring || (s.entry o.entry).mark o.ends.lead != .connect

theorem State.thins_sagLink (s : State) (n : SlotNo) (l : LinkUnit) (i : EntryNo) :
    LinkUnit.Thins s.sagStays l ((s.entry i).sagLink i n l) := by
  have hout (hs : (s.entry i).state = .restoring) (d : Ends) (o : Order) (ho : o.isFor i d = true)
      (hf : o.inFlight = false) (hm : (s.entry i).mark d.lead = .connect) : s.sagStays o = false := by
    obtain ⟨rfl, rfl⟩ := Order.isFor_iff.mp ho
    simp [State.sagStays, hf, hs, hm]
  unfold Entry.sagLink
  split
  · exact .refl l
  · rename_i hs
    have hout := hout (not_not.mp hs)
    split
    · exact .withdrawOn l (hout .both)
    · exact (LinkUnit.Thins.withdrawOn l (hout (.one .a))).trans (.withdrawOn _ (hout (.one .b)))

/-- Settles O48: each entry of the walk as if it were the only one, and each list by what the entries take off it. -/
theorem sagNoticeParksEveryEntry : Obligations.SagNoticeParksEveryEntry := by
  intro s hp hpos hages late r t
  have hr : AgeListOk r := by
    by_cases hl : late = 0
    · have hrl : r = s.takeDepartures := if_pos hl
      rw [hrl]
      exact AgeListOk.keptByTable.keptByMoves.takeDepartures hages
    · have hrl : r = s := if_neg hl
      rw [hrl]
      exact hages
  have ht : t = r.sagCircuits := rfl
  have hlink (n : SlotNo) : t.link n = r.circuits.ageList.foldl (fun l i => (r.entry i).sagLink i n l) (r.link n) :=
    foldl_link State.LocalTo.sagEntry hr.once
      { r with notices := { r.notices with circuits := r.notices.circuits - 1 } } fun u i _ hu => by
        rw [State.link_sagEntry, hu.entry]
        rfl
  refine ⟨State.event_of hp (decide_eq_true hpos), fun i => ?_, hlink, fun n => ?_, ?_, ?_⟩
  · intro e mark undone parked idle
    by_cases hidle : (r.entry i).state = .idle
    · have hout : i ∉ r.circuits.ageList := fun hi => (hr.holds i).mp hi hidle
      have hkept : t.entry i = r.entry i := (foldl_agrees State.LocalTo.sagEntry hout _).entry
      have hstate : e.state = .idle := hidle
      simp only [hstate]
      exact ⟨fun _ => hkept, nofun, nofun, nofun, nofun, nofun⟩
    · obtain ⟨u, hu, hfold⟩ := foldl_entry State.LocalTo.sagEntry hr.once ((hr.holds i).mpr hidle)
        { r with notices := { r.notices with circuits := r.notices.circuits - 1 } }
      have hue : u.entry i = e := hu.entry
      have hto {E : Entry} (hE : (u.sagEntry i).entry i = E) : t.entry i = E := hfold.trans hE
      refine ⟨fun hs => hto ?_, fun hs => hto ?_, fun hs => hto ?_, fun hs ha hb => hto ?_, fun hs hm => hto ?_,
        fun hs hab => ?_⟩
      · rw [State.sagEntry_stays (by rw [hue]; exact hs), hue]
      · rw [State.sagEntry_live (by rw [hue]; exact hs), State.entry_putEntry_self, hue]
        rfl
      · rw [State.sagEntry_faulted (by rw [hue]; exact hs), State.entry_putEntry_self, hue]
        rfl
      · have hnone : e.clearDone.noMarks = true := Entry.noMarks_iff.mpr ⟨ha, hb⟩
        rw [State.sagEntry_releasing (by rw [hue]; exact hs), hue,
          State.settleReleasing_last (e := e.clearDone) hs hnone,
          State.entry_becomeIdle_self, State.entry_putEntry_self]
        rfl
      · have hsome : ¬e.clearDone.noMarks = true := fun h => by
          obtain ⟨ha, hb⟩ := Entry.noMarks_iff.mp h
          exact hm.elim (· ha) (· hb)
        rw [State.sagEntry_releasing (by rw [hue]; exact hs), hue, State.settleReleasing_more (.inr hsome),
          State.entry_putEntry_self]
        rfl
      · have hw : (u.sagWithdraws i).entry i = { e with markA := mark .a, markB := mark .b } := by
          rw [State.entry_sagWithdraws (by rw [hue]; exact hab), hu.sagMark, hu.sagMark, hue]
          rfl
        have hentry : u.sagEntry i = (u.sagWithdraws i).sagResolve i :=
          State.sagEntry_restoring (by rw [hue]; exact hs)
        refine ⟨fun ha => hto ?_, fun ha hma hmb => hto ?_, fun ha hm => hto ?_⟩
        · rw [hentry, State.entry_sagResolve_waiting (by rw [hw]; exact ha), hw]
        · rw [hentry, State.entry_sagResolve_idle (by rw [hw]; exact ha) (by rw [hw]; exact ⟨hma, hmb⟩), hw]
          rfl
        · have hsome : ¬(mark .a = .none ∧ mark .b = .none) := fun ⟨ha, hb⟩ => hm.elim (· ha) (· hb)
          rw [hentry, State.entry_sagResolve_releasing (by rw [hw]; exact ha) (by rw [hw]; exact hsome), hw,
            Entry.undoLate_eq]
  · obtain ⟨honly, hsub, hstay⟩ := LinkUnit.Thins.foldl (r.thins_sagLink n) r.circuits.ageList (r.link n)
    rw [hlink n]
    exact ⟨honly, hsub, hstay⟩
  · obtain ⟨-, -, -, -, -, -, -, -, -, -, -, -, -, -, hphase, hlowest, htimer, -⟩ := r.sagCircuits_leaves
    rw [ht]
    apply State.eq_of_fields
    case h8 => exact RestoreEngine.eq_of_kept hphase hlowest htimer
    all_goals simp
  · rw [ht]
    simp

end Sys2Proof.Machine
end

section
/-! The departure notice at the Circuit Table (R103, R104): the entries of the slot parked, oldest first, and what waits
for the notice. -/

namespace Sys2Proof.Machine

/-! ## The endpoints on the departed slot -/

section
variable {e : Entry} {n : SlotNo} {x : Side}

theorem Entry.clearOn_eq (e : Entry) (n : SlotNo) : e.clearOn n = { e with
    markA := if e.on .a n = true then .none else e.markA, doneA := !e.on .a n && e.doneA,
    markB := if e.on .b n = true then .none else e.markB, doneB := !e.on .b n && e.doneB } := by
  have hb : ((e.setMark .a .none).setDone .a false).on .b n = e.on .b n := rfl
  cases ha : e.on .a n <;> cases hb' : e.on .b n <;> simp [Entry.clearOn, ha, hb, hb'] <;> rfl

theorem Entry.clearOn_off (h : e.on .a n = false ∧ e.on .b n = false) : e.clearOn n = e := by
  simp [Entry.clearOn_eq, h.1, h.2]

theorem Entry.clearOn_one (hx : e.on x n = true) (hy : e.on x.other n = false) :
    e.clearOn n = (e.setMark x .none).setDone x false := by
  cases x with
  | a => simp [Entry.clearOn_eq, hx, show e.on .b n = false from hy, Entry.setMark, Entry.setDone]
  | b => simp [Entry.clearOn_eq, hx, show e.on .a n = false from hy, Entry.setMark, Entry.setDone]

theorem Entry.clearOn_both (hx : e.on x n = true) (hy : e.on x.other n = true) :
    e.clearOn n = { e with markA := .none, markB := .none, doneA := false, doneB := false } := by
  have hab : e.on .a n = true ∧ e.on .b n = true := by
    cases x with
    | a => exact ⟨hx, hy⟩
    | b => exact ⟨hy, hx⟩
  simp [Entry.clearOn_eq, hab.1, hab.2]

theorem Entry.sideOff_one (hx : e.on x n = true) (hy : e.on x.other n = false) : e.sideOff n = x.other := by
  cases x with
  | a => exact if_pos hx
  | b => exact if_neg (by rw [show e.on .a n = false from hy]; decide)

theorem Entry.on_sideOff_both (hx : e.on x n = true) (hy : e.on x.other n = true) : e.on (e.sideOff n) n = true := by
  cases x with
  | a => rw [Entry.sideOff, if_pos hx]; exact hy
  | b => rw [Entry.sideOff, if_pos (show e.on .a n = true from hy)]; exact hx

theorem Entry.on_congr {e' : Entry} (h : e'.fields = e.fields) (x : Side) (n : SlotNo) : e'.on x n = e.on x n := by
  cases x <;> simp [Entry.on, Entry.endpoint, h]

end

/-! ## Release-after resolved -/

/-- What becomes of a RESTORING entry whose endpoints on the departed slot are cleared, by release-after and by its
endpoint off that slot (R103). -/
def Entry.resolved (e : Entry) (y : Side) : Entry :=
  if e.releaseAfter = false then e.toWaiting
  else if e.mark y = .lateConnect then { e.undoLate with state := .releasing, releaseAfter := false }
  else if e.done y = true then { e.setMark y .release with state := .releasing, releaseAfter := false }
  else e.toIdle

section
variable {e : Entry} {y : Side}

theorem Entry.resolved_waiting (h : e.releaseAfter = false) : e.resolved y = e.toWaiting := if_pos h

theorem Entry.resolved_late (h : e.releaseAfter = true) (hm : e.mark y = .lateConnect) :
    e.resolved y = { e.undoLate with state := .releasing, releaseAfter := false } := by
  rw [Entry.resolved, if_neg (by simp [h]), if_pos hm]

theorem Entry.resolved_joined (h : e.releaseAfter = true) (hm : e.mark y ≠ .lateConnect) (hd : e.done y = true) :
    e.resolved y = { e.setMark y .release with state := .releasing, releaseAfter := false } := by
  rw [Entry.resolved, if_neg (by simp [h]), if_neg hm, if_pos hd]

theorem Entry.resolved_idle (h : e.releaseAfter = true) (hm : e.mark y ≠ .lateConnect) (hd : e.done y = false) :
    e.resolved y = e.toIdle := by
  rw [Entry.resolved, if_neg (by simp [h]), if_neg hm, if_neg (by simp [hd])]

theorem Entry.resolved_state : (e.resolved y).state ∉ [EntryState.restoring, .live] := by
  unfold Entry.resolved
  split
  · simp [Entry.toWaiting]
  split
  · simp
  split
  · simp
  · simp [Entry.toIdle]

end

section
variable {s : State} {i : EntryNo} {y : Side}

theorem State.endpointLinked_slot {p : Endpoint} (h : s.endpointLinked p = true) :
    ∃ n : SlotNo, p.slot.toNat = n.val ∧ (s.slot n).state = .linked := by
  cases hn : slotOf p.slot with
  | none => simp [State.endpointLinked, State.endpointState, hn] at h
  | some n =>
    have hn := slotOf_eq.mp hn
    exact ⟨n, hn, (State.endpointLinked_iff hn).mp h⟩

theorem Entry.endpoint_setMark (e : Entry) (x z : Side) (m : Mark) : (e.setMark x m).endpoint z = e.endpoint z := by
  cases x <;> rfl

/-- A completed join undone on a LINKED slot: its release order is on its way. -/
theorem State.entry_undoJoin (hl : s.endpointLinked ((s.entry i).endpoint y) = true) :
    (s.undoJoin i y).entry i = (s.entry i).setMark y .release := by
  obtain ⟨n, hn, hl⟩ := State.endpointLinked_slot hl
  have hself := s.entry_putEntry_self i ((s.entry i).setMark y .release)
  have hend : (((s.putEntry i ((s.entry i).setMark y .release)).entry i).endpoint y).slot.toNat = n.val := by
    rw [hself, Entry.endpoint_setMark, hn]
  have hslot : ((s.putEntry i ((s.entry i).setMark y .release)).slot n).state = .linked := hl
  rw [State.undoJoin, State.entry_appendRelease_linked (d := .one y) hend hslot, hself]

/-- The release order of one endpoint (R76). -/
def Entry.releaseOrder (e : Entry) (i : EntryNo) (y : Side) : Order :=
  ⟨.release, i, .one y, (e.endpoint y).port, none, none, none, false⟩

theorem State.link_undoJoin (s : State) (i : EntryNo) (y : Side) (m : SlotNo) : (s.undoJoin i y).link m =
    (s.link m).append (if ((s.entry i).endpoint y).slot.toNat = m.val ∧ (s.slot m).state = .linked then
      [(s.entry i).releaseOrder i y] else []) := by
  have horder : ((s.entry i).setMark y .release).order i .release (.one y) = (s.entry i).releaseOrder i y := by
    cases y <;> rfl
  rw [State.undoJoin, State.link_appendOrder, State.entry_putEntry_self, horder]
  cases y <;> rfl

theorem State.endpointLinked_congr {t : State} (h : s.slots = t.slots) (p : Endpoint) :
    s.endpointLinked p = t.endpointLinked p := by
  simp only [State.endpointLinked, State.endpointState, State.slot_congr h]

theorem State.parkReleased_late (h : (s.entry i).mark y = .lateConnect) : s.parkReleased i y =
    s.putEntry i { (s.entry i).undoLate with state := .releasing, releaseAfter := false } := by
  have hm : ({ s.entry i with releaseAfter := false } : Entry).mark y = .lateConnect := by cases y <;> exact h
  exact if_pos hm

theorem State.parkReleased_joined (h : (s.entry i).mark y ≠ .lateConnect) (hd : (s.entry i).done y = true) :
    s.parkReleased i y =
      (s.putEntry i { s.entry i with releaseAfter := false, state := .releasing }).undoJoin i y := by
  have hm : ({ s.entry i with releaseAfter := false } : Entry).mark y ≠ .lateConnect := by cases y <;> exact h
  have hd : ({ s.entry i with releaseAfter := false } : Entry).done y = true := by cases y <;> exact hd
  exact (if_neg hm).trans (if_pos hd)

theorem State.parkReleased_idle (h : (s.entry i).mark y ≠ .lateConnect) (hd : (s.entry i).done y = false) :
    s.parkReleased i y = (s.putEntry i { s.entry i with releaseAfter := false }).becomeIdle i := by
  have hm : ({ s.entry i with releaseAfter := false } : Entry).mark y ≠ .lateConnect := by cases y <;> exact h
  have hd : ¬({ s.entry i with releaseAfter := false } : Entry).done y = true := by
    have := Bool.eq_false_iff.mp hd
    cases y <;> exact this
  exact (if_neg hm).trans (if_neg hd)

theorem State.parkResolve_waiting (h : (s.entry i).releaseAfter = false) :
    s.parkResolve i y = s.putEntry i (s.entry i).toWaiting := if_neg (by simp [h])

theorem State.parkResolve_released (h : (s.entry i).releaseAfter = true) : s.parkResolve i y = s.parkReleased i y :=
  if_pos h

/-- A RESTORING entry resolved; a completed join off the slot lies on a LINKED one (log entry 14). -/
theorem State.entry_parkResolve
    (h : s.endpointLinked ((s.entry i).endpoint y) = true ∨ (s.entry i).done y = false) :
    (s.parkResolve i y).entry i = (s.entry i).resolved y := by
  cases hr : (s.entry i).releaseAfter with
  | false => rw [State.parkResolve_waiting hr, State.entry_putEntry_self, Entry.resolved_waiting hr]
  | true =>
    rw [State.parkResolve_released hr]
    by_cases hm : (s.entry i).mark y = .lateConnect
    · rw [State.parkReleased_late hm, State.entry_putEntry_self, Entry.resolved_late hr hm]
    · cases hd : (s.entry i).done y with
      | false =>
        rw [State.parkReleased_idle hm hd, State.entry_becomeIdle_self, State.entry_putEntry_self,
          Entry.resolved_idle hr hm hd]
        rfl
      | true =>
        have hself := s.entry_putEntry_self i { s.entry i with releaseAfter := false, state := .releasing }
        have hend :
            ((s.putEntry i { s.entry i with releaseAfter := false, state := .releasing }).entry i).endpoint y =
            (s.entry i).endpoint y := by
          rw [hself]
          cases y <;> rfl
        have hl : (s.putEntry i { s.entry i with releaseAfter := false, state := .releasing }).endpointLinked
            ((s.entry i).endpoint y) = true := h.resolve_right (by simp [hd])
        rw [State.parkReleased_joined hm hd, State.entry_undoJoin (by rw [hend]; exact hl), hself,
          Entry.resolved_joined hr hm hd]
        cases y <;> rfl

/-! ## The endpoint off the departed slot -/

/-- The mark of an endpoint whose slot is still LINKED, by the answer to the withdrawal of its connect (R103). -/
def Entry.parkMark (e : Entry) (y : Side) (answer : WithdrawAnswer) : Mark :=
  if e.mark y = .connect then markAfterWithdraw answer .lateConnect .connect else e.mark y

/-- It is a late connect where it was one, or where the connect is in flight. -/
theorem Entry.parkMark_late {e : Entry} {answer : WithdrawAnswer} : e.parkMark y answer = .lateConnect ↔
    e.mark y = .lateConnect ∨ (e.mark y = .connect ∧ answer = .inFlight) := by
  unfold Entry.parkMark
  by_cases h : e.mark y = .connect
  · cases answer <;> simp [h, markAfterWithdraw]
  · simp [h]

theorem State.entry_parkOther_linked (hl : s.endpointLinked ((s.entry i).endpoint y) = true) :
    (s.parkOther i y).entry i = (s.entry i).setMark y ((s.entry i).parkMark y (s.withdrawAnswer i (.one y))) := by
  rw [State.parkOther, if_pos hl, Entry.parkMark]
  by_cases h : (s.entry i).mark y = .connect
  · rw [if_pos h, if_pos h, State.entry_withdrawConnect, if_pos rfl]
    exact congrArg (fun m => (s.entry i).setMark y (markAfterWithdraw (s.withdrawAnswer i (.one y)) .lateConnect m)) h
  · rw [if_neg h, if_neg h, Entry.setMark_self]

theorem State.entry_parkOther_away (hl : s.endpointLinked ((s.entry i).endpoint y) = false) :
    (s.parkOther i y).entry i = ((s.entry i).setMark y .none).setDone y false := by
  rw [State.parkOther, if_neg (by simp [hl]), State.entry_putEntry_self]

theorem State.link_parkOther (s : State) (i : EntryNo) (y : Side) (m : SlotNo) : (s.parkOther i y).link m =
    if s.endpointLinked ((s.entry i).endpoint y) = true ∧ (s.entry i).mark y = .connect ∧
      ((s.entry i).endpoint y).slot.toNat = m.val then (s.link m).withdraw i (.one y) else s.link m := by
  unfold State.parkOther
  by_cases hl : s.endpointLinked ((s.entry i).endpoint y) = true
  · by_cases hm : (s.entry i).mark y = .connect
    · rw [if_pos hl, if_pos hm, State.link_withdrawConnect]
      simp only [hl, hm, true_and]
      rfl
    · rw [if_pos hl, if_neg hm, if_neg fun h => hm h.2.1]
  · rw [if_neg hl, if_neg fun h => hl h.1]
    rfl

/-- The lists are resolved by a release order for a completed join. -/
theorem State.link_parkResolve (s : State) (i : EntryNo) (y : Side) (m : SlotNo) : (s.parkResolve i y).link m =
    (s.link m).append (if (s.entry i).releaseAfter = true ∧ (s.entry i).mark y ≠ .lateConnect ∧
      (s.entry i).done y = true ∧ ((s.entry i).endpoint y).slot.toNat = m.val ∧ (s.slot m).state = .linked then
        [(s.entry i).releaseOrder i y] else []) := by
  cases hr : (s.entry i).releaseAfter with
  | false =>
    rw [State.parkResolve_waiting hr, if_neg nofun, LinkUnit.append_nil]
    rfl
  | true =>
    rw [State.parkResolve_released hr]
    by_cases hm : (s.entry i).mark y = .lateConnect
    · rw [State.parkReleased_late hm, if_neg fun h => h.2.1 hm, LinkUnit.append_nil]
      rfl
    · cases hd : (s.entry i).done y with
      | false =>
        rw [State.parkReleased_idle hm hd, if_neg fun h => Bool.false_ne_true h.2.2.1, LinkUnit.append_nil]
        rfl
      | true =>
        rw [State.parkReleased_joined hm hd, State.link_undoJoin, State.entry_putEntry_self]
        simp only [hm, ne_eq, not_false_eq_true, true_and]
        cases y <;> rfl

/-! ## One entry parked -/

variable {n : SlotNo} {x : Side}

/-- A RESTORING entry once its endpoints on the departed slot are cleared and the other is seen to, before release-after
is resolved. -/
def State.parkCleared (s : State) (n : SlotNo) (i : EntryNo) : State :=
  if (s.entry i).on ((s.entry i).sideOff n) n then s.putEntry i ((s.entry i).clearOn n)
  else (s.parkOther i ((s.entry i).sideOff n)).putEntry i
    (((s.parkOther i ((s.entry i).sideOff n)).entry i).clearOn n)

theorem State.parkRestoring_eq (s : State) (n : SlotNo) (i : EntryNo) :
    s.parkRestoring n i = (s.parkCleared n i).parkResolve i ((s.entry i).sideOff n) := by
  unfold State.parkRestoring State.parkCleared
  dsimp only
  split <;> rfl

/-- An entry with no order outstanding and nothing joined. -/
def Entry.freed (e : Entry) : Entry := { e with markA := .none, markB := .none, doneA := false, doneB := false }

theorem Entry.resolved_freed (e : Entry) (y z : Side) : e.freed.resolved y = e.freed.resolved z := by
  cases y <;> cases z <;> rfl

/-- Both endpoints on the departed slot. -/
theorem State.entry_parkCleared_both (hx : (s.entry i).on x n = true) (hy : (s.entry i).on x.other n = true) :
    (s.parkCleared n i).entry i = (s.entry i).freed := by
  rw [State.parkCleared, if_pos (Entry.on_sideOff_both hx hy), State.entry_putEntry_self, Entry.clearOn_both hx hy]
  rfl

theorem State.parkCleared_one (hx : (s.entry i).on x n = true) (hy : (s.entry i).on x.other n = false) :
    s.parkCleared n i =
      (s.parkOther i x.other).putEntry i (((s.parkOther i x.other).entry i).clearOn n) := by
  rw [State.parkCleared, Entry.sideOff_one hx hy, if_neg (by simp [hy])]

/-- One endpoint on it, the other on a LINKED slot. -/
theorem State.entry_parkCleared_linked (hx : (s.entry i).on x n = true) (hy : (s.entry i).on x.other n = false)
    (hl : s.endpointLinked ((s.entry i).endpoint x.other) = true) : (s.parkCleared n i).entry i =
      (((s.entry i).setMark x.other ((s.entry i).parkMark x.other (s.withdrawAnswer i (.one x.other)))).setMark x
        .none).setDone x false := by
  rw [State.parkCleared_one hx hy, State.entry_putEntry_self, State.entry_parkOther_linked hl]
  refine Entry.clearOn_one ?_ ?_
  · rw [Entry.on_congr (e := s.entry i) (by cases x <;> rfl), hx]
  · rw [Entry.on_congr (e := s.entry i) (by cases x <;> rfl), hy]

/-- One endpoint on it, the other on a slot that has left LINKED too (log entry 14). -/
theorem State.entry_parkCleared_away (hx : (s.entry i).on x n = true) (hy : (s.entry i).on x.other n = false)
    (hl : s.endpointLinked ((s.entry i).endpoint x.other) = false) : (s.parkCleared n i).entry i =
      (s.entry i).freed := by
  rw [State.parkCleared_one hx hy, State.entry_putEntry_self, State.entry_parkOther_away hl, Entry.clearOn_one (x := x)]
  · cases x <;> rfl
  · rw [Entry.on_congr (e := s.entry i) (by cases x <;> rfl), hx]
  · rw [Entry.on_congr (e := s.entry i) (by cases x <;> rfl), hy]

/-- What is left of a RESTORING entry with an endpoint on the departed slot. -/
theorem State.entry_parkRestoring (hx : (s.entry i).on x n = true) :
    ((s.entry i).on x.other n = true ∨ s.endpointLinked ((s.entry i).endpoint x.other) = false →
      (s.parkRestoring n i).entry i = (s.entry i).freed.resolved x.other) ∧
    ((s.entry i).on x.other n = false → s.endpointLinked ((s.entry i).endpoint x.other) = true →
      (s.parkRestoring n i).entry i = Entry.resolved
        ((((s.entry i).setMark x.other ((s.entry i).parkMark x.other (s.withdrawAnswer i (.one x.other)))).setMark x
          .none).setDone x false) x.other) := by
  rw [State.parkRestoring_eq]
  refine ⟨fun h => ?_, fun hy hl => ?_⟩
  · have hfreed : (s.parkCleared n i).entry i = (s.entry i).freed := by
      cases hy : (s.entry i).on x.other n with
      | true => exact State.entry_parkCleared_both hx hy
      | false => exact State.entry_parkCleared_away hx hy (h.resolve_left (by simp [hy]))
    rw [State.entry_parkResolve (.inr (by rw [hfreed]; generalize (s.entry i).sideOff n = z; cases z <;> rfl)), hfreed,
      Entry.resolved_freed]
  · have hlinked := State.entry_parkCleared_linked hx hy hl
    have hend : (((s.parkCleared n i).entry i).endpoint x.other) = (s.entry i).endpoint x.other := by
      rw [hlinked]
      cases x <;> rfl
    have hkept : (s.parkCleared n i).endpointLinked ((s.entry i).endpoint x.other) = true := by
      rw [State.endpointLinked_congr (t := s) (by rw [State.parkCleared_one hx hy]; simp)]
      exact hl
    rw [Entry.sideOff_one hx hy, State.entry_parkResolve (.inl (by rw [hend]; exact hkept)), hlinked]

theorem State.parkEntry_off (h : (s.entry i).on .a n = false ∧ (s.entry i).on .b n = false) :
    State.parkEntry n s i = s := if_neg (by simp [h.1, h.2])

theorem State.parkEntry_idle (hs : (s.entry i).state = .idle) : State.parkEntry n s i = s := by
  simp only [State.parkEntry, hs, ite_self]

section
variable (h : (s.entry i).on .a n = true ∨ (s.entry i).on .b n = true)
include h

theorem State.parkEntry_cleared (hs : (s.entry i).state = .waiting ∨ (s.entry i).state = .faulted) :
    State.parkEntry n s i = s.putEntry i ((s.entry i).clearOn n) := by
  have hon := (Bool.or_eq_true ..).mpr h
  rcases hs with hs | hs <;> simp only [State.parkEntry, hon, hs, if_true]

theorem State.parkEntry_live (hs : (s.entry i).state = .live) :
    State.parkEntry n s i = s.putEntry i ((s.entry i).clearOn n).toWaiting := by
  simp only [State.parkEntry, (Bool.or_eq_true ..).mpr h, hs, if_true]

theorem State.parkEntry_releasing (hs : (s.entry i).state = .releasing) :
    State.parkEntry n s i = (s.putEntry i ((s.entry i).clearOn n)).settleReleasing i := by
  simp only [State.parkEntry, (Bool.or_eq_true ..).mpr h, hs, if_true]

theorem State.parkEntry_restoring (hs : (s.entry i).state = .restoring) :
    State.parkEntry n s i = s.parkRestoring n i := by
  simp only [State.parkEntry, (Bool.or_eq_true ..).mpr h, hs, if_true]

end

/-- A departure moves every entry with an endpoint on the slot out of RESTORING and LIVE (R103). -/
theorem State.parkEntry_state (hx : (s.entry i).on x n = true)
    (hs : (s.entry i).state ∈ [EntryState.restoring, .live]) :
    ((State.parkEntry n s i).entry i).state ∉ [EntryState.restoring, .live] := by
  have hon : (s.entry i).on .a n = true ∨ (s.entry i).on .b n = true := by
    cases x with
    | a => exact .inl hx
    | b => exact .inr hx
  rcases List.mem_pair.mp hs with hs | hs
  · rw [State.parkEntry_restoring hon hs]
    obtain ⟨hfreed, hlinked⟩ := State.entry_parkRestoring hx
    cases hy : (s.entry i).on x.other n with
    | true =>
      rw [hfreed (.inl hy)]
      exact Entry.resolved_state
    | false =>
      cases hl : s.endpointLinked ((s.entry i).endpoint x.other) with
      | true =>
        rw [hlinked hy hl]
        exact Entry.resolved_state
      | false =>
        rw [hfreed (.inr hl)]
        exact Entry.resolved_state
  · rw [State.parkEntry_live hon hs, State.entry_putEntry_self]
    simp [Entry.toWaiting]

end

/-! ## The lists -/

/-- What a departure notice does to the list of slot m for one entry: a connect off the departed slot withdrawn, a
completed join off it undone (R103). -/
def State.parkLink (s : State) (n m : SlotNo) (l : LinkUnit) (i : EntryNo) : LinkUnit :=
  let e := s.entry i
  let y := if e.on .a n = true then Side.b else Side.a
  let l' := if e.mark y = .connect then l.withdraw i (.one y) else l
  let late := e.mark y = .lateConnect ∨ (e.mark y = .connect ∧ s.withdrawAnswer i (.one y) = .inFlight)
  if e.state ≠ .restoring ∨ e.on .a n = e.on .b n ∨ s.endpointLinked (e.endpoint y) = false ∨
      (e.endpoint y).slot.toNat ≠ m.val then l
  else if e.releaseAfter = true ∧ ¬late ∧ e.done y = true then
    { l' with orders := l'.orders ++ [⟨.release, i, .one y, (e.endpoint y).port, none, none, none, false⟩] }
  else l'

section
variable {s : State} {i : EntryNo} {n m : SlotNo} {x : Side}

theorem State.Agrees.parkLink {t : State} (h : s.Agrees i t) (n m : SlotNo) (l : LinkUnit) :
    t.parkLink n m l i = s.parkLink n m l i := by
  simp only [State.parkLink, h.entry, h.endpointLinked, h.withdrawAnswer]

theorem State.parkLink_kept {l : LinkUnit} (h : (s.entry i).state ≠ .restoring ∨
    (s.entry i).on .a n = (s.entry i).on .b n ∨
    s.endpointLinked ((s.entry i).endpoint ((s.entry i).sideOff n)) = false ∨
    ((s.entry i).endpoint ((s.entry i).sideOff n)).slot.toNat ≠ m.val) : s.parkLink n m l i = l := if_pos h

theorem State.link_parkRestoring_both (hx : (s.entry i).on x n = true) (hy : (s.entry i).on x.other n = true)
    (m : SlotNo) : (s.parkRestoring n i).link m = s.link m := by
  have hdone : ((s.parkCleared n i).entry i).done ((s.entry i).sideOff n) = false := by
    rw [State.entry_parkCleared_both hx hy]
    generalize (s.entry i).sideOff n = z
    cases z <;> rfl
  rw [State.parkRestoring_eq, State.link_parkResolve, if_neg (by simp [hdone]), LinkUnit.append_nil, State.parkCleared,
    if_pos (Entry.on_sideOff_both hx hy)]
  rfl

theorem State.link_parkCleared_one (hx : (s.entry i).on x n = true) (hy : (s.entry i).on x.other n = false)
    (m : SlotNo) : (s.parkCleared n i).link m = (s.parkOther i x.other).link m := by
  rw [State.parkCleared_one hx hy]
  rfl

theorem State.link_parkRestoring_away (hx : (s.entry i).on x n = true) (hy : (s.entry i).on x.other n = false)
    (hl : s.endpointLinked ((s.entry i).endpoint x.other) = false) (m : SlotNo) :
    (s.parkRestoring n i).link m = s.link m := by
  have hdone : ((s.parkCleared n i).entry i).done x.other = false := by
    rw [State.entry_parkCleared_away hx hy hl]
    cases x <;> rfl
  rw [State.parkRestoring_eq, Entry.sideOff_one hx hy, State.link_parkResolve, if_neg (by simp [hdone]),
    LinkUnit.append_nil, State.link_parkCleared_one hx hy, State.link_parkOther, if_neg (by simp [hl])]

theorem State.parkLink_one {l : LinkUnit} (hs : (s.entry i).state = .restoring) (hx : (s.entry i).on x n = true)
    (hy : (s.entry i).on x.other n = false) (hl : s.endpointLinked ((s.entry i).endpoint x.other) = true)
    (hm : ((s.entry i).endpoint x.other).slot.toNat = m.val) : s.parkLink n m l i =
      (if (s.entry i).mark x.other = .connect then l.withdraw i (.one x.other) else l).append
        (if (s.entry i).releaseAfter = true ∧
          (s.entry i).parkMark x.other (s.withdrawAnswer i (.one x.other)) ≠ .lateConnect ∧
          (s.entry i).done x.other = true then [(s.entry i).releaseOrder i x.other] else []) := by
  have hside : (if (s.entry i).on .a n = true then Side.b else Side.a) = x.other := Entry.sideOff_one hx hy
  have hab : (s.entry i).on .a n ≠ (s.entry i).on .b n := by
    cases x with
    | a => exact fun h => Bool.false_ne_true (hy.symm.trans (h.symm.trans hx))
    | b => exact fun h => Bool.false_ne_true (hy.symm.trans (h.trans hx))
  have hnot : ¬((s.entry i).state ≠ .restoring ∨ (s.entry i).on .a n = (s.entry i).on .b n ∨
      s.endpointLinked ((s.entry i).endpoint x.other) = false ∨
      ((s.entry i).endpoint x.other).slot.toNat ≠ m.val) := by simp [hs, hab, hl, hm]
  unfold State.parkLink
  dsimp only
  rw [hside, if_neg hnot]
  simp only [ne_eq, Entry.parkMark_late]
  split
  · rfl
  · exact (LinkUnit.append_nil _).symm

/-- The list of the slot of the endpoint off the departed one. -/
theorem State.link_parkRestoring_linked (hs : (s.entry i).state = .restoring) (hx : (s.entry i).on x n = true)
    (hy : (s.entry i).on x.other n = false) (hl : s.endpointLinked ((s.entry i).endpoint x.other) = true) (m : SlotNo) :
    (s.parkRestoring n i).link m = s.parkLink n m (s.link m) i := by
  have hside := Entry.sideOff_one hx hy
  have hentry := State.entry_parkCleared_linked hx hy hl
  have hend : ((s.parkCleared n i).entry i).endpoint x.other = (s.entry i).endpoint x.other := by
    rw [hentry]
    cases x <;> rfl
  rw [State.parkRestoring_eq, hside, State.link_parkResolve, State.link_parkCleared_one hx hy, State.link_parkOther,
    hend]
  by_cases hm : ((s.entry i).endpoint x.other).slot.toNat = m.val
  · have hlm : (s.slot m).state = .linked := (State.endpointLinked_iff hm).mp hl
    have hslot : ((s.parkCleared n i).slot m).state = .linked := by
      rw [State.parkCleared_one hx hy]
      simpa using hlm
    have hmark : ((s.parkCleared n i).entry i).mark x.other =
        (s.entry i).parkMark x.other (s.withdrawAnswer i (.one x.other)) := by
      rw [hentry]
      cases x <;> rfl
    have hdone : ((s.parkCleared n i).entry i).done x.other = (s.entry i).done x.other := by
      rw [hentry]
      cases x <;> rfl
    have hrelease : ((s.parkCleared n i).entry i).releaseAfter = (s.entry i).releaseAfter := by
      rw [hentry]
      cases x <;> rfl
    have horder : ((s.parkCleared n i).entry i).releaseOrder i x.other = (s.entry i).releaseOrder i x.other := by
      rw [Entry.releaseOrder, hend]
      rfl
    rw [State.parkLink_one hs hx hy hl hm, hmark, hdone, hrelease, horder]
    simp only [hl, hm, hslot, true_and, and_true]
  · rw [if_neg fun h => hm h.2.2, if_neg fun h => hm h.2.2.2.1, LinkUnit.append_nil,
      State.parkLink_kept (.inr (.inr (.inr (by rw [hside]; exact hm))))]

theorem State.link_parkEntry (s : State) (n m : SlotNo) (i : EntryNo) :
    (State.parkEntry n s i).link m = s.parkLink n m (s.link m) i := by
  by_cases hoff : (s.entry i).on .a n = false ∧ (s.entry i).on .b n = false
  · rw [State.parkEntry_off hoff, State.parkLink_kept (.inr (.inl (hoff.1.trans hoff.2.symm)))]
  · obtain ⟨x, hx⟩ : ∃ x, (s.entry i).on x n = true := by
      by_contra h
      exact hoff ⟨Bool.eq_false_iff.mpr fun ha => h ⟨.a, ha⟩, Bool.eq_false_iff.mpr fun hb => h ⟨.b, hb⟩⟩
    have hon : (s.entry i).on .a n = true ∨ (s.entry i).on .b n = true := by
      cases x with
      | a => exact .inl hx
      | b => exact .inr hx
    by_cases hs : (s.entry i).state = .restoring
    · rw [State.parkEntry_restoring hon hs]
      cases hy : (s.entry i).on x.other n with
      | true =>
        have hab : (s.entry i).on .a n = (s.entry i).on .b n := by
          cases x with
          | a => exact hx.trans hy.symm
          | b => exact hy.trans hx.symm
        rw [State.link_parkRestoring_both hx hy, State.parkLink_kept (.inr (.inl hab))]
      | false =>
        cases hl : s.endpointLinked ((s.entry i).endpoint x.other) with
        | true => exact State.link_parkRestoring_linked hs hx hy hl m
        | false =>
          rw [State.link_parkRestoring_away hx hy hl,
            State.parkLink_kept (.inr (.inr (.inl (by rw [Entry.sideOff_one hx hy]; exact hl))))]
    · rw [State.parkLink_kept (.inl hs)]
      cases h : (s.entry i).state with
      | idle => rw [State.parkEntry_idle h]
      | restoring => exact absurd h hs
      | releasing =>
        rw [State.parkEntry_releasing hon h, State.link_settleReleasing]
        rfl
      | live =>
        rw [State.parkEntry_live hon h]
        rfl
      | waiting =>
        rw [State.parkEntry_cleared hon (.inl h)]
        rfl
      | faulted =>
        rw [State.parkEntry_cleared hon (.inr h)]
        rfl

end

/-! ## The walk -/

section
variable (s : State) (i : EntryNo) (n : SlotNo)

theorem State.LocalTo.parkOther (x : Side) : s.LocalTo i (s.parkOther i x) := by
  unfold State.parkOther
  split
  · split
    · exact .withdrawConnect ..
    · exact .refl ..
  · exact .putEntry ..

theorem State.LocalTo.parkReleased (x : Side) : s.LocalTo i (s.parkReleased i x) := by
  unfold State.parkReleased
  dsimp only
  split
  · exact .putEntry ..
  split
  · exact (putEntry ..).trans (.undoJoin ..)
  · exact (putEntry ..).trans (.becomeIdle ..)

theorem State.LocalTo.parkResolve (x : Side) : s.LocalTo i (s.parkResolve i x) := by
  unfold State.parkResolve
  split
  · exact .parkReleased ..
  · exact .putEntry ..

theorem State.LocalTo.parkRestoring : s.LocalTo i (s.parkRestoring n i) := by
  rw [State.parkRestoring_eq]
  refine trans ?_ (.parkResolve ..)
  unfold State.parkCleared
  split
  · exact .putEntry ..
  · exact (parkOther ..).trans (.putEntry ..)

theorem State.LocalTo.parkEntry : s.LocalTo i (State.parkEntry n s i) := by
  unfold State.parkEntry
  dsimp only
  split
  · split
    case h_1 => exact .refl ..
    case h_3 => exact .parkRestoring ..
    case h_5 => exact (putEntry ..).trans (.settleReleasing ..)
    all_goals exact .putEntry ..
  · exact .refl ..

end

/-- A Link Unit that has lost orders, none of them of those that stay, and has been given release orders. -/
structure LinkUnit.Parks (stays : Order → Bool) (l l' : LinkUnit) : Prop where
  only : l' = { l with orders := l'.orders }
  stay : ∃ added : List Order, (∀ o ∈ added, o.kind = .release ∧ o.inFlight = false) ∧
    l'.orders.filter stays = l.orders.filter stays ++ added.filter stays

namespace LinkUnit.Parks

variable {stays : Order → Bool} {l m k : LinkUnit}

theorem of_thins (h : Thins stays l m) : Parks stays l m :=
  ⟨h.only, [], nofun, by rw [h.stay, List.filter_nil, List.append_nil]⟩

theorem append {o : Order} (h : o.kind = .release ∧ o.inFlight = false) (l : LinkUnit) :
    Parks stays l { l with orders := l.orders ++ [o] } :=
  ⟨rfl, [o], by simpa using h, by rw [List.filter_append]⟩

theorem trans (h : Parks stays l m) (g : Parks stays m k) : Parks stays l k where
  only := by
    have hm := h.only
    have hk := g.only
    rw [hm] at hk
    exact hk
  stay := by
    obtain ⟨a, ha, hm⟩ := h.stay
    obtain ⟨b, hb, hk⟩ := g.stay
    refine ⟨a ++ b, fun o ho => (List.mem_append.mp ho).elim (ha o) (hb o), ?_⟩
    rw [hk, hm, List.filter_append, List.append_assoc]

theorem foldl {α : Type} {f : LinkUnit → α → LinkUnit} (hf : ∀ l i, Parks stays l (f l i)) (is : List α)
    (l : LinkUnit) : Parks stays l (is.foldl f l) := by
  induction is generalizing l with
  | nil => exact of_thins (.refl l)
  | cons i is ih => exact (hf l i).trans (ih _)

end LinkUnit.Parks

theorem State.parks_parkLink (s : State) (n m : SlotNo) (l : LinkUnit) (i : EntryNo) :
    LinkUnit.Parks s.sagStays l (s.parkLink n m l i) := by
  unfold State.parkLink
  dsimp only
  generalize (if (s.entry i).on .a n = true then Side.b else Side.a) = y
  split
  · exact .of_thins (.refl l)
  · rename_i hs
    have hs := not_not.mp (not_or.mp hs).1
    have hl : LinkUnit.Parks s.sagStays l (if (s.entry i).mark y = .connect then l.withdraw i (.one y) else l) := by
      split
      · rename_i hm
        refine .of_thins (.withdraw (fun o ho hf => ?_) l)
        obtain ⟨rfl, hends⟩ := Order.isFor_iff.mp ho
        have hlead : (s.entry o.entry).mark o.ends.lead = .connect := by rw [hends]; exact hm
        simp [State.sagStays, hf, hs, hlead]
      · exact .of_thins (.refl l)
    split
    · exact hl.trans (.append ⟨rfl, rfl⟩ _)
    · exact hl

/-! ## What the statement says of one entry -/

/-- A RESTORING entry with one endpoint on the departed slot, resolved by the mark of the other. -/
theorem Entry.resolved_parked (e : Entry) (x : Side) (m : Mark) :
    let cleared := ((e.setMark x.other m).setMark x .none).setDone x false
    let parked := (({ e with releaseAfter := false }.setMark x .none).setDone x false)
    (e.releaseAfter = false → cleared.resolved x.other =
      { (e.setMark x .none).setMark x.other m with state := .waiting, doneA := false, doneB := false }) ∧
    (e.releaseAfter = true → m = .lateConnect → cleared.resolved x.other =
      { parked.setMark x.other .connectThenRelease with state := .releasing }) ∧
    (e.releaseAfter = true → m ≠ .lateConnect → e.done x.other = true → cleared.resolved x.other =
      { parked.setMark x.other .release with state := .releasing }) ∧
    (e.releaseAfter = true → m ≠ .lateConnect → e.done x.other = false → cleared.resolved x.other = e.toIdle) := by
  intro cleared parked
  have hmark : cleared.mark x.other = m := by cases x <;> rfl
  have hdone : cleared.done x.other = e.done x.other := by cases x <;> rfl
  have hrelease : cleared.releaseAfter = e.releaseAfter := by cases x <;> rfl
  rw [← hrelease, ← hdone]
  refine ⟨fun hr => ?_, fun hr hm => ?_, fun hr hm hd => ?_, fun hr hm hd => ?_⟩
  · rw [Entry.resolved_waiting hr]
    cases x <;> rfl
  · rw [Entry.resolved_late hr (hmark.trans hm)]
    subst hm
    cases x <;> rfl
  · rw [Entry.resolved_joined hr (hmark.symm ▸ hm) hd]
    cases x <;> rfl
  · rw [Entry.resolved_idle hr (hmark.symm ▸ hm) hd]
    cases x <;> rfl

theorem Entry.resolved_freed_eq (e : Entry) (y : Side) :
    (e.releaseAfter = false → e.freed.resolved y =
      { e with state := .waiting, doneA := false, doneB := false, markA := .none, markB := .none }) ∧
    (e.releaseAfter = true → e.freed.resolved y = e.toIdle) := by
  have hmark : e.freed.mark y = .none := by cases y <;> rfl
  have hdone : e.freed.done y = false := by cases y <;> rfl
  refine ⟨fun hr => ?_, fun hr => ?_⟩
  · rw [Entry.resolved_waiting (e := e.freed) hr]
    rfl
  · rw [Entry.resolved_idle (e := e.freed) hr (by rw [hmark]; nofun) hdone]
    rfl

/-- The state in which a departure notice walks through the table: the notice is taken. -/
def State.noticeTaken (s : State) (n : SlotNo) : State :=
  { s with notices := { s.notices with departCircuits := s.notices.departCircuits.erase n } }

/-- An entry outside IDLE is parked as if it were the only one. -/
theorem State.entry_parkSlot {s : State} {i : EntryNo} (h : AgeListOk s) (n : SlotNo) (hi : (s.entry i).state ≠ .idle) :
    ∃ u, s.Agrees i u ∧ (s.parkSlot n).entry i = (State.parkEntry n u i).entry i := by
  obtain ⟨u, hu, hfold⟩ := foldl_entry (fun s i => State.LocalTo.parkEntry s i n) h.once ((h.holds i).mpr hi)
    (s.noticeTaken n)
  exact ⟨u, ⟨hu.entry, hu.orders, hu.slots⟩, hfold⟩

theorem State.entry_parkSlot_idle {s : State} {i : EntryNo} (h : AgeListOk s) (n : SlotNo)
    (hi : (s.entry i).state = .idle) : (s.parkSlot n).entry i = s.entry i :=
  (foldl_agrees (fun s i => State.LocalTo.parkEntry s i n) (fun hmem => (h.holds i).mp hmem hi) (s.noticeTaken n)).entry

/-- A departure with an endpoint on the slot has moved the entry out of RESTORING and LIVE (R103). -/
theorem State.parkSlot_state {s : State} {i : EntryNo} {n : SlotNo} {x : Side} (h : AgeListOk s)
    (hs : (s.entry i).state ∈ [EntryState.restoring, .live]) (hx : (s.entry i).on x n = true) :
    ((s.parkSlot n).entry i).state ∉ [EntryState.restoring, .live] := by
  have hi : (s.entry i).state ≠ .idle := fun hidle => by simp [hidle] at hs
  obtain ⟨u, hu, hfold⟩ := State.entry_parkSlot h n hi
  rw [hfold]
  exact State.parkEntry_state (by rw [hu.entry]; exact hx) (by rw [hu.entry]; exact hs)

theorem State.link_parkSlot {s : State} (h : AgeListOk s) (n m : SlotNo) :
    (s.parkSlot n).link m = s.circuits.ageList.foldl (s.parkLink n m) (s.link m) :=
  foldl_link (fun s i => State.LocalTo.parkEntry s i n) h.once (s.noticeTaken n) fun u i _ hu => by
    rw [State.link_parkEntry, hu.parkLink]
    rfl

/-! ## The notice that an event waits for -/

theorem Entry.joined_iff {e : Entry} : e.joined = true ↔ e.state ∈ [EntryState.restoring, .live] := by
  simp [Entry.joined]

section
variable {s : State} {i : EntryNo}

theorem State.reachEntry_none (h : (s.entry i).state ∉ [EntryState.restoring, .live] ∨
    ∀ n ∈ s.notices.departCircuits, ¬((s.entry i).on .a n = true ∨ (s.entry i).on .b n = true)) :
    s.reachEntry i = s := by
  obtain he | ⟨n, hn, hj, hon, -⟩ := s.reachEntry_cases i
  · exact he
  · exact (h.elim (· (Entry.joined_iff.mp hj)) fun h => h n hn ((Bool.or_eq_true ..).mp hon)).elim

theorem State.reachEntry_first {before after : List SlotNo} {n : SlotNo}
    (hs : (s.entry i).state ∈ [EntryState.restoring, .live]) (hd : s.notices.departCircuits = before ++ n :: after)
    (hno : ∀ m ∈ before, ¬((s.entry i).on .a m = true ∨ (s.entry i).on .b m = true))
    (hn : (s.entry i).on .a n = true ∨ (s.entry i).on .b n = true) : s.reachEntry i = s.parkSlot n := by
  have hdue : s.noticeDue i = some n := by
    rw [State.noticeDue, if_pos (Entry.joined_iff.mpr hs), hd, List.find?_append,
      List.find?_eq_none.mpr fun m hm h => hno m hm ((Bool.or_eq_true ..).mp h), Option.none_or,
      List.find?_cons_of_pos (p := fun m => (s.entry i).on .a m || (s.entry i).on .b m) ((Bool.or_eq_true ..).mpr hn)]
  rw [State.reachEntry, hdue]

end

/-- Settles O49: each entry of the walk as if it were the only one, each list by what the entries do to it, and the
first notice of a slot of the entry. -/
theorem departureNoticeParksTheSlot : Obligations.DepartureNoticeParksTheSlot := by
  refine ⟨fun n s hp hmem hages => ?_, fun s i => ?_⟩
  · intro t
    refine ⟨State.event_of hp (List.contains_iff_mem.mpr hmem), fun i => ?_, State.link_parkSlot hages n, fun m => ?_,
      ?_, ?_⟩
    · intro e here cleared idle
      have hcleared : e.clearOn n = cleared := e.clearOn_eq n
      by_cases hidle : e.state = .idle
      · simp only [hidle]
        exact ⟨fun _ => State.entry_parkSlot_idle hages n hidle, by simp, nofun, nofun, nofun, fun _ => nofun⟩
      · obtain ⟨u, hu, hfold⟩ := State.entry_parkSlot hages n hidle
        have hue : u.entry i = e := hu.entry
        have hto {E : Entry} (hE : (State.parkEntry n u i).entry i = E) : t.entry i = E := hfold.trans hE
        have hoff (h : e.on .a n = false ∧ e.on .b n = false) : t.entry i = e :=
          hto (by rw [State.parkEntry_off (by rw [hue]; exact h), hue])
        have hcases : (e.on .a n = true ∨ e.on .b n = true) ∨ (e.on .a n = false ∧ e.on .b n = false) := by
          cases e.on .a n <;> cases e.on .b n <;> simp
        have hkept (h : e.on .a n = false ∧ e.on .b n = false) : t.entry i = cleared :=
          (hoff h).trans ((Entry.clearOn_off h).symm.trans hcleared)
        refine ⟨fun h => hoff (h.resolve_left hidle), fun hs => ?_, fun hs hon => hto ?_, fun hs hon ha hb => hto ?_,
          fun hs hm => ?_, fun x hs hx => ?_⟩
        · rcases hcases with hon | h
          · refine hto ?_
            rw [State.parkEntry_cleared (by rw [hue]; exact hon) (by rw [hue]; exact hs), State.entry_putEntry_self,
              hue,
              hcleared]
          · exact hkept h
        · rw [State.parkEntry_live (by rw [hue]; exact hon) (by rw [hue]; exact hs), State.entry_putEntry_self, hue,
            hcleared]
          rfl
        · have hnone : cleared.noMarks = true := Entry.noMarks_iff.mpr ⟨ha, hb⟩
          rw [State.parkEntry_releasing (by rw [hue]; exact hon) (by rw [hue]; exact hs), hue, hcleared,
            State.settleReleasing_last (e := cleared) hs hnone, State.entry_becomeIdle_self, State.entry_putEntry_self]
          rfl
        · rcases hcases with hon | h
          · have hsome : ¬cleared.noMarks = true := fun h => by
              obtain ⟨ha, hb⟩ := Entry.noMarks_iff.mp h
              exact hm.elim (· ha) (· hb)
            refine hto ?_
            rw [State.parkEntry_releasing (by rw [hue]; exact hon) (by rw [hue]; exact hs), hue, hcleared,
              State.settleReleasing_more (.inr hsome), State.entry_putEntry_self]
          · exact hkept h
        · have hon : e.on .a n = true ∨ e.on .b n = true := by
            cases x with
            | a => exact .inl hx
            | b => exact .inr hx
          have hrest : (State.parkEntry n u i).entry i = (u.parkRestoring n i).entry i := by
            rw [State.parkEntry_restoring (by rw [hue]; exact hon) (by rw [hue]; exact hs)]
          obtain ⟨hfreed, hlinked⟩ := State.entry_parkRestoring (s := u) (i := i) (n := n) (x := x)
            (by rw [hue]; exact hx)
          rw [hue, hu.endpointLinked] at hfreed
          rw [hue, hu.endpointLinked, hu.withdrawAnswer] at hlinked
          refine ⟨fun h => ?_, fun hy hl => ?_⟩
          · obtain ⟨hwaiting, hgone⟩ := e.resolved_freed_eq x.other
            have hE := hto (hrest.trans (hfreed h))
            exact ⟨fun hr => hE.trans (hwaiting hr), fun hr => hE.trans (hgone hr)⟩
          · intro y mark parked
            obtain ⟨hwaiting, hlate, hjoined, hgone⟩ := e.resolved_parked x mark
            have hE := hto (hrest.trans (hlinked hy hl))
            exact ⟨fun hr => hE.trans (hwaiting hr), fun hr hm => hE.trans (hlate hr hm),
              fun hr hm hd => hE.trans (hjoined hr hm hd), fun hr hm hd => hE.trans (hgone hr hm hd)⟩
    · obtain ⟨honly, hstay⟩ := LinkUnit.Parks.foldl (s.parks_parkLink n m) s.circuits.ageList (s.link m)
      have hlink : t.link m = s.circuits.ageList.foldl (s.parkLink n m) (s.link m) := State.link_parkSlot hages n m
      rw [hlink]
      exact ⟨honly, hstay⟩
    · obtain ⟨-, -, -, -, -, -, -, -, -, -, -, -, -, -, hphase, hlowest, htimer, -⟩ := s.parkSlot_leaves n
      apply State.eq_of_fields
      case h4 =>
        have hnotices : t.notices = (s.noticeTaken n).notices :=
          foldl_leaves (fun u : State => u.notices) (f := State.parkEntry n) (fun _ _ => by simp) _ _
        exact hnotices
      case h8 => exact RestoreEngine.eq_of_kept hphase hlowest htimer
      all_goals simp [t]
    · simp [t]
  · intro here
    refine ⟨State.reachEntry_none, fun before n after hp hages hs hd hno hn => ?_⟩
    have hmem : n ∈ s.notices.departCircuits := by rw [hd]; simp
    rw [State.reachEntry_first hs hd hno hn]
    refine ⟨State.event_of hp (List.contains_iff_mem.mpr hmem), ?_⟩
    rcases hn with hn | hn
    · exact State.parkSlot_state hages hs hn
    · exact State.parkSlot_state hages hs hn

end Sys2Proof.Machine
end
